-- ==== Sys2Proof/Word.lean ====
section
/-! DEFINITION. Word.lean: the word types of the FJ416 and their plainest arithmetic: bytes, 16-bit fields,
channel and detector sets as the link's masks (Table 13-2), and the map of a vector of records. -/

namespace Sys2Proof

/-- One byte of a frame (Table 13-2, U8). -/
abbrev Byte := BitVec 8

/-- A two-byte field (Table 13-2, U16), also a word of the sign chain (Table 13-9). -/
abbrev Word := BitVec 16

/-- A set of channels as the 16-bit channel mask of Table 13-2: bit n - 1 stands for channel n. -/
abbrev ChanSet := BitVec 16

/-- A set of detectors as the 24-bit detector mask of Table 13-2: bit n - 1 stands for detector n. -/
abbrev DetSet := BitVec 24

/-- A set of the 48 lamp outputs: output o = 3 (n - 1) + 0 red, + 1 amber, + 2 green of channel n (Table 13-2). -/
abbrev LampSet := BitVec 48

/-- Channel n of the book is index n - 1 here. -/
abbrev Chan := Fin 16

/-- Detector n of the book is index n - 1 here. -/
abbrev Det := Fin 24

/-- Preemption input n of the book is index n - 1 here. -/
abbrev Pre := Fin 4

/-- Tone line n of the book is index n - 1 here. -/
abbrev Line := Fin 8

/-- The set of the indices at which `p` holds. -/
def maskOf {n : Nat} (p : Fin n → Bool) : BitVec n := BitVec.ofFnLE p

/-- Membership of an index in a mask. -/
def has {n : Nat} (m : BitVec n) (i : Fin n) : Bool := m.getLsbD i.val

/-- The mask with index `i` added. -/
def insertBit {n : Nat} (m : BitVec n) (i : Fin n) : BitVec n := m ||| maskOf (fun j => j == i)

/-- The mask with index `i` taken out. -/
def eraseBit {n : Nat} (m : BitVec n) (i : Fin n) : BitVec n := m &&& ~~~ (maskOf (fun j => j == i))

/-- Every record of a bank replaced by a function of its index and itself. -/
def vmap {α β : Type} {n : Nat} (f : Fin n → α → β) (v : Vector α n) : Vector β n :=
  Vector.ofFn (fun i => f i (v.get i))

/-- One record of a bank replaced. -/
def vset {α : Type} {n : Nat} (v : Vector α n) (i : Fin n) (a : α) : Vector α n := v.set i.val a

/-- The number of a one-based field on the link: index + 1. -/
def number {n : Nat} (i : Fin n) : Nat := i.val + 1

/-- The index of a one-based number, when the number lies in 1 to n. -/
def indexOf (n : Nat) (b : Nat) : Option (Fin n) :=
  if h : 1 ≤ b ∧ b ≤ n then some ⟨b - 1, by omega⟩ else none

/-- A Boolean as the Flag byte of Table 13-2. -/
def flagByte (b : Bool) : Byte := if b then 1 else 0

/-- A Nat as one byte (its low eight bits). -/
def u8 (n : Nat) : Byte := BitVec.ofNat 8 n

/-- A two-byte field, most significant byte first. -/
def u16 (n : Nat) : List Byte :=
  let w := BitVec.ofNat 16 n
  [w.extractLsb' 8 8, w.extractLsb' 0 8]

/-- A four-byte field, most significant byte first. -/
def u32 (n : Nat) : List Byte :=
  let w := BitVec.ofNat 32 n
  [w.extractLsb' 24 8, w.extractLsb' 16 8, w.extractLsb' 8 8, w.extractLsb' 0 8]

/-- A raw two-byte field, most significant byte first. -/
def wordBytes (w : Word) : List Byte := [w.extractLsb' 8 8, w.extractLsb' 0 8]

end Sys2Proof
end

