-- ==== Sys2Proof/Config.lean ====
section
/-! DEFINITION. Config.lean: the fixed numbers of the part as the book gives them: capacities, limits, link
constants and the command and report kinds, and the one value that the book leaves free. -/

namespace Sys2Proof.Config

/-- Records of the step queue (Table 5, R34). -/
def queueCapacity : Nat := 16

/-- The count at which a conflict or a flash-green count faults (R123, R124). -/
def conflictLimit : Nat := 24

/-- Half-cycles that change a lamp status (R129). -/
def lampRun : Nat := 8

/-- Scan samples that change a detector or preemption level (R84). -/
def scanSamples : Nat := 3

/-- Scan samples that change the switch level (R139). -/
def switchSamples : Nat := 10

/-- The top of a presence or an absence timer: 255 minutes and one tenth (R95, R96, R104). -/
def presenceTop : Nat := 153001

/-- Tenths of one minute (R95). -/
def minute : Nat := 600

/-- Clean windows that clear CHATTER (R97). -/
def cleanWindows : Nat := 10

/-- Disagreeing reads that make the plug UNSTABLE (R25). -/
def disagreementLimit : Nat := 5

/-- The card code of a seated plug: cells 121 to 128 hold 1, 0, 1, 1, 0, 0, 1, 0, cell 121 as bit 0 (R23). -/
def cardCode : BitVec 8 := 0b01001101#8

/-- Good periods that lock (R155), and good periods that decide an AUTO frequency (R156). -/
def lockCount : Nat := 32
def decideCount : Nat := 8

/-- Samples of one supply window (R158). -/
def windowSamples : Nat := 16

/-- The hysteresis of the supply categories (R159). -/
def hysteresis : Nat := 6

/-- A crystal tenth, a scan tick and a millisecond in microseconds of the crystal (R152). -/
def tenthMicros : Nat := 100000
def scanMicros : Nat := 10000
def milliMicros : Nat := 1000

/-- The period of PCK at 20 kHz in microseconds, and the rising edges of a read (R22). -/
def plugPeriod : Nat := 50
def plugCells : Nat := 128

/-- A plug read lasts one PCK period of load strobe and 127 more to the sample of cell 128, 50 µs each: the book's
"about 6.4 ms" (R22; DEDUCED, log entry 34). -/
def readMicros : Nat := 6400

/-- The Monitor samples 3.0 ms after a crossing event (R120). -/
def monitorDelay : Nat := 3000

/-- Tone timing in milliseconds (R167 to R169). -/
def locatorCycle : Nat := 1000
def locatorWindow : Nat := 40
def walkCycle : Nat := 100
def walkWindow : Nat := 30
def confirmTime : Nat := 250

/-- The marker word of a sign exchange (R174). -/
def signMarker : Word := 0x5AA5#16

/-- The bits of a word of the chain, one SCK period each (R174). -/
def wordBits : Nat := 16

/-- The level that SDO is left at by the n-th exchange to end: the book states none, so this is a free value (R174, log
entry 14). -/
opaque sdoAfter : Nat → Bool

/-- The marker byte of a frame and the bounds of its length byte (R181). -/
def frameMarker : Byte := 0x7E#8
/-- The bit times of a character: start, eight data bits, parity, stop (R181). -/
def characterBits : Nat := 11
def minLength : Nat := 3
def maxLength : Nat := 62

/-- A bound of the model on the judgments of one moment, above any cascade that settings in their ranges allow, which is
below a thousand (log entry 6). -/
def settleFuel : Nat := 4096

/-- Command kinds of Table 13-4. -/
def kindIdentify : Byte := 0x01#8
def kindStatus : Byte := 0x02#8
def kindSetLink : Byte := 0x03#8
def kindSetChannel : Byte := 0x10#8
def kindReadChannel : Byte := 0x11#8
def kindSetDimming : Byte := 0x12#8
def kindLoadCompatibility : Byte := 0x18#8
def kindReadCompatibility : Byte := 0x19#8
def kindQueueStep : Byte := 0x20#8
def kindClearQueue : Byte := 0x21#8
def kindSetQueueMode : Byte := 0x22#8
def kindHold : Byte := 0x23#8
def kindForceEnd : Byte := 0x24#8
def kindReadQueue : Byte := 0x25#8
def kindPlaceCall : Byte := 0x28#8
def kindSetDetector : Byte := 0x30#8
def kindReadDetectors : Byte := 0x31#8
def kindSetPreempt : Byte := 0x38#8
def kindReadPreempt : Byte := 0x39#8
def kindReadFault : Byte := 0x40#8
def kindEnterControl : Byte := 0x48#8
def kindEnterFlash : Byte := 0x49#8
def kindResetFault : Byte := 0x4A#8
def kindSetStart : Byte := 0x4B#8
def kindSetTimebase : Byte := 0x50#8
def kindSetSupply : Byte := 0x51#8
def kindSetTone : Byte := 0x58#8
def kindSetSignChain : Byte := 0x60#8
def kindSetSign : Byte := 0x61#8
def kindReadSigns : Byte := 0x62#8

/-- The kind of a reply to an unknown kind (R184). -/
def kindUnknownReply : Byte := 0xFF#8

end Sys2Proof.Config
end

