-- ==== Sys2Proof/Syntax.lean ====
section
/-! DEFINITION. Syntax.lean: the commands of the FJ416, one constructor for each row of spec/opcode_table.json. The
first 46 are events of the field wiring, of the crystal and of the part's own timers; the others are the commands of
the host (Table 13-4), each with the tag and the raw field bytes of its frame. -/

namespace Sys2Proof

/-- A frame of the cabinet link without its marker, length and check bytes (Table 13-1). -/
structure Frame where
  kind : Byte
  tag : Byte
  fields : List Byte
  deriving DecidableEq, Repr

/-- The nineteen timing bytes of SET CHANNEL as the twelve raw fields they carry (Table 13-4). -/
structure TimingFields where
  minGreen : Word
  addedInitial : Byte
  maxInitial : Word
  maxGap : Byte
  minGap : Byte
  tbr : Word
  ttr : Word
  maxGreen : Word
  amber : Byte
  redClear : Byte
  walk : Word
  pedClear : Word
  deriving DecidableEq, Repr

/-- The thirteen raw bytes of SET DETECTOR (Table 13-4). -/
structure DetectorFields where
  number : Byte
  mode : Byte
  callMask : ChanSet
  extendMask : ChanSet
  delay : Byte
  locking : Byte
  maxPresence : Byte
  maxAbsence : Byte
  chatterLimit : Byte
  failAction : Byte
  wrongWay : Byte
  deriving DecidableEq, Repr

/-- The eighteen raw bytes of SET PREEMPT (Table 13-6). -/
structure PreemptFields where
  number : Byte
  priority : Byte
  delay : Byte
  locking : Byte
  minGreen : Byte
  pedTruncate : Byte
  pedClear : Byte
  trackSet : ChanSet
  trackTime : Word
  dwellSet : ChanSet
  dwellMin : Word
  maxPresence : Byte
  exitKind : Byte
  enable : Byte
  deriving DecidableEq, Repr

/-- The seven raw bytes of SET TONE (Table 13-4). -/
structure ToneFields where
  number : Byte
  channel : Byte
  button : Byte
  frequency : Byte
  dayVolume : Byte
  nightVolume : Byte
  flags : Byte
  deriving DecidableEq, Repr

/-- The eight raw bytes of SET SIGN (Table 13-4). -/
structure SignFields where
  entry : Byte
  source : Byte
  flags : Byte
  message : Byte
  messageGreen : Byte
  messageOther : Byte
  dayBright : Byte
  nightBright : Byte
  deriving DecidableEq, Repr

/-- The commands of the block: every row of spec/opcode_table.json. -/
inductive Instr where
  /-- RESET high or logic power applied; `straps` is BAUD1, BAUD0 (R138, R181). -/
  | hardwareReset (straps : BitVec 2)
  /-- One crystal millisecond (R152). -/
  | millisecond
  /-- One scan tick, with the levels it samples on DET1..24, PRE1..4 and MFS (R84, R104, R139). -/
  | scanTick (detInputs : BitVec 24) (preInputs : BitVec 4) (mfs : Bool)
  /-- A crystal tenth (R152, R157). -/
  | crystalTenth
  /-- A mains tenth (R157). -/
  | mainsTenth
  /-- An edge on ZXI at a moment in microseconds of the crystal since hardware reset (R153). -/
  | realCrossingEvent (moment : Nat)
  /-- A synthetic crossing event (R154). -/
  | syntheticCrossingEvent
  /-- The Monitor's sample of the 48 sense inputs (R120). -/
  | monitorSample (sense : LampSet)
  /-- A sample of MSENSE (R158). -/
  | supplySample (reading : Byte)
  /-- Cell 128 of a plug read sampled: cell n is bit n - 1 of `cells` (R22, R24). -/
  | plugReadComplete (cells : BitVec 128)
  /-- An amber interval expires (R7). -/
  | amberExpiry (c : Chan)
  /-- A red clearance expires (R7). -/
  | redClearanceExpiry (c : Chan)
  /-- A walk expires (R8). -/
  | walkExpiry (c : Chan)
  /-- A pedestrian clearance expires (R9). -/
  | pedClearExpiry (c : Chan)
  /-- The FIXED step timer reaches 0 (R49). -/
  | stepTimerExpiry
  /-- A channel's initial-green timer reaches 0 (R69). -/
  | initialGreenRunOut (c : Chan)
  /-- A channel's gap timer reaches 0 with no extending detector occupied (R72). -/
  | gapOut (c : Chan)
  /-- A channel's max timer reaches 0 (R73). -/
  | maxOut (c : Chan)
  /-- A detector's third differing sample (R84). -/
  | detectorLevelChange (d : Det)
  /-- A detector's delay is reached (R90). -/
  | delayReached (d : Det)
  /-- A detector enters STUCK_ON (R95). -/
  | stuckOn (d : Det)
  /-- A detector enters NO_ACTIVITY (R96). -/
  | noActivity (d : Det)
  /-- A detector enters CHATTER (R97). -/
  | chatter (d : Det)
  /-- A chatter window ends (R97). -/
  | chatterWindowEnd
  /-- A preemption input's third differing sample (R104). -/
  | preemptInputLevelChange (p : Pre)
  /-- A preemption input becomes stuck (R104). -/
  | preemptStuck (p : Pre)
  /-- A preempt's delay timer reaches 0 (R105). -/
  | preemptDelayExpiry (p : Pre)
  /-- The track timer reaches 0 (R110). -/
  | trackEnd
  /-- The dwell timer reaches 0 with the input inactive (R111). -/
  | dwellEnd
  /-- A channel's red-fail timer reaches the red fail time (R126). -/
  | redFail (c : Chan)
  /-- The start-flash timer reaches 0 (R138). -/
  | startFlashTimerExpiry
  /-- The entry-red timer reaches 0 (R141). -/
  | entryRedEnd
  /-- The manual flash switch's tenth differing sample (R139). -/
  | manualFlashSwitchEdge
  /-- A locator cycle returns to 0 (R167). -/
  | locatorTick (l : Line)
  /-- A walk cycle returns to 0 (R168). -/
  | walkTick (l : Line)
  /-- A confirm timer reaches 0 (R169). -/
  | confirmEnd (l : Line)
  /-- The sign period timer reaches 0 (R175). -/
  | signPeriodExpiry
  /-- A sign exchange starts (R173 to R175). -/
  | signExchangeStart
  /-- A sign exchange's shift ends; `received` holds positions 0 to 8 of the buffer as received (R174, R176). -/
  | signExchangeEnd (received : Vector Word 9)
  /-- A character on RXD taken at its stop bit (R181, R182). -/
  | receiveCharacter (data : Byte) (parity : Bool) (stop : Bool)
  /-- The gap limit of the receiver is exceeded (R182). -/
  | gapError
  /-- A frame of a kind that is no command kind passes its check (R184). -/
  | unknownKind (kind : Byte) (tag : Byte) (fields : List Byte)
  /-- The transmitter ends a frame (R185). -/
  | frameSent
  /-- An idle transmitter starts a report (R185). -/
  | sendReport
  /-- The status timer reaches 0 (R186). -/
  | statusTimerExpiry
  /-- The supervision timer reaches 0 (R187). -/
  | supervisionExpiry
  /-- IDENTIFY (R188). -/
  | identify (tag : Byte)
  /-- STATUS (R188). -/
  | status (tag : Byte)
  /-- SET LINK (R189). -/
  | setLink (tag : Byte) (supervision : Byte) (enable : Word) (period : Byte)
  /-- SET CHANNEL (R17). -/
  | setChannel (tag : Byte) (channel : Byte) (typeCode : Byte) (flags : Byte) (recallCode : Byte) (timing : TimingFields)
  /-- READ CHANNEL (R19). -/
  | readChannel (tag : Byte) (channel : Byte)
  /-- SET DIMMING (R15). -/
  | setDimming (tag : Byte) (on : Byte) (k : Byte)
  /-- LOAD COMPATIBILITY (R32). -/
  | loadCompatibility (tag : Byte) (rows : Vector ChanSet 16)
  /-- READ COMPATIBILITY (R33). -/
  | readCompatibility (tag : Byte)
  /-- QUEUE STEP (R36). -/
  | queueStep (tag : Byte) (mode : Byte) (skip : Byte) (greenSet : ChanSet) (stepTime : Word)
  /-- CLEAR QUEUE (R54). -/
  | clearQueue (tag : Byte)
  /-- SET QUEUE MODE (R55). -/
  | setQueueMode (tag : Byte) (mode : Byte)
  /-- HOLD (R52). -/
  | hold (tag : Byte) (on : Byte)
  /-- FORCE END (R53). -/
  | forceEnd (tag : Byte)
  /-- READ QUEUE (R56). -/
  | readQueue (tag : Byte) (first : Byte)
  /-- PLACE CALL (R66). -/
  | placeCall (tag : Byte) (mask : ChanSet)
  /-- SET DETECTOR (R100). -/
  | setDetector (tag : Byte) (f : DetectorFields)
  /-- READ DETECTORS (R94). -/
  | readDetectors (tag : Byte) (first : Byte) (count : Byte) (clear : Byte)
  /-- SET PREEMPT (R103). -/
  | setPreempt (tag : Byte) (f : PreemptFields)
  /-- READ PREEMPT (R117). -/
  | readPreempt (tag : Byte) (preempt : Byte)
  /-- READ FAULT (R133). -/
  | readFault (tag : Byte)
  /-- ENTER CONTROL (R140). -/
  | enterControl (tag : Byte)
  /-- ENTER FLASH (R142). -/
  | enterFlash (tag : Byte)
  /-- RESET FAULT (R146). -/
  | resetFault (tag : Byte)
  /-- SET START (R150). -/
  | setStart (tag : Byte) (startFlash : Byte) (entryRed : Byte) (shortOutage : Byte) (redFailTime : Byte)
  /-- SET TIMEBASE (R160). -/
  | setTimebase (tag : Byte) (nominal : Byte)
  /-- SET SUPPLY (R161). -/
  | setSupply (tag : Byte) (dropout : Byte) (sag : Byte) (high : Byte)
  /-- SET TONE (R164). -/
  | setTone (tag : Byte) (f : ToneFields)
  /-- SET SIGN CHAIN (R177). -/
  | setSignChain (tag : Byte) (count : Byte) (period : Byte) (gap : Byte)
  /-- SET SIGN (R172). -/
  | setSign (tag : Byte) (f : SignFields)
  /-- READ SIGNS (R179). -/
  | readSigns (tag : Byte)
  deriving DecidableEq, Repr

end Sys2Proof
end

