-- ==== Sys2Proof/WellFormed.lean ====
section
/-! DEFINITION. WellFormed.lean: the checks on a command that its operand types do not make. The raw field bytes of a
host command may hold any value: the meanings refuse or clamp them as the book says. -/

namespace Sys2Proof

/-- The command kinds of Table 13-4. -/
def commandKinds : List Byte :=
  [Config.kindIdentify, Config.kindStatus, Config.kindSetLink, Config.kindSetChannel, Config.kindReadChannel,
   Config.kindSetDimming, Config.kindLoadCompatibility, Config.kindReadCompatibility, Config.kindQueueStep,
   Config.kindClearQueue, Config.kindSetQueueMode, Config.kindHold, Config.kindForceEnd, Config.kindReadQueue,
   Config.kindPlaceCall, Config.kindSetDetector, Config.kindReadDetectors, Config.kindSetPreempt,
   Config.kindReadPreempt, Config.kindReadFault, Config.kindEnterControl, Config.kindEnterFlash,
   Config.kindResetFault, Config.kindSetStart, Config.kindSetTimebase, Config.kindSetSupply, Config.kindSetTone,
   Config.kindSetSignChain, Config.kindSetSign, Config.kindReadSigns]

/-- Whether a kind is a command kind (R184). -/
def isCommandKind (k : Byte) : Bool := commandKinds.contains k

/-- A frame fits the link: its length byte N = fields + 3 is at most 62 (R181). -/
def fieldsFit (fields : List Byte) : Bool := fields.length + Config.minLength ≤ Config.maxLength

/-- An UNKNOWN_KIND command names a kind that is no command kind, and its frame fits the link (R181, R184). -/
def Instr.wellFormed : Instr → Bool
  | .unknownKind kind _ fields => !isCommandKind kind && fieldsFit fields
  | _ => true

end Sys2Proof
end

