-- ==== Sys2Proof/Decode.lean ====
section
/-! DEFINITION. Decode.lean: the opcode table gives no row any bits, so `decodeTableWord` reads no command. What the
block does decode are the frames of the cabinet link: this file holds the frame of every host command, the command
that a frame spells, and the bytes of a frame on the line (Tables 13-1 and 13-4). -/

namespace Sys2Proof

/-- The command a word of the opcode table spells: no row of the table has bits. -/
def decodeTableWord (_nbits _w : Nat) : Option Instr := none

/-- The byte at a place of a frame's fields. -/
def byteAt (fs : List Byte) (k : Nat) : Byte := fs.getD k 0

/-- The two-byte field at a place of a frame's fields, most significant byte first. -/
def wordAt (fs : List Byte) (k : Nat) : Word := byteAt fs k ++ byteAt fs (k + 1)

/-- The nineteen bytes of a timing set (Table 13-4). -/
def TimingFields.bytes (t : TimingFields) : List Byte :=
  wordBytes t.minGreen ++ [t.addedInitial] ++ wordBytes t.maxInitial ++ [t.maxGap, t.minGap] ++ wordBytes t.tbr ++
    wordBytes t.ttr ++ wordBytes t.maxGreen ++ [t.amber, t.redClear] ++ wordBytes t.walk ++ wordBytes t.pedClear

/-- The timing set whose nineteen bytes begin at place `k`. -/
def TimingFields.parse (fs : List Byte) (k : Nat) : TimingFields :=
  { minGreen := wordAt fs k, addedInitial := byteAt fs (k + 2), maxInitial := wordAt fs (k + 3),
    maxGap := byteAt fs (k + 5), minGap := byteAt fs (k + 6), tbr := wordAt fs (k + 7), ttr := wordAt fs (k + 9),
    maxGreen := wordAt fs (k + 11), amber := byteAt fs (k + 13), redClear := byteAt fs (k + 14),
    walk := wordAt fs (k + 15), pedClear := wordAt fs (k + 17) }

/-- The thirteen bytes of SET DETECTOR. -/
def DetectorFields.bytes (f : DetectorFields) : List Byte :=
  [f.number, f.mode] ++ wordBytes f.callMask ++ wordBytes f.extendMask ++
    [f.delay, f.locking, f.maxPresence, f.maxAbsence, f.chatterLimit, f.failAction, f.wrongWay]

def DetectorFields.parse (fs : List Byte) : DetectorFields :=
  { number := byteAt fs 0, mode := byteAt fs 1, callMask := wordAt fs 2, extendMask := wordAt fs 4,
    delay := byteAt fs 6, locking := byteAt fs 7, maxPresence := byteAt fs 8, maxAbsence := byteAt fs 9,
    chatterLimit := byteAt fs 10, failAction := byteAt fs 11, wrongWay := byteAt fs 12 }

/-- The eighteen bytes of SET PREEMPT (Table 13-6). -/
def PreemptFields.bytes (f : PreemptFields) : List Byte :=
  [f.number, f.priority, f.delay, f.locking, f.minGreen, f.pedTruncate, f.pedClear] ++ wordBytes f.trackSet ++
    wordBytes f.trackTime ++ wordBytes f.dwellSet ++ wordBytes f.dwellMin ++ [f.maxPresence, f.exitKind, f.enable]

def PreemptFields.parse (fs : List Byte) : PreemptFields :=
  { number := byteAt fs 0, priority := byteAt fs 1, delay := byteAt fs 2, locking := byteAt fs 3,
    minGreen := byteAt fs 4, pedTruncate := byteAt fs 5, pedClear := byteAt fs 6, trackSet := wordAt fs 7,
    trackTime := wordAt fs 9, dwellSet := wordAt fs 11, dwellMin := wordAt fs 13, maxPresence := byteAt fs 15,
    exitKind := byteAt fs 16, enable := byteAt fs 17 }

/-- The seven bytes of SET TONE. -/
def ToneFields.bytes (f : ToneFields) : List Byte :=
  [f.number, f.channel, f.button, f.frequency, f.dayVolume, f.nightVolume, f.flags]

def ToneFields.parse (fs : List Byte) : ToneFields :=
  { number := byteAt fs 0, channel := byteAt fs 1, button := byteAt fs 2, frequency := byteAt fs 3,
    dayVolume := byteAt fs 4, nightVolume := byteAt fs 5, flags := byteAt fs 6 }

/-- The eight bytes of SET SIGN. -/
def SignFields.bytes (f : SignFields) : List Byte :=
  [f.entry, f.source, f.flags, f.message, f.messageGreen, f.messageOther, f.dayBright, f.nightBright]

def SignFields.parse (fs : List Byte) : SignFields :=
  { entry := byteAt fs 0, source := byteAt fs 1, flags := byteAt fs 2, message := byteAt fs 3,
    messageGreen := byteAt fs 4, messageOther := byteAt fs 5, dayBright := byteAt fs 6, nightBright := byteAt fs 7 }

/-- The thirty-two bytes of the sixteen rows of LOAD COMPATIBILITY. -/
def rowBytes (rows : Vector ChanSet 16) : List Byte :=
  (List.finRange 16).flatMap (fun i => wordBytes (rows.get i))

def rowsOf (fs : List Byte) : Vector ChanSet 16 := Vector.ofFn (fun i => wordAt fs (2 * i.val))

/-- The frame in which a host command travels (Table 13-4); none for an event, which is no frame. -/
def frameOf : Instr → Option Frame
  | .unknownKind kind tag fields => some ⟨kind, tag, fields⟩
  | .identify tag => some ⟨Config.kindIdentify, tag, []⟩
  | .status tag => some ⟨Config.kindStatus, tag, []⟩
  | .setLink tag supervision enable period =>
    some ⟨Config.kindSetLink, tag, [supervision] ++ wordBytes enable ++ [period]⟩
  | .setChannel tag channel typeCode flags recallCode timing =>
    some ⟨Config.kindSetChannel, tag, [channel, typeCode, flags, recallCode] ++ timing.bytes⟩
  | .readChannel tag channel => some ⟨Config.kindReadChannel, tag, [channel]⟩
  | .setDimming tag on k => some ⟨Config.kindSetDimming, tag, [on, k]⟩
  | .loadCompatibility tag rows => some ⟨Config.kindLoadCompatibility, tag, rowBytes rows⟩
  | .readCompatibility tag => some ⟨Config.kindReadCompatibility, tag, []⟩
  | .queueStep tag mode skip greenSet stepTime =>
    some ⟨Config.kindQueueStep, tag, [mode, skip] ++ wordBytes greenSet ++ wordBytes stepTime⟩
  | .clearQueue tag => some ⟨Config.kindClearQueue, tag, []⟩
  | .setQueueMode tag mode => some ⟨Config.kindSetQueueMode, tag, [mode]⟩
  | .hold tag on => some ⟨Config.kindHold, tag, [on]⟩
  | .forceEnd tag => some ⟨Config.kindForceEnd, tag, []⟩
  | .readQueue tag first => some ⟨Config.kindReadQueue, tag, [first]⟩
  | .placeCall tag mask => some ⟨Config.kindPlaceCall, tag, wordBytes mask⟩
  | .setDetector tag f => some ⟨Config.kindSetDetector, tag, f.bytes⟩
  | .readDetectors tag first count clear => some ⟨Config.kindReadDetectors, tag, [first, count, clear]⟩
  | .setPreempt tag f => some ⟨Config.kindSetPreempt, tag, f.bytes⟩
  | .readPreempt tag preempt => some ⟨Config.kindReadPreempt, tag, [preempt]⟩
  | .readFault tag => some ⟨Config.kindReadFault, tag, []⟩
  | .enterControl tag => some ⟨Config.kindEnterControl, tag, []⟩
  | .enterFlash tag => some ⟨Config.kindEnterFlash, tag, []⟩
  | .resetFault tag => some ⟨Config.kindResetFault, tag, []⟩
  | .setStart tag startFlash entryRed shortOutage redFailTime =>
    some ⟨Config.kindSetStart, tag, [startFlash, entryRed, shortOutage, redFailTime]⟩
  | .setTimebase tag nominal => some ⟨Config.kindSetTimebase, tag, [nominal]⟩
  | .setSupply tag dropout sag high => some ⟨Config.kindSetSupply, tag, [dropout, sag, high]⟩
  | .setTone tag f => some ⟨Config.kindSetTone, tag, f.bytes⟩
  | .setSignChain tag count period gap => some ⟨Config.kindSetSignChain, tag, [count, period, gap]⟩
  | .setSign tag f => some ⟨Config.kindSetSign, tag, f.bytes⟩
  | .readSigns tag => some ⟨Config.kindReadSigns, tag, []⟩
  | .hardwareReset _ | .millisecond | .scanTick _ _ _ | .crystalTenth | .mainsTenth | .realCrossingEvent _
  | .syntheticCrossingEvent | .monitorSample _ | .supplySample _ | .plugReadComplete _ | .amberExpiry _
  | .redClearanceExpiry _ | .walkExpiry _ | .pedClearExpiry _ | .stepTimerExpiry | .initialGreenRunOut _ | .gapOut _
  | .maxOut _ | .detectorLevelChange _ | .delayReached _ | .stuckOn _ | .noActivity _ | .chatter _
  | .chatterWindowEnd | .preemptInputLevelChange _ | .preemptStuck _ | .preemptDelayExpiry _ | .trackEnd | .dwellEnd
  | .redFail _ | .startFlashTimerExpiry | .entryRedEnd | .manualFlashSwitchEdge | .locatorTick _ | .walkTick _
  | .confirmEnd _ | .signPeriodExpiry | .signExchangeStart | .signExchangeEnd _ | .receiveCharacter _ _ _ | .gapError
  | .frameSent | .sendReport | .statusTimerExpiry | .supervisionExpiry => none

/-- The field bytes of a command of a kind (the Field bytes column of Table 13-4); none for a kind that is no
command kind. -/
def commandLength (kind : Byte) : Option Nat :=
  if kind = Config.kindIdentify then some 0
  else if kind = Config.kindStatus then some 0
  else if kind = Config.kindSetLink then some 4
  else if kind = Config.kindSetChannel then some 23
  else if kind = Config.kindReadChannel then some 1
  else if kind = Config.kindSetDimming then some 2
  else if kind = Config.kindLoadCompatibility then some 32
  else if kind = Config.kindReadCompatibility then some 0
  else if kind = Config.kindQueueStep then some 6
  else if kind = Config.kindClearQueue then some 0
  else if kind = Config.kindSetQueueMode then some 1
  else if kind = Config.kindHold then some 1
  else if kind = Config.kindForceEnd then some 0
  else if kind = Config.kindReadQueue then some 1
  else if kind = Config.kindPlaceCall then some 2
  else if kind = Config.kindSetDetector then some 13
  else if kind = Config.kindReadDetectors then some 3
  else if kind = Config.kindSetPreempt then some 18
  else if kind = Config.kindReadPreempt then some 1
  else if kind = Config.kindReadFault then some 0
  else if kind = Config.kindEnterControl then some 0
  else if kind = Config.kindEnterFlash then some 0
  else if kind = Config.kindResetFault then some 0
  else if kind = Config.kindSetStart then some 4
  else if kind = Config.kindSetTimebase then some 1
  else if kind = Config.kindSetSupply then some 3
  else if kind = Config.kindSetTone then some 7
  else if kind = Config.kindSetSignChain then some 3
  else if kind = Config.kindSetSign then some 8
  else if kind = Config.kindReadSigns then some 0
  else none

/-- The bytes a reply carries after its result, the entries of a reply of varying length left out (Table 13-4,
R191). -/
def replyLength (kind : Byte) : Nat :=
  if kind = Config.kindIdentify then 10
  else if kind = Config.kindStatus then 18
  else if kind = Config.kindSetLink then 4
  else if kind = Config.kindSetChannel then 23
  else if kind = Config.kindReadChannel then 32
  else if kind = Config.kindSetDimming then 2
  else if kind = Config.kindLoadCompatibility then 1
  else if kind = Config.kindReadCompatibility then 36
  else if kind = Config.kindQueueStep then 5
  else if kind = Config.kindClearQueue then 1
  else if kind = Config.kindSetQueueMode then 2
  else if kind = Config.kindHold then 1
  else if kind = Config.kindReadQueue then 13
  else if kind = Config.kindPlaceCall then 2
  else if kind = Config.kindSetDetector then 14
  else if kind = Config.kindReadDetectors then 6
  else if kind = Config.kindSetPreempt then 18
  else if kind = Config.kindReadPreempt then 33
  else if kind = Config.kindReadFault then 21
  else if kind = Config.kindEnterControl then 1
  else if kind = Config.kindEnterFlash then 1
  else if kind = Config.kindResetFault then 1
  else if kind = Config.kindSetStart then 4
  else if kind = Config.kindSetTimebase then 2
  else if kind = Config.kindSetSupply then 3
  else if kind = Config.kindSetTone then 7
  else if kind = Config.kindSetSignChain then 3
  else if kind = Config.kindSetSign then 8
  else if kind = Config.kindReadSigns then 4
  else 0

/-- The host command of a kind and its field bytes, the length taken as right. -/
def commandOf (kind tag : Byte) (fs : List Byte) : Option Instr :=
  if kind = Config.kindIdentify then some (.identify tag)
  else if kind = Config.kindStatus then some (.status tag)
  else if kind = Config.kindSetLink then some (.setLink tag (byteAt fs 0) (wordAt fs 1) (byteAt fs 3))
  else if kind = Config.kindSetChannel then
    some (.setChannel tag (byteAt fs 0) (byteAt fs 1) (byteAt fs 2) (byteAt fs 3) (TimingFields.parse fs 4))
  else if kind = Config.kindReadChannel then some (.readChannel tag (byteAt fs 0))
  else if kind = Config.kindSetDimming then some (.setDimming tag (byteAt fs 0) (byteAt fs 1))
  else if kind = Config.kindLoadCompatibility then some (.loadCompatibility tag (rowsOf fs))
  else if kind = Config.kindReadCompatibility then some (.readCompatibility tag)
  else if kind = Config.kindQueueStep then
    some (.queueStep tag (byteAt fs 0) (byteAt fs 1) (wordAt fs 2) (wordAt fs 4))
  else if kind = Config.kindClearQueue then some (.clearQueue tag)
  else if kind = Config.kindSetQueueMode then some (.setQueueMode tag (byteAt fs 0))
  else if kind = Config.kindHold then some (.hold tag (byteAt fs 0))
  else if kind = Config.kindForceEnd then some (.forceEnd tag)
  else if kind = Config.kindReadQueue then some (.readQueue tag (byteAt fs 0))
  else if kind = Config.kindPlaceCall then some (.placeCall tag (wordAt fs 0))
  else if kind = Config.kindSetDetector then some (.setDetector tag (DetectorFields.parse fs))
  else if kind = Config.kindReadDetectors then
    some (.readDetectors tag (byteAt fs 0) (byteAt fs 1) (byteAt fs 2))
  else if kind = Config.kindSetPreempt then some (.setPreempt tag (PreemptFields.parse fs))
  else if kind = Config.kindReadPreempt then some (.readPreempt tag (byteAt fs 0))
  else if kind = Config.kindReadFault then some (.readFault tag)
  else if kind = Config.kindEnterControl then some (.enterControl tag)
  else if kind = Config.kindEnterFlash then some (.enterFlash tag)
  else if kind = Config.kindResetFault then some (.resetFault tag)
  else if kind = Config.kindSetStart then
    some (.setStart tag (byteAt fs 0) (byteAt fs 1) (byteAt fs 2) (byteAt fs 3))
  else if kind = Config.kindSetTimebase then some (.setTimebase tag (byteAt fs 0))
  else if kind = Config.kindSetSupply then some (.setSupply tag (byteAt fs 0) (byteAt fs 1) (byteAt fs 2))
  else if kind = Config.kindSetTone then some (.setTone tag (ToneFields.parse fs))
  else if kind = Config.kindSetSignChain then some (.setSignChain tag (byteAt fs 0) (byteAt fs 1) (byteAt fs 2))
  else if kind = Config.kindSetSign then some (.setSign tag (SignFields.parse fs))
  else if kind = Config.kindReadSigns then some (.readSigns tag)
  else none

/-- What the command handler makes of a frame (R184). -/
inductive Parsed where
  | unknown
  | badLength
  | command (c : Instr)
  deriving DecidableEq, Repr

/-- The judgment of a frame by kind and length (R184). -/
def parseFrame (f : Frame) : Parsed :=
  match commandLength f.kind with
  | none => .unknown
  | some n =>
    if f.fields.length = n then
      match commandOf f.kind f.tag f.fields with
      | some c => .command c
      | none => .unknown
    else .badLength

/-- The sum of bytes modulo 256. -/
def byteSum : List Byte → Byte
  | [] => 0
  | b :: bs => b + byteSum bs

/-- The bytes of a frame after its marker: length, kind, tag, fields and the check byte (Table 13-1). -/
def Frame.bytes (f : Frame) : List Byte :=
  let n := u8 (f.fields.length + 3)
  let body := f.kind :: f.tag :: f.fields
  n :: (body ++ [- (n + byteSum body)])

/-- The characters of a frame as the transmitter sends them: the marker and the bytes after it (R181). -/
def Frame.sent (f : Frame) : List Byte := Config.frameMarker :: f.bytes

/-- The frame in the N bytes received after a length byte, the check byte left out. -/
def frameOfBytes (bs : List Byte) : Frame :=
  { kind := byteAt bs 0, tag := byteAt bs 1, fields := (bs.drop 2).dropLast }

end Sys2Proof
end

