-- ==== Sys2Proof/Machine/State.lean ====
section
/-! DEFINITION. Machine/State.lean: every piece of state the book gives the FJ416, as plain data, one record for each
of its twelve blocks (Figure 1), the queue of waiting commands, and the state after hardware reset. Items marked
MODEL are not named by a state table of the book but are implied by its rules. -/

namespace Sys2Proof.Machine

/-! ### Enumerated values (Table 13-3) -/

/-- The seven unit modes (Table 8-1). -/
inductive Mode where
  | startFlash | entryRed | controlled | clearingToFlash | localFlash | faultFlash | powerOut
  deriving DecidableEq, Repr

/-- The flash cause (Table 8-1). -/
inductive FlashCause where
  | none | host | manual | linkLost
  deriving DecidableEq, Repr

/-- The channel type (Table 1-1). -/
inductive ChannelType where
  | unused | vehicle | pedestrian
  deriving DecidableEq, Repr

/-- The recall of a channel (Table 1-1). -/
inductive Recall where
  | none | min | max | ped
  deriving DecidableEq, Repr

/-- Flash phase A or B (R13). -/
inductive Phase where
  | a | b
  deriving DecidableEq, Repr

/-- The flash colour of a channel (Table 1-1). -/
inductive FlashColour where
  | red | amber
  deriving DecidableEq, Repr

/-- The indications of a channel (Table 1-1). -/
inductive Indication where
  | dark | red | green | amber | redClear | flash | pedClear
  deriving DecidableEq, Repr

/-- One lamp of a pattern (Table 13-3, applied pattern). -/
inductive Lit where
  | unlit | steady | flashA | flashB
  deriving DecidableEq, Repr

/-- A lamp pattern of one channel (Table 1-4). -/
structure Pattern where
  red : Lit
  amber : Lit
  green : Lit
  deriving DecidableEq, Repr

/-- No lamp lit. -/
def Pattern.dark : Pattern := ⟨.unlit, .unlit, .unlit⟩

/-- The drive of one lamp output in one half-cycle, as reported to the Monitor (R16). -/
inductive Drive where
  | off | skipped | conduct
  deriving DecidableEq, Repr

/-- The classes of Table 3-3 and the two a WAITING channel may reach (R43, R45). -/
inductive TransitionClass where
  | continuing | waiting | terminated | runningOut | outside | started | unserved
  deriving DecidableEq, Repr

/-- Who owns a transition (R43). -/
inductive Owner where
  | step | preempt
  deriving DecidableEq, Repr

/-- The termination mode of a step (Table 3-2). -/
inductive Termination where
  | fixed | actuated
  deriving DecidableEq, Repr

/-- The queue mode (Table 3-1). -/
inductive QueueMode where
  | single | cycle
  deriving DecidableEq, Repr

/-- The step phase (Table 3-1). -/
inductive StepPhase where
  | none | transition | fullGreen | resting
  deriving DecidableEq, Repr

/-- The mode of a detector (Table 5-1). -/
inductive DetectorMode where
  | off | presence | pulse | pair
  deriving DecidableEq, Repr

/-- The fault state of a detector (Table 5-1). -/
inductive DetectorFault where
  | ok | stuckOn | noActivity | chatter
  deriving DecidableEq, Repr

/-- The fail action of a detector (Table 5-1). -/
inductive FailAction where
  | placeRecall | ignore
  deriving DecidableEq, Repr

/-- The direction state of a pair (Figure 5-1). -/
inductive Direction where
  | clear | leadOn | lagOn | forward | reverse | unresolved
  deriving DecidableEq, Repr

/-- The state of a preempt (Table 6-2). -/
inductive PreemptState where
  | idle | delaying | pending | entry | track | dwell | exit
  deriving DecidableEq, Repr

/-- The entry stage of a preempt (Table 6-2). -/
inductive EntryStage where
  | none | minimum | clearing
  deriving DecidableEq, Repr

/-- The exit kind of a preempt (Table 6-1). -/
inductive ExitKind where
  | resume | next
  deriving DecidableEq, Repr

/-- The causes of a fault notice (Table 7-4). -/
inductive FaultCause where
  | conflict | redFail | clearance | flashGreen | plug | plugChanged
  deriving DecidableEq, Repr

/-- The last red judgment of a channel (R125). -/
inductive RedJudgment where
  | none | lit | dark
  deriving DecidableEq, Repr

/-- The clearance state of a channel (Figure 7-1). -/
inductive Clearance where
  | idle | greenSeen | amberRun
  deriving DecidableEq, Repr

/-- The lamp status of an output (R129). -/
inductive LampStatus where
  | ok | lampOut | switchOn
  deriving DecidableEq, Repr

/-- The plug status (Table 2-1). -/
inductive PlugStatus where
  | none | valid | absent | unstable
  deriving DecidableEq, Repr

/-- The nominal frequency (Table 9-1). -/
inductive Nominal where
  | auto | hz50 | hz60
  deriving DecidableEq, Repr

/-- A mains frequency, decided or tried. -/
inductive Freq where
  | hz50 | hz60
  deriving DecidableEq, Repr

/-- The lock state (Figure 9-1). -/
inductive LockState where
  | free | acquiring | locked
  deriving DecidableEq, Repr

/-- The supply category (Table 9-3). -/
inductive Supply where
  | unknown | dropout | sag | normal | high
  deriving DecidableEq, Repr

/-- What sounds on a tone line (Table 10-1). -/
inductive Sounding where
  | none | locator | walk | confirm
  deriving DecidableEq, Repr

/-- The link rate read from the straps (Table 12-1). -/
inductive LinkRate where
  | b9600 | b19200 | b38400 | b57600
  deriving DecidableEq, Repr

/-- The receiver state (R182). -/
inductive Receiver where
  | hunt | length | body
  deriving DecidableEq, Repr

/-- The link errors (Table 12-1). -/
inductive LinkError where
  | none | parity | framing | gap | length | check | overrun
  deriving DecidableEq, Repr

/-- The nine report kinds, in their order of choice (R185). -/
inductive Report where
  | mode | fault | preempt | stage | lamp | detector | supply | sign | status
  deriving DecidableEq, Repr

/-! ### Channel Output Block -/

/-- The twelve timing fields of Table 1-2, in tenths. -/
structure Timing where
  minGreen : Nat
  addedInitial : Nat
  maxInitial : Nat
  maxGap : Nat
  minGap : Nat
  tbr : Nat
  ttr : Nat
  maxGreen : Nat
  amber : Nat
  redClear : Nat
  walk : Nat
  pedClear : Nat
  deriving DecidableEq, Repr

/-- The defaults of Table 1-2. -/
def Timing.reset : Timing :=
  { minGreen := 50, addedInitial := 0, maxInitial := 0, maxGap := 30, minGap := 30, tbr := 0, ttr := 0,
    maxGreen := 300, amber := 30, redClear := 20, walk := 70, pedClear := 100 }

/-- A channel record (Table 1-1). -/
structure Channel where
  kind : ChannelType
  flashColour : FlashColour
  flashPhase : Phase
  dimEnable : Bool
  redMonitor : Bool
  recallKind : Recall
  pendingSet : Timing
  activeSet : Timing
  ind : Indication
  timer : Nat
  held : Option Indication
  staged : Pattern
  applied : Pattern
  deriving DecidableEq, Repr

/-- A channel record after hardware reset (Table 1-1). -/
def Channel.reset : Channel :=
  { kind := .unused, flashColour := .red, flashPhase := .a, dimEnable := false, redMonitor := true,
    recallKind := .none, pendingSet := Timing.reset, activeSet := Timing.reset, ind := .dark, timer := 0,
    held := none, staged := Pattern.dark, applied := Pattern.dark }

/-- What the Channel Output Block holds beside the records. -/
structure Lamps where
  /-- the 48 lamp outputs, high while driven to conduct (Table 1) -/
  drives : LampSet
  /-- dim on or off, and the dim level k (R15) -/
  dimOn : Bool
  dimLevel : Nat
  /-- the count h of the next crossing event, modulo 8 (R14) -/
  crossings : Nat
  deriving DecidableEq, Repr

def Lamps.reset : Lamps := { drives := 0, dimOn := false, dimLevel := 6, crossings := 0 }

/-! ### Compatibility Unit -/

/-- The 120 channel pairs, pair (i, j) at bit (cell - 1) of Table 2-2, set when compatible. -/
abbrev PairTable := BitVec 120

/-- One completed read: its class and its pair cells (R23). -/
structure PlugRead where
  coded : Bool
  pairs : PairTable
  deriving DecidableEq, Repr

/-- Compatibility Unit state (Table 2-1). -/
structure Compat where
  inUse : PairTable
  hostCopy : Option PairTable
  status : PlugStatus
  isMatch : Bool
  previous : Option PlugRead
  disagreements : Nat
  /-- the read in progress: none when idle, else the cells taken so far -/
  reading : Option Nat
  /-- MODEL: the moment at which the latest read started (R22) -/
  readStart : Nat
  owed : Option FaultCause
  deriving DecidableEq, Repr

def Compat.reset : Compat :=
  { inUse := 0, hostCopy := none, status := .none, isMatch := false, previous := none, disagreements := 0,
    reading := some 0, readStart := 0, owed := none }

/-! ### Step Sequencer -/

/-- A step record (Table 3-2). -/
structure StepRecord where
  serial : Nat
  termination : Termination
  skip : Bool
  greenSet : ChanSet
  /-- the step time of a FIXED record, none for an ACTUATED one -/
  stepTime : Option Nat
  deriving DecidableEq, Repr

/-- A transition: a target set with a class for each channel (R43). -/
structure Transition where
  target : ChanSet
  owner : Owner
  classes : Vector TransitionClass 16
  deriving DecidableEq, Repr

/-- Step Sequencer state (Table 3-1). -/
structure Sequencer where
  queue : List StepRecord
  mode : QueueMode
  /-- the index in queue order of the record at the current position, 0 for the head -/
  position : Nat
  /-- whether a step is current; it is then the record at the current position (R34) -/
  current : Bool
  phase : StepPhase
  transition : Option Transition
  stepTimer : Nat
  hold : Bool
  force : Bool
  nextSerial : Nat
  pruned : Bool
  /-- MODEL: the channels STARTED or CONTINUING in the current step's ended transition (R46, R74) -/
  served : ChanSet
  /-- MODEL: the vehicle greens whose termination order waits for their cut initial green (R109) -/
  owedEnds : ChanSet
  deriving DecidableEq, Repr

def Sequencer.reset : Sequencer :=
  { queue := [], mode := .single, position := 0, current := false, phase := .none, transition := none,
    stepTimer := 0, hold := false, force := false, nextSerial := 1, pruned := false, served := 0, owedEnds := 0 }

/-! ### Call and Green Timing Unit -/

/-- Call and green state of one channel (Table 4-1). -/
structure Green where
  latch : Bool
  actCount : Nat
  initial : Nat
  elapsed : Nat
  /-- the reduction clock: none when not started -/
  clock : Option Nat
  gap : Nat
  maxTimer : Nat
  maxOut : Bool
  deriving DecidableEq, Repr

def Green.reset : Green :=
  { latch := false, actCount := 0, initial := 0, elapsed := 0, clock := none, gap := 0, maxTimer := 0,
    maxOut := false }

/-! ### Detector Block -/

/-- A detector record (Table 5-1). -/
structure Detector where
  mode : DetectorMode
  callMask : ChanSet
  extendMask : ChanSet
  delay : Nat
  locking : Bool
  maxPresence : Nat
  maxAbsence : Nat
  chatterLimit : Nat
  failAction : FailAction
  wrongWay : Bool
  level : Bool
  run : Nat
  delayTimer : Nat
  presence : Nat
  absence : Nat
  window : Nat
  cleanRun : Nat
  fault : DetectorFault
  direction : Direction
  volume : BitVec 16
  occupancy : BitVec 32
  forward : BitVec 16
  reverse : BitVec 16
  deriving DecidableEq, Repr

def Detector.reset : Detector :=
  { mode := .off, callMask := 0, extendMask := 0, delay := 0, locking := false, maxPresence := 0, maxAbsence := 0,
    chatterLimit := 10, failAction := .placeRecall, wrongWay := false, level := false, run := 0, delayTimer := 0,
    presence := 0, absence := 0, window := 0, cleanRun := 0, fault := .ok, direction := .clear, volume := 0,
    occupancy := 0, forward := 0, reverse := 0 }

/-- The masks of the DETECTOR report (R99). -/
structure DetectorMasks where
  changed : DetSet
  wrongWay : DetSet
  deriving DecidableEq, Repr

/-! ### Preemption Arbiter -/

/-- A preempt configuration (Table 6-1). -/
structure PreemptConfig where
  priority : Nat
  delay : Nat
  locking : Bool
  minGreen : Nat
  pedTruncate : Bool
  pedClear : Nat
  trackSet : ChanSet
  trackTime : Nat
  dwellSet : ChanSet
  dwellMin : Nat
  maxPresence : Nat
  exitKind : ExitKind
  enable : Bool
  deriving DecidableEq, Repr

def PreemptConfig.reset : PreemptConfig :=
  { priority := 0, delay := 0, locking := false, minGreen := 50, pedTruncate := false, pedClear := 50, trackSet := 0,
    trackTime := 0, dwellSet := 0, dwellMin := 100, maxPresence := 30, exitKind := .resume, enable := false }

/-- A preempt record: configuration and run state (Tables 6-1 and 6-2). -/
structure Preempt where
  cfg : PreemptConfig
  level : Bool
  run : Nat
  presence : Nat
  stuck : Bool
  state : PreemptState
  delayTimer : Nat
  serviceTimer : Nat
  stage : EntryStage
  pendingAtExit : Bool
  deriving DecidableEq, Repr

def Preempt.reset : Preempt :=
  { cfg := PreemptConfig.reset, level := false, run := 0, presence := 0, stuck := false, state := .idle,
    delayTimer := 0, serviceTimer := 0, stage := .none, pendingAtExit := false }

/-- Arbiter service state (Table 6-3). -/
structure Arbiter where
  holder : Option Pre
  /-- whether there is an interrupted step; it is then the record at the current position (R57, R55, R27) -/
  interrupted : Bool
  disabled : BitVec 4
  deriving DecidableEq, Repr

def Arbiter.reset : Arbiter := { holder := none, interrupted := false, disabled := 0 }

/-! ### Lamp and Conflict Monitor -/

/-- The monitor items held per channel (Table 7-1). -/
structure ChannelWatch where
  flashGreen : Nat
  redTimer : Nat
  lastRed : RedJudgment
  clearance : Clearance
  amberCount : Nat
  deriving DecidableEq, Repr

def ChannelWatch.reset : ChannelWatch :=
  { flashGreen := 0, redTimer := 0, lastRed := .none, clearance := .idle, amberCount := 0 }

/-- The monitor items held per lamp output (Table 7-1). -/
structure LampWatch where
  status : LampStatus
  outRun : Nat
  onRun : Nat
  clearRun : Nat
  deriving DecidableEq, Repr

def LampWatch.reset : LampWatch := { status := .ok, outRun := 0, onRun := 0, clearRun := 0 }

/-- The fault record (Table 7-4); channels are 1 to 16, 0 where there is none. -/
structure FaultRecord where
  cause : FaultCause
  first : Nat
  second : Nat
  tenth : BitVec 32
  mode : Mode
  additional : Bool
  deriving DecidableEq, Repr

/-- What the safety checks of a control mode held when a Compatibility notice ended it at the moment of a sample, so that
the sample is still judged beside the notice (R132). -/
structure Beside where
  mode : Mode
  conflicts : Vector Nat 120
  channels : Vector ChannelWatch 16
  deriving DecidableEq, Repr

/-- Monitor state (Table 7-1). -/
structure Monitor where
  /-- the conflict count of each pair, at the pair's index of Table 2-2 -/
  conflicts : Vector Nat 120
  channels : Vector ChannelWatch 16
  lamps : Vector LampWatch 48
  changed : LampSet
  redFailTime : Nat
  record : Option FaultRecord
  /-- MODEL: the drive report of a half-cycle whose sample has not been taken (R120) -/
  awaiting : Option (Vector Drive 48)
  /-- MODEL: the moment at which findings of the Monitor took the unit out of a control mode, and the checks held for a
  sample that comes together with a Compatibility notice (R132; log entry 35) -/
  found : Option Nat
  beside : Option Beside
  deriving DecidableEq, Repr

def Monitor.reset : Monitor :=
  { conflicts := Vector.replicate 120 0, channels := Vector.replicate 16 ChannelWatch.reset,
    lamps := Vector.replicate 48 LampWatch.reset, changed := 0, redFailTime := 15, record := none, awaiting := none,
    found := none, beside := none }

/-! ### Unit Mode Machine -/

/-- Unit Mode Machine state (Table 8-1) and the FTR output (R136). -/
structure UnitState where
  mode : Mode
  ftr : Bool
  cause : FlashCause
  remembered : Option Mode
  startFlashTimer : Nat
  entryRedTimer : Nat
  outageTimer : Nat
  owedLinkLoss : Bool
  switchLevel : Bool
  switchRun : Nat
  startFlashTime : Nat
  entryRedTime : Nat
  shortOutage : Nat
  deriving DecidableEq, Repr

def UnitState.reset : UnitState :=
  { mode := .startFlash, ftr := false, cause := .none, remembered := none, startFlashTimer := 60, entryRedTimer := 0,
    outageTimer := 0, owedLinkLoss := false, switchLevel := false, switchRun := 0, startFlashTime := 60,
    entryRedTime := 30, shortOutage := 5 }

/-! ### Timebase and Supply Monitor -/

/-- Timebase and Supply Monitor state (Table 9-1). Moments are microseconds of the crystal since hardware reset. -/
structure Timebase where
  tenth : BitVec 32
  nominal : Nominal
  decided : Option Freq
  lock : LockState
  goodCount : Nat
  /-- the decision run and its candidate (R156) -/
  decisionRun : Nat
  candidate : Option Freq
  mainsCount : Nat
  lastReal : Option Nat
  lastTenth : Nat
  windowCount : Nat
  windowSum : Nat
  reading : Nat
  category : Supply
  dropout : Nat
  sag : Nat
  high : Nat
  /-- MODEL: the latest moment an event has shown (log entry 8) -/
  clock : Nat
  /-- MODEL: the milliseconds and the scan ticks given since hardware reset (R152) -/
  millis : Nat
  scans : Nat
  /-- MODEL: the moment of the last crossing event, and whether it was synthetic (R153, R154) -/
  lastCrossing : Nat
  synthetic : Bool
  /-- MODEL: whether the switchover tick has been given, so that the mains paces the tenths (R157) -/
  mainsPaced : Bool
  /-- MODEL: whether the tenth tick of the present mains tenth count has been given, as a row of its own, before the
  crossing that ends the count (R157; log entry 5) -/
  tenthGiven : Bool
  /-- MODEL: whether a supply sample is scheduled (R158) -/
  sampleDue : Bool
  deriving DecidableEq, Repr

def Timebase.reset : Timebase :=
  { tenth := 0, nominal := .auto, decided := none, lock := .free, goodCount := 0, decisionRun := 0, candidate := none,
    mainsCount := 0, lastReal := none, lastTenth := 0, windowCount := 0, windowSum := 0, reading := 0,
    category := .unknown, dropout := 100, sag := 170, high := 230, clock := 0, millis := 0, scans := 0,
    lastCrossing := 0, synthetic := false, mainsPaced := false, tenthGiven := false, sampleDue := false }

/-! ### Tone Unit -/

/-- A tone line record (Table 10-1). -/
structure ToneLine where
  /-- the bound channel: none for 0 -/
  channel : Option Chan
  /-- the button detector: none for 0 -/
  button : Option Det
  frequency : Nat
  dayVolume : Nat
  nightVolume : Nat
  locator : Bool
  envelope : Bool
  mute : Bool
  locatorCycle : Option Nat
  walkCycle : Option Nat
  confirmTimer : Nat
  sounding : Sounding
  level : Nat
  age : Nat
  /-- MODEL: whether the locator tick of the present window may sound (R170) -/
  tickOpen : Bool
  deriving DecidableEq, Repr

def ToneLine.reset : ToneLine :=
  { channel := none, button := none, frequency := 2, dayVolume := 4, nightVolume := 2, locator := false,
    envelope := false, mute := false, locatorCycle := none, walkCycle := none, confirmTimer := 0, sounding := .none,
    level := 0, age := 0, tickOpen := false }

/-! ### Sign Chain Port -/

/-- A sign image entry (Table 11-2). -/
structure SignEntry where
  /-- the tied channel of a CHANNEL entry, none for HOST -/
  source : Option Chan
  display : Bool
  message : BitVec 6
  flash : Bool
  messageGreen : BitVec 6
  messageOther : BitVec 6
  dayBright : BitVec 2
  nightBright : BitVec 2
  deriving DecidableEq, Repr

def SignEntry.reset : SignEntry :=
  { source := none, display := false, message := 0, flash := false, messageGreen := 0, messageOther := 0,
    dayBright := 3, nightBright := 1 }

/-- A status table entry (Table 11-1). -/
structure SignStatus where
  shown : BitVec 6
  displayFault : Bool
  deriving DecidableEq, Repr

/-- What the port holds for one module (Table 11-1). -/
structure SignModule where
  entry : SignEntry
  latched : Option Word
  status : Option SignStatus
  mismatchRun : Nat
  mismatch : Bool
  deriving DecidableEq, Repr

def SignModule.reset : SignModule :=
  { entry := SignEntry.reset, latched := none, status := none, mismatchRun := 0, mismatch := false }

/-- Sign Chain Port state (Table 11-1). -/
structure Signs where
  count : Nat
  period : Nat
  gap : Nat
  timer : Nat
  pendingExchange : Bool
  shifting : Bool
  buffer : List Word
  modules : Vector SignModule 8
  chainError : Bool
  /-- the levels of the three outputs outside an exchange, high when set (Table 1, R171; in an exchange: Signs.sckAt,
  Signs.sdoAt, Signs.slatAt; log entry 14) -/
  sck : Bool
  sdo : Bool
  slat : Bool
  /-- MODEL: the exchanges ended so far, which number the free levels of SDO (log entry 14) -/
  transfers : Nat
  deriving DecidableEq, Repr

def Signs.reset : Signs :=
  { count := 0, period := 5, gap := 0, timer := 5, pendingExchange := false, shifting := false, buffer := [],
    modules := Vector.replicate 8 SignModule.reset, chainError := false, sck := false, sdo := false, slat := false,
    transfers := 0 }

/-! ### Cabinet Link Port -/

/-- Cabinet Link Port state (Table 12-1). Report flags and enables stand at the bits of the report mask. -/
structure Link where
  rate : LinkRate
  receiver : Receiver
  /-- the frame in assembly: its length byte N and the bytes received after it -/
  length : Nat
  assembly : List Byte
  held : Option Frame
  reply : Option Frame
  /-- the transmitter: none when IDLE, else the frame being sent -/
  sending : Option Frame
  flags : BitVec 9
  enable : BitVec 9
  sequence : BitVec 8
  statusPeriod : Nat
  statusTimer : Nat
  supervisionTime : Nat
  supervision : Nat
  lost : Bool
  lastError : LinkError
  errors : BitVec 16
  deriving DecidableEq, Repr

/-- The port after hardware reset: MODE (bit 0) and STATUS (bit 8) flags set, all reports enabled. -/
def Link.reset : Link :=
  { rate := .b9600, receiver := .hunt, length := 0, assembly := [], held := none, reply := none, sending := none,
    flags := 0b100000001#9, enable := 0b111111111#9, sequence := 0, statusPeriod := 10, statusTimer := 100,
    supervisionTime := 20, supervision := 20, lost := false, lastError := .none, errors := 0 }

/-! ### The machine -/

/-- The state of the FJ416: its twelve blocks and the queue of waiting commands, first in, first out. -/
structure State where
  chans : Vector Channel 16
  lamps : Lamps
  compat : Compat
  seq : Sequencer
  greens : Vector Green 16
  dets : Vector Detector 24
  detMasks : DetectorMasks
  pres : Vector Preempt 4
  arb : Arbiter
  mon : Monitor
  unit : UnitState
  time : Timebase
  tones : Vector ToneLine 8
  signs : Signs
  link : Link
  pending : List Instr
  deriving DecidableEq, Repr

/-- The part right after hardware reset, as the state tables of the chapters give it, with no command waiting. The
straps are taken as 00 (9600 bits per second; log entry 1), and the two masks of the DETECTOR report, whose values after
hardware reset no table gives, as empty (log entry 37). -/
def State.reset : State :=
  { chans := Vector.replicate 16 Channel.reset, lamps := Lamps.reset, compat := Compat.reset, seq := Sequencer.reset,
    greens := Vector.replicate 16 Green.reset, dets := Vector.replicate 24 Detector.reset,
    detMasks := { changed := 0, wrongWay := 0 }, pres := Vector.replicate 4 Preempt.reset, arb := Arbiter.reset,
    mon := Monitor.reset, unit := UnitState.reset, time := Timebase.reset, tones := Vector.replicate 8 ToneLine.reset,
    signs := Signs.reset, link := Link.reset, pending := [] }

/-- A step never ends in a fault: every rule of the book gives its command an effect or leaves the state as it is, so
no constructor is raised by anyone. The type has none. -/
inductive Fault where
  deriving DecidableEq, Repr

/-- A step that has no meaning. -/
inductive Refusal where
  /-- Raised by an arm of `exec` whose command is not modelled yet; safe (the model stops). No arm does. -/
  | notModelled (mnemonic : String)
  deriving DecidableEq, Repr

end Sys2Proof.Machine
end

