-- ==== Sys2Proof/Machine/Operands.lean ====
section
/-! DEFINITION. Machine/Operands.lean: the operand forms of the host commands: the enumerated values of Table 13-3 in
both directions, the clamps of the chapters, and the result codes of Table 12-2. -/

namespace Sys2Proof.Machine

/-! ### Result codes (Table 12-2) -/

def resultOk : Byte := 0
def resultClamped : Byte := 1
def resultUnknownKind : Byte := 2
def resultBadLength : Byte := 3
def resultBadValue : Byte := 4
def resultWrongMode : Byte := 5
def resultQueueFull : Byte := 6
def resultIncompatible : Byte := 7
def resultNotReady : Byte := 8

/-- CLAMPED when a stored value differs from the one sent, OK otherwise. -/
def clampResult (changed : Bool) : Byte := if changed then resultClamped else resultOk

/-- What a served command answers: the state after it and the reply's bytes, result first. -/
abbrev Served := State × List Byte

/-- A refused command: the state unchanged, the result, and every reply field sent as 0 (R184, R191), the records-held
byte of QUEUE STEP among them (log entry 36). -/
def refuse (s : State) (kind : Byte) (code : Byte) : Served :=
  (s, code :: List.replicate (replyLength kind) 0)

/-- A value brought into its range (R2, R150, R161). -/
def clampTo (lo hi v : Nat) : Nat := if v < lo then lo else if v > hi then hi else v

/-! ### Decoding of enumerated fields (R190): none where Table 13-3 gives the value no meaning -/

def decodeFlag (b : Byte) : Option Bool := if b = 0 then some false else if b = 1 then some true else none

def decodeType (b : Byte) : Option ChannelType :=
  if b = 0 then some .unused else if b = 1 then some .vehicle else if b = 2 then some .pedestrian else none

def decodeRecall (b : Byte) : Option Recall :=
  if b = 0 then some .none else if b = 1 then some .min else if b = 2 then some .max
  else if b = 3 then some .ped else none

def decodeTermination (b : Byte) : Option Termination :=
  if b = 0 then some .fixed else if b = 1 then some .actuated else none

def decodeQueueMode (b : Byte) : Option QueueMode :=
  if b = 0 then some .single else if b = 1 then some .cycle else none

def decodeDetectorMode (b : Byte) : Option DetectorMode :=
  if b = 0 then some .off else if b = 1 then some .presence else if b = 2 then some .pulse
  else if b = 3 then some .pair else none

def decodeFailAction (b : Byte) : Option FailAction :=
  if b = 0 then some .placeRecall else if b = 1 then some .ignore else none

def decodeExitKind (b : Byte) : Option ExitKind :=
  if b = 0 then some .resume else if b = 1 then some .next else none

def decodeNominal (b : Byte) : Option Nominal :=
  if b = 0 then some .auto else if b = 50 then some .hz50 else if b = 60 then some .hz60 else none

/-! ### Encoding of enumerated fields (Table 13-3) -/

def Mode.code : Mode → Byte
  | .startFlash => 0 | .entryRed => 1 | .controlled => 2 | .clearingToFlash => 3 | .localFlash => 4
  | .faultFlash => 5 | .powerOut => 6

/-- The remembered mode, 7 for none. -/
def rememberedCode : Option Mode → Byte
  | some m => m.code
  | none => 7

def FlashCause.code : FlashCause → Byte
  | .none => 0 | .host => 1 | .manual => 2 | .linkLost => 3

def ChannelType.code : ChannelType → Byte
  | .unused => 0 | .vehicle => 1 | .pedestrian => 2

def Recall.code : Recall → Byte
  | .none => 0 | .min => 1 | .max => 2 | .ped => 3

def Indication.code : Indication → Byte
  | .dark => 0 | .red => 1 | .green => 2 | .amber => 3 | .redClear => 4 | .flash => 5 | .pedClear => 6

/-- The held indication, 7 for none. -/
def heldCode : Option Indication → Byte
  | some i => i.code
  | none => 7

def Lit.code : Lit → Byte
  | .unlit => 0 | .steady => 1 | .flashA => 2 | .flashB => 3

/-- The applied pattern byte: bits 1-0 red, 3-2 amber, 5-4 green. -/
def Pattern.code (p : Pattern) : Byte := p.red.code ||| (p.amber.code <<< 2) ||| (p.green.code <<< 4)

def Termination.code : Termination → Byte
  | .fixed => 0 | .actuated => 1

def QueueMode.code : QueueMode → Byte
  | .single => 0 | .cycle => 1

def StepPhase.code : StepPhase → Byte
  | .none => 0 | .transition => 1 | .fullGreen => 2 | .resting => 3

def DetectorMode.code : DetectorMode → Byte
  | .off => 0 | .presence => 1 | .pulse => 2 | .pair => 3

def DetectorFault.code : DetectorFault → Byte
  | .ok => 0 | .stuckOn => 1 | .noActivity => 2 | .chatter => 3

def FailAction.code : FailAction → Byte
  | .placeRecall => 0 | .ignore => 1

def Direction.code : Direction → Byte
  | .clear => 0 | .leadOn => 1 | .lagOn => 2 | .forward => 3 | .reverse => 4 | .unresolved => 5

/-- The preempt state, 7 for EXIT with the PENDING-at-exit mark. -/
def preemptCode (p : Preempt) : Byte :=
  match p.state with
  | .idle => 0 | .delaying => 1 | .pending => 2 | .entry => 3 | .track => 4 | .dwell => 5
  | .exit => if p.pendingAtExit then 7 else 6

def EntryStage.code : EntryStage → Byte
  | .none => 0 | .minimum => 1 | .clearing => 2

def ExitKind.code : ExitKind → Byte
  | .resume => 0 | .next => 1

/-- The slot holder: 0 none, 1 to 4. -/
def holderCode : Option Pre → Byte
  | some p => u8 (number p)
  | none => 0

def FaultCause.code : FaultCause → Byte
  | .conflict => 1 | .redFail => 2 | .clearance => 3 | .flashGreen => 4 | .plug => 5 | .plugChanged => 6

def LampStatus.code : LampStatus → Byte
  | .ok => 0 | .lampOut => 1 | .switchOn => 2

def PlugStatus.code : PlugStatus → Byte
  | .none => 0 | .valid => 1 | .absent => 2 | .unstable => 3

def LockState.code : LockState → Byte
  | .free => 0 | .acquiring => 1 | .locked => 2

def Nominal.code : Nominal → Byte
  | .auto => 0 | .hz50 => 50 | .hz60 => 60

/-- The decided frequency, 0 for undecided. -/
def decidedCode : Option Freq → Byte
  | some .hz50 => 50
  | some .hz60 => 60
  | none => 0

def Supply.code : Supply → Byte
  | .unknown => 0 | .dropout => 1 | .sag => 2 | .normal => 3 | .high => 4

def LinkError.code : LinkError → Byte
  | .none => 0 | .parity => 1 | .framing => 2 | .gap => 3 | .length => 4 | .check => 5 | .overrun => 6

def LinkRate.code : LinkRate → Byte
  | .b9600 => 0 | .b19200 => 1 | .b38400 => 2 | .b57600 => 3

/-- The link rate that the straps BAUD1, BAUD0 select (Table 1, R181). -/
def rateOf (straps : BitVec 2) : LinkRate :=
  if straps = 0 then .b9600 else if straps = 1 then .b19200 else if straps = 2 then .b38400 else .b57600

/-! ### Timing sets (R2, R17) -/

/-- A raw timing set read as numbers. -/
def TimingFields.sent (t : TimingFields) : Timing :=
  { minGreen := t.minGreen.toNat, addedInitial := t.addedInitial.toNat, maxInitial := t.maxInitial.toNat,
    maxGap := t.maxGap.toNat, minGap := t.minGap.toNat, tbr := t.tbr.toNat, ttr := t.ttr.toNat,
    maxGreen := t.maxGreen.toNat, amber := t.amber.toNat, redClear := t.redClear.toNat, walk := t.walk.toNat,
    pedClear := t.pedClear.toNat }

/-- Step 1 of R2: each field brought into its own range of Table 1-2. -/
def Timing.ranged (t : Timing) : Timing :=
  { minGreen := clampTo 10 2550 t.minGreen, addedInitial := clampTo 0 255 t.addedInitial,
    maxInitial := clampTo 0 2550 t.maxInitial, maxGap := clampTo 0 99 t.maxGap, minGap := clampTo 0 99 t.minGap,
    tbr := clampTo 0 2550 t.tbr, ttr := clampTo 0 2550 t.ttr, maxGreen := clampTo 10 2550 t.maxGreen,
    amber := clampTo 30 100 t.amber, redClear := clampTo 0 60 t.redClear, walk := clampTo 10 2550 t.walk,
    pedClear := clampTo 30 2550 t.pedClear }

/-- Step 2 of R2: MaxGreen below MinGreen is stored as MinGreen. -/
def Timing.raiseMaxGreen (t : Timing) : Timing := { t with maxGreen := max t.maxGreen t.minGreen }

/-- Step 3 of R2: MaxInitial above MaxGreen is stored as MaxGreen. -/
def Timing.lowerMaxInitial (t : Timing) : Timing := { t with maxInitial := min t.maxInitial t.maxGreen }

/-- Step 4 of R2: MinGap above MaxGap is stored as MaxGap. -/
def Timing.lowerMinGap (t : Timing) : Timing := { t with minGap := min t.minGap t.maxGap }

/-- The four steps of R2, in their order. -/
def Timing.clamped (t : Timing) : Timing := t.ranged.raiseMaxGreen.lowerMaxInitial.lowerMinGap

/-- A stored timing set as its nineteen bytes (Table 13-4). -/
def Timing.bytes (t : Timing) : List Byte :=
  u16 t.minGreen ++ [u8 t.addedInitial] ++ u16 t.maxInitial ++ [u8 t.maxGap, u8 t.minGap] ++ u16 t.tbr ++
    u16 t.ttr ++ u16 t.maxGreen ++ [u8 t.amber, u8 t.redClear] ++ u16 t.walk ++ u16 t.pedClear

/-! ### Attribute and flag bytes (Table 13-3) -/

/-- The attribute byte of a channel: bit 0 flash colour, 1 flash phase, 2 dim enable, 3 red monitor enable. -/
def attributeByte (c : Channel) : Byte :=
  flagByte (c.flashColour == .amber) ||| (flagByte (c.flashPhase == .b) <<< 1) ||| (flagByte c.dimEnable <<< 2) |||
    (flagByte c.redMonitor <<< 3)

/-- The tone flags: bit 0 locator, 1 envelope, 2 mute. -/
def toneFlags (l : ToneLine) : Byte :=
  flagByte l.locator ||| (flagByte l.envelope <<< 1) ||| (flagByte l.mute <<< 2)

/-- Codes of two bits packed four to a byte, the lowest item in the lowest bits (Table 13-2, status pack). -/
def packCodes : List Byte → List Byte
  | a :: b :: c :: d :: rest => (a ||| (b <<< 2) ||| (c <<< 4) ||| (d <<< 6)) :: packCodes rest
  | _ => []

/-- A 24-bit detector mask, detectors 17 to 24 in the first byte sent (Table 13-2), then 9 to 16 and 1 to 8 (log
entry 20). -/
def detSetBytes (m : DetSet) : List Byte := [m.extractLsb' 16 8, m.extractLsb' 8 8, m.extractLsb' 0 8]

/-- A 48-bit output mask, its most significant byte first (log entry 20). -/
def lampSetBytes (m : LampSet) : List Byte :=
  [m.extractLsb' 40 8, m.extractLsb' 32 8, m.extractLsb' 24 8, m.extractLsb' 16 8, m.extractLsb' 8 8,
   m.extractLsb' 0 8]

/-- A report mask: bits 9 to 15 sent as 0 (Table 13-2). -/
def reportMaskBytes (m : BitVec 9) : List Byte := wordBytes (m.setWidth 16)

/-- The preempt configuration of Table 13-6. -/
def preemptConfigBytes (p : Pre) (c : PreemptConfig) : List Byte :=
  [u8 (number p), u8 c.priority, u8 c.delay, flagByte c.locking, u8 c.minGreen, flagByte c.pedTruncate, u8 c.pedClear] ++
    wordBytes c.trackSet ++ u16 c.trackTime ++ wordBytes c.dwellSet ++ u16 c.dwellMin ++
    [u8 c.maxPresence, c.exitKind.code, flagByte c.enable]

/-- The fault record of Table 13-7, all zero when no record is held (log entry 59). -/
def faultRecordBytes : Option FaultRecord → List Byte
  | none => List.replicate 9 0
  | some r =>
    [1 ||| (flagByte r.additional <<< 7), r.cause.code, u8 r.first, u8 r.second] ++ u32 r.tenth.toNat ++
      [r.mode.code]

end Sys2Proof.Machine
end

