-- ==== Sys2Proof/Machine/Flags.lean ====
section
/-! DEFINITION. Machine/Flags.lean: the report flags of the cabinet link (R185) and the rules of the blocks that flag
a report whenever its content changes (R60, R118, R137). -/

namespace Sys2Proof.Machine

/-- The place of a report kind in the report mask and in the order of choice (Table 13-2, R185). -/
def Report.index : Report → Fin 9
  | .mode => 0 | .fault => 1 | .preempt => 2 | .stage => 3 | .lamp => 4 | .detector => 5 | .supply => 6 | .sign => 7
  | .status => 8

/-- The kind byte of a report: 0xF1 to 0xF9 (R185). -/
def Report.kind (r : Report) : Byte := 0xF1#8 + BitVec.ofNat 8 r.index.val

/-- The report kinds in the order of R185. -/
def Report.all : List Report := [.mode, .fault, .preempt, .stage, .lamp, .detector, .supply, .sign, .status]

/-- A report flag set (R185). -/
def Link.flag (l : Link) (r : Report) : Link := { l with flags := insertBit l.flags r.index }

/-- A report flag cleared. -/
def Link.unflag (l : Link) (r : Report) : Link := { l with flags := eraseBit l.flags r.index }

/-- A block sets the flag of a report kind. -/
def flag (r : Report) (s : State) : State := { s with link := s.link.flag r }

/-- A block sets the flag of a report kind when a condition holds. -/
def flagIf (b : Bool) (r : Report) (s : State) : State := if b then flag r s else s

/-- What the MODE report's flag follows (R137). -/
def modeKey (s : State) : Mode × FlashCause × Option Mode × Bool :=
  (s.unit.mode, s.unit.cause, s.unit.remembered, s.unit.switchLevel)

/-- What the PREEMPT report's flag follows (R118). The PENDING-at-exit mark is taken as part of a preempt's state, so that
its setting and its clearing set the flag (R113; log entry 54, the model's choice). -/
def preemptKey (s : State) : List (PreemptState × Bool × Bool × Bool) × BitVec 4 :=
  ((List.finRange 4).map (fun p =>
    let r := s.pres.get p
    (r.state, r.pendingAtExit, r.cfg.enable, r.stuck)), s.arb.disabled)

end Sys2Proof.Machine
end

