-- ==== Sys2Proof/Machine/Ops.lean ====
section
/-! DEFINITION. Machine/Ops.lean: the named operations that the families share: reading and writing one record,
the compatibility questions of R21 to R30, and the questions every block asks of the channels and the detectors. -/

namespace Sys2Proof.Machine

/-! ### One record of a bank -/

def State.chan (s : State) (c : Chan) : Channel := s.chans.get c
def State.green (s : State) (c : Chan) : Green := s.greens.get c
def State.det (s : State) (d : Det) : Detector := s.dets.get d
def State.pre (s : State) (p : Pre) : Preempt := s.pres.get p
def State.line (s : State) (l : Line) : ToneLine := s.tones.get l

def State.setChan (s : State) (c : Chan) (r : Channel) : State := { s with chans := vset s.chans c r }
def State.setGreen (s : State) (c : Chan) (r : Green) : State := { s with greens := vset s.greens c r }
def State.setDet (s : State) (d : Det) (r : Detector) : State := { s with dets := vset s.dets d r }
def State.setPre (s : State) (p : Pre) (r : Preempt) : State := { s with pres := vset s.pres p r }

/-! ### Unit modes -/

/-- ENTRY_RED, CONTROLLED and CLEARING_TO_FLASH: the control modes (R4, R29, R121). -/
def Mode.isControl : Mode → Bool
  | .entryRed | .controlled | .clearingToFlash => true
  | .startFlash | .localFlash | .faultFlash | .powerOut => false

/-- The four modes whose entry copies the pending timing sets (R3). -/
def Mode.copiesTiming : Mode → Bool
  | .startFlash | .localFlash | .faultFlash | .powerOut => true
  | .entryRed | .controlled | .clearingToFlash => false

/-- The four modes in which the flash transfer relay drive is energised (R136). -/
def Mode.relay : Mode → Bool
  | .entryRed | .controlled | .clearingToFlash | .localFlash => true
  | .startFlash | .faultFlash | .powerOut => false

/-- The unit mode, or in POWER_OUT the remembered mode (R17, R18, R29, R32). -/
def State.standingMode (s : State) : Mode :=
  if s.unit.mode = .powerOut then s.unit.remembered.getD .powerOut else s.unit.mode

/-! ### Channels -/

/-- A channel of type VEHICLE or PEDESTRIAN is a used channel (R1). -/
def Channel.used (c : Channel) : Bool := c.kind != .unused

/-- The indication of a channel, its held indication standing in for it in POWER_OUT (R61). -/
def State.shown (s : State) (c : Chan) : Indication :=
  if s.unit.mode = .powerOut then (s.chan c).held.getD .dark else (s.chan c).ind

/-- The channels that are GREEN, in the sense of R61. -/
def State.greenMask (s : State) : ChanSet := maskOf (fun c => s.shown c == .green)

/-- The used channels. -/
def State.usedMask (s : State) : ChanSet := maskOf (fun c => (s.chan c).used)

/-- The channels whose indication is RED or DARK (R44). -/
def State.clearMask (s : State) : ChanSet := maskOf (fun c => (s.chan c).ind == .red || (s.chan c).ind == .dark)

/-- The channels of a type whose own indication is GREEN. -/
def State.greenOf (s : State) (k : ChannelType) : ChanSet :=
  maskOf (fun c => (s.chan c).ind == .green && (s.chan c).kind == k)

/-! ### The in-use table (R21, R23) -/

/-- The place of a channel pair in the plug's rows: its cell of Table 2-2 less one (R23). -/
def pairIndex (i j : Chan) : Nat :=
  let a := min i.val j.val
  let b := max i.val j.val
  a * (31 - a) / 2 + (b - a - 1)

/-- Whether a table permits two channels together; a channel is compatible with itself (R21). -/
def compatible (t : PairTable) (i j : Chan) : Bool := i == j || t.getLsbD (pairIndex i j)

/-- The channels incompatible with a channel. -/
def conflictsOf (t : PairTable) (i : Chan) : ChanSet := maskOf (fun j => !compatible t i j)

/-- A set of channels no two of which are incompatible (R21). -/
def pairwiseCompatible (t : PairTable) (set : ChanSet) : Bool :=
  (List.finRange 16).all (fun i => !has set i || (set &&& conflictsOf t i) == 0)

/-! ### Detectors (R86 to R92) -/

/-- The lead of a pair: an odd detector number (Conventions). -/
def isLead (d : Det) : Bool := d.val % 2 == 0

/-- The other detector of the pair. -/
def partner (d : Det) : Det := if h : d.val % 2 = 0 then ⟨d.val + 1, by omega⟩ else ⟨d.val - 1, by omega⟩

/-- Whether a detector's own fault state is other than OK. -/
def Detector.faulted (r : Detector) : Bool := r.fault != .ok

/-- Whether a detector, or the pair that a lead stands for, is faulted (R98). -/
def State.detFaulted (s : State) (d : Det) : Bool :=
  (s.det d).faulted || ((s.det d).mode == .pair && (s.det (partner d)).faulted)

/-- Occupancy: a PRESENCE detector's level, or the lead of a pair while either member is on (R86, R88). -/
def State.detOccupied (s : State) (d : Det) : Bool :=
  match (s.det d).mode with
  | .presence => (s.det d).level
  | .pair => isLead d && ((s.det d).level || (s.det (partner d)).level)
  | .off | .pulse => false

/-- The channels on which a PRESENCE detector or a pair has a call condition (R91). -/
def State.callConds (s : State) (d : Det) : ChanSet :=
  let r := s.det d
  if s.detOccupied d && !s.detFaulted d && (r.mode != .pair || r.direction == .forward) then
    if r.delay ≤ r.delayTimer then r.callMask else r.callMask &&& s.greenMask
  else 0

/-- The channels that a detector reports occupied for extension (R92). -/
def State.extends (s : State) (d : Det) : ChanSet :=
  if s.detOccupied d && !s.detFaulted d then (s.det d).extendMask else 0

/-- The channels on which a faulted detector places its fault recall (R98). -/
def State.faultRecalls (s : State) (d : Det) : ChanSet :=
  let r := s.det d
  if r.mode != .off && (r.mode != .pair || isLead d) && s.detFaulted d && r.failAction == .placeRecall then r.callMask
  else 0

/-- The union of a set over all detectors. -/
def detUnion (f : Det → ChanSet) : ChanSet := (List.finRange 24).foldl (fun m d => m ||| f d) 0

/-- The channels with a live call from a non-locking detector (R91). -/
def State.liveCalls (s : State) : ChanSet := detUnion (fun d => if (s.det d).locking then 0 else s.callConds d)

/-- The channels on which some locking detector's call condition holds (R91). -/
def State.lockingConds (s : State) : ChanSet := detUnion (fun d => if (s.det d).locking then s.callConds d else 0)

/-- The channels with an occupied extending detector (R72). -/
def State.extended (s : State) : ChanSet := detUnion s.extends

/-! ### Calls (R64, R65) -/

/-- The channels with a constant call from their recall (R64). -/
def State.recallCalls (s : State) : ChanSet :=
  maskOf (fun c =>
    match (s.chan c).kind, (s.chan c).recallKind with
    | .vehicle, .min => true
    | .vehicle, .max => true
    | .pedestrian, .ped => true
    | _, _ => false)

/-- The channels whose call latch is set. -/
def State.latches (s : State) : ChanSet := maskOf (fun c => (s.green c).latch)

/-- The channels that have a call (R64); an UNUSED channel never has one. -/
def State.calls (s : State) : ChanSet :=
  s.usedMask &&& (s.latches ||| s.liveCalls ||| detUnion s.faultRecalls ||| s.recallCalls)

/-- Whether the record at an index of the queue is the current step. -/
def State.isCurrent (s : State) (i : Nat) : Bool := s.seq.current && i == s.seq.position

/-- The channels in the green set of a queued record other than the current step (R65). -/
def State.queuedSets (s : State) : ChanSet :=
  (s.seq.queue.zipIdx).foldl (fun m r => if s.isCurrent r.2 then m else m ||| r.1.greenSet) 0

/-- The channels with a serviceable call (R65). -/
def State.serviceable (s : State) : ChanSet := s.calls &&& ~~~ s.greenMask &&& s.queuedSets

/-- Whether a conflicting serviceable call exists for a channel (R65). -/
def State.pressed (s : State) (c : Chan) : Bool := (s.serviceable &&& conflictsOf s.compat.inUse c) != 0

/-! ### The step queue (R38 to R40) -/

/-- The record at the current position. -/
def State.record (s : State) : Option StepRecord := s.seq.queue[s.seq.position]?

/-- The green set of the current step, empty when there is none. -/
def State.currentSet (s : State) : ChanSet :=
  if s.seq.current then (s.record.map (·.greenSet)).getD 0 else 0

/-- The serial of the current step, 0 when there is none (R56). -/
def State.currentSerial (s : State) : Nat :=
  if s.seq.current then (s.record.map (·.serial)).getD 0 else 0

/-- A record is skipped when its skip flag is on and no channel of its green set has a call (R38). -/
def skipped (calls : ChanSet) (r : StepRecord) : Bool := r.skip && (r.greenSet &&& calls) == 0

/-- The first index of a list of queue indices whose record is not skipped. -/
def firstUnskipped (calls : ChanSet) (queue : List StepRecord) : List Nat → Option Nat
  | [] => none
  | i :: rest =>
    match queue[i]? with
    | some r => if skipped calls r then firstUnskipped calls queue rest else some i
    | none => firstUnskipped calls queue rest

/-- The queue indices a handover examines, in order, the current position not among them (R39). -/
def State.handoverOrder (s : State) : List Nat :=
  let n := s.seq.queue.length
  let p := s.seq.position
  match s.seq.mode with
  | .single => List.range' (p + 1) (n - (p + 1))
  | .cycle => List.range' (p + 1) (n - (p + 1)) ++ List.range' 0 (min p n)

/-- The eligible next step, as found from the current position (R39). -/
def State.eligible (s : State) : Option Nat := firstUnskipped s.calls s.seq.queue s.handoverOrder

/-- The record a first selection chooses: from the current position itself (R40). -/
def State.firstChoice (s : State) : Option Nat :=
  firstUnskipped s.calls s.seq.queue
    (match s.seq.mode with
     | .single => List.range' 0 s.seq.queue.length
     | .cycle => s.seq.position :: s.handoverOrder)

/-- The serial of the eligible next step, 0 when there is none or no step is current (R60; log entry 21). -/
def State.eligibleSerial (s : State) : Nat :=
  if s.seq.current then ((s.eligible.bind (fun i => s.seq.queue[i]?)).map (·.serial)).getD 0 else 0

/-- The queue index of the current position, 1 to 16, 0 when the queue is empty (R56). -/
def State.positionIndex (s : State) : Nat := if s.seq.queue.isEmpty then 0 else s.seq.position + 1

/-- The service flag: a preemption is in service (R106). -/
def State.inService (s : State) : Bool := s.arb.holder.isSome

/-- Whether a preemption input is active: its level on and its stuck flag clear (R104). -/
def Preempt.active (p : Preempt) : Bool := p.level && !p.stuck

/-! ### What the reports follow -/

/-- The queue part of what the STAGE report carries (R60). -/
structure StageKey where
  mode : Mode
  serial : Nat
  phase : StepPhase
  greenSet : ChanSet
  queueMode : QueueMode
  held : Nat
  index : Nat
  eligible : Nat
  hold : Bool
  force : Bool
  service : Bool
  pruned : Bool
  deriving DecidableEq, Repr

/-- What the STAGE report carries (R60). -/
def State.stageKey (s : State) : StageKey :=
  { mode := s.unit.mode, serial := s.currentSerial, phase := s.seq.phase, greenSet := s.currentSet,
    queueMode := s.seq.mode, held := s.seq.queue.length, index := s.positionIndex, eligible := s.eligibleSerial,
    hold := s.seq.hold, force := s.seq.force, service := s.inService, pruned := s.seq.pruned }

/-- The MODE, PREEMPT and STAGE flags set for what a change from `old` to `new` has changed (R60, R118, R137). -/
def noting (old new : State) : State :=
  flagIf (modeKey old != modeKey new) .mode
    (flagIf (preemptKey old != preemptKey new) .preempt
      (flagIf (old.stageKey != new.stageKey) .stage new))

end Sys2Proof.Machine
end

