-- ==== Sys2Proof/Machine/Calls.lean ====
section
/-! DEFINITION. Machine/Calls.lean: the shared operations of the Call and Green Timing Unit: call latches, the initial
green, the allowed gap, extending actuations, the tenth tick of the green timers, readiness and the termination
conditions (R61 to R82, R49). -/

namespace Sys2Proof.Machine

/-! ### Call latches (R62, R63) -/

/-- A request to set call latches: taken on each named channel that is used and not GREEN (R62). -/
def requestLatches (mask : ChanSet) (s : State) : State :=
  let taken := mask &&& s.usedMask &&& ~~~ s.greenMask
  if taken == 0 then s
  else { s with greens := vmap (fun c g => if has taken c then { g with latch := true } else g) s.greens }

/-- One call latch cleared (R63). -/
def clearLatch (c : Chan) (s : State) : State := s.setGreen c { s.green c with latch := false }

/-! ### Green timing (R67 to R73) -/

/-- The initial green: max(MinGreen, min(MaxInitial, AddedInitial × ActCount)) (R68). -/
def initialGreen (t : Timing) (count : Nat) : Nat := max t.minGreen (min t.maxInitial (t.addedInitial * count))

/-- The allowed gap P(t) (R71). -/
def allowedGap (t : Timing) : Option Nat → Nat
  | none => t.maxGap
  | some n =>
    if n ≤ t.tbr then t.maxGap
    else if n < t.tbr + t.ttr then t.maxGap - (t.maxGap - t.minGap) * (n - t.tbr) / t.ttr
    else t.minGap

/-- The idle values of the green timers, latch and ActCount kept (R61, R69). -/
def Green.idle (g : Green) : Green :=
  { g with initial := 0, elapsed := 0, clock := none, gap := 0, maxTimer := 0, maxOut := false }

/-- The loads of a vehicle GREEN entry from the active set; `pressed` says whether a conflicting serviceable call
exists at the moment (R68). -/
def Green.start (t : Timing) (pressed : Bool) (g : Green) : Green :=
  { latch := false, actCount := 0, initial := initialGreen t g.actCount, elapsed := 0,
    clock := if pressed then some 0 else none, gap := t.maxGap, maxTimer := t.maxGreen, maxOut := false }

/-- What the unit does when told of a vehicle GREEN entry (R68). -/
def vehicleEntry (c : Chan) (s : State) : State :=
  s.setGreen c ((s.green c).start (s.chan c).activeSet (s.pressed c))

/-- An extending actuation for one channel: it reloads the gap timer of a GREEN vehicle channel and counts on one
that is not GREEN; frozen timers are not touched in POWER_OUT (R67, R72, R81). -/
def actuated (s : State) (c : Chan) (g : Green) : Green :=
  if (s.chan c).kind = .vehicle then
    if s.shown c = .green then
      if s.unit.mode = .powerOut then g
      else { g with gap := allowedGap (s.chan c).activeSet g.clock }
    else { g with actCount := min 255 (g.actCount + 1) }
  else g

/-- Extending actuations for the channels of a set (R92). -/
def actuate (mask : ChanSet) (s : State) : State :=
  if mask == 0 then s
  else { s with greens := vmap (fun c g => if has mask c then actuated s c g else g) s.greens }

/-- The gap timer at a tenth tick, after the reduction clock has advanced (R72). -/
def gapTick (allowed : Nat) (occupied : Bool) (gap : Nat) : Nat :=
  if occupied then allowed else min (gap - 1) allowed

/-- The green timers of one GREEN vehicle channel at a tenth tick (R69, R70, R72, R73). -/
def Green.tick (t : Timing) (pressed occupied : Bool) (g : Green) : Green :=
  let clock := g.clock.map (fun n => min 65535 (n + 1))
  let maxTimer := if pressed then g.maxTimer - 1 else g.maxTimer
  { g with
    initial := g.initial - 1
    elapsed := min 65535 (g.elapsed + 1)
    clock := clock
    gap := gapTick (allowedGap t clock) occupied g.gap
    maxTimer := maxTimer
    maxOut := g.maxOut || (pressed && maxTimer == 0) }

/-- The tenth tick of the unit: every GREEN vehicle channel, outside POWER_OUT (R69, R81). -/
def tickGreens (s : State) : State :=
  let extended := s.extended
  let serviceable := s.serviceable
  { s with
    greens := vmap (fun c g =>
      if (s.chan c).kind = .vehicle ∧ (s.chan c).ind = .green ∧ s.unit.mode ≠ .powerOut then
        g.tick (s.chan c).activeSet ((serviceable &&& conflictsOf s.compat.inUse c) != 0) (has extended c)
      else g) s.greens }

/-- The channels whose reduction clock starts at this moment (R70). -/
def State.clockStarts (s : State) : ChanSet :=
  let serviceable := s.serviceable
  if s.unit.mode = .powerOut ∨ serviceable = 0 then 0
  else
    maskOf (fun c =>
      (s.chan c).kind == .vehicle && (s.chan c).ind == .green && (s.green c).clock == none &&
        (serviceable &&& conflictsOf s.compat.inUse c) != 0)

/-- The reduction clocks that start at this moment, if any does (R70). -/
def judgeClocks (s : State) : Option State :=
  let m := s.clockStarts
  if m = 0 then none
  else some { s with greens := vmap (fun c g => if has m c then { g with clock := some 0 } else g) s.greens }

/-! ### Readiness and termination (R49, R74 to R76) -/

/-- Gapped out: the gap timer is 0 and no extending detector is occupied (R72), the occupancy as it stands at the moment, in
POWER_OUT too (R81; log entry 53, the model's choice). -/
def State.gappedOut (s : State) (c : Chan) : Bool := (s.green c).gap == 0 && !has s.extended c

/-- The channels served in the current step: STARTED or CONTINUING in its transition (R74). -/
def State.servedMask (s : State) : ChanSet :=
  if s.seq.current then
    match s.seq.transition with
    | some t => maskOf (fun c => t.classes.get c == .started || t.classes.get c == .continuing)
    | none => s.seq.served
  else 0

/-- A pedestrian channel whose walk and clearance have ended: in RED_CLEAR or RED (R74). -/
def pedCleared (ch : Channel) : Bool := ch.ind == .redClear || ch.ind == .red

/-- Readiness of a channel of the current step's green set (R74). -/
def State.ready (s : State) (c : Chan) : Bool :=
  let ch := s.chan c
  let g := s.green c
  match ch.kind with
  | .vehicle =>
    ch.ind == .green && g.initial == 0 &&
      (if ch.recallKind == .max then g.maxOut else g.maxOut || s.gappedOut c)
  | .pedestrian => !has s.servedMask c || pedCleared ch
  | .unused => true

/-- Whether every channel of the current step's green set passes a test. -/
def State.everyGreen (s : State) (p : Chan → Bool) : Bool :=
  (List.finRange 16).all (fun c => !has s.currentSet c || p c)

/-- The forced condition: initial greens run out and served walks cleared (R76). -/
def State.forcedReady (s : State) (c : Chan) : Bool :=
  let ch := s.chan c
  match ch.kind with
  | .vehicle => ch.ind == .green && (s.green c).initial == 0
  | .pedestrian => !has s.servedMask c || pedCleared ch
  | .unused => true

/-- Conditions 2 and 3 of R49 for one channel. -/
def State.fixedReady (s : State) (c : Chan) : Bool :=
  let ch := s.chan c
  match ch.kind with
  | .vehicle => ch.ind == .green && ch.activeSet.minGreen ≤ (s.green c).elapsed
  | .pedestrian => !has s.servedMask c || pedCleared ch
  | .unused => true

/-- Every condition of the current step's termination but the existence of an eligible next step (R49, R76). -/
def State.mayTerminate (s : State) (r : StepRecord) : Bool :=
  !s.seq.hold &&
    (match r.termination with
     | .fixed => (s.seq.force || s.seq.stepTimer == 0) && s.everyGreen s.fixedReady
     | .actuated =>
       if s.seq.force then s.everyGreen s.forcedReady else s.everyGreen s.ready && s.serviceable != 0)

/-- The ready states that READ CHANNEL reports (R75, Table 13-3). -/
inductive ReadyState where
  | none | notReady | gapped | maxed | cleared
  deriving DecidableEq, Repr

def readyCode : ReadyState → Byte
  | .none => 0 | .notReady => 1 | .gapped => 2 | .maxed => 3 | .cleared => 4

/-- The ready state of a channel (R75), its held indication standing in for it in POWER_OUT (R61). There an occupancy that
began during the outage makes a held GREEN channel NOT_READY before the resume (R81; log entry 53, the model's choice). -/
def State.readyState (s : State) (c : Chan) : ReadyState :=
  let ch := s.chan c
  let g := s.green c
  match ch.kind with
  | .vehicle =>
    if s.shown c = .green then
      if g.initial = 0 ∧ g.maxOut = true then .maxed
      else if g.initial = 0 ∧ s.gappedOut c = true ∧ ch.recallKind ≠ .max then .gapped
      else .notReady
    else .none
  | .pedestrian =>
    if has s.servedMask c ∧ has s.currentSet c then
      match s.shown c with
      | .green | .pedClear => .notReady
      | .redClear | .red => .cleared
      | .dark | .amber | .flash => .none
    else .none
  | .unused => .none

end Sys2Proof.Machine
end

