-- ==== Sys2Proof/Machine/Tones.lean ====
section
/-! DEFINITION. Machine/Tones.lean: the Tone Unit: the playing state of a tone line, its arbitration, and what the
moments of other blocks do to it (R163 to R170). -/

namespace Sys2Proof.Machine

/-- The idle playing state (Table 10-1, R166). -/
def ToneLine.silenced (l : ToneLine) : ToneLine :=
  { l with locatorCycle := none, walkCycle := none, confirmTimer := 0, sounding := .none, level := 0, age := 0,
           tickOpen := false }

/-- A cycle count lies in its tick window. -/
def inWindow (width : Nat) : Option Nat → Bool
  | some n => n < width
  | none => false

/-- The sounding item by the order of R170. -/
def ToneLine.due (l : ToneLine) : Sounding :=
  if inWindow Config.walkWindow l.walkCycle then .walk
  else if 0 < l.confirmTimer then .confirm
  else if inWindow Config.locatorWindow l.locatorCycle && l.tickOpen then .locator
  else .none

/-- The starting level of a sound (R165). -/
def ToneLine.startLevel (l : ToneLine) (dimOn : Bool) : Nat := if dimOn then l.nightVolume else l.dayVolume

/-- The sounding item judged at a moment: a new item begins a new sound (R165, R170); a sound that ends leaves level and age
at 0 (log entry 46). -/
def ToneLine.arbitrate (dimOn : Bool) (l : ToneLine) : ToneLine :=
  if l.due = l.sounding then l
  else if l.due = .none then { l with sounding := .none, level := 0, age := 0 }
  else { l with sounding := l.due, level := l.startLevel dimOn, age := 0 }

/-- Whether an indication runs the locator (R167). -/
def locates : Indication → Bool
  | .red | .pedClear => true
  | .dark | .green | .amber | .redClear | .flash => false

/-- The locator cycle started, its first tick due at once (R167); the tick is open when no confirm runs (R170). -/
def ToneLine.startLocator (l : ToneLine) : ToneLine :=
  { l with locatorCycle := some 0, tickOpen := l.confirmTimer == 0 }

/-- A line judged from its idle state by its channel's indication (R166). -/
def ToneLine.begun (i : Indication) (l : ToneLine) : ToneLine :=
  let l := l.silenced
  if i = .green then { l with walkCycle := some 0 }
  else if locates i && l.locator then l.startLocator
  else l

/-- A line's cycles at a change of its channel's indication (R167, R168, R169). -/
def ToneLine.follow (old new : Indication) (l : ToneLine) : ToneLine :=
  if new = .green then { l with walkCycle := some 0, locatorCycle := none, confirmTimer := 0, tickOpen := false }
  else
    let l := { l with walkCycle := none }
    if locates new then
      if locates old then l else if l.locator then l.startLocator else { l with locatorCycle := none }
    else { l with locatorCycle := none, tickOpen := false }

/-- A confirm request on an active line whose channel shows `i` (R169). -/
def ToneLine.confirm (i : Indication) (l : ToneLine) : ToneLine :=
  if i = .green ∨ 0 < l.confirmTimer then l
  else { l with confirmTimer := Config.confirmTime, tickOpen := false }

/-- The envelope at a millisecond that leaves the sound running (R165). -/
def ToneLine.ageOne (l : ToneLine) : ToneLine :=
  let age := min 250 (l.age + 1)
  { l with age := age, level := if l.envelope && age % 5 == 0 then l.level - 1 else l.level }

/-- The cycles and the confirm timer at a millisecond (R167 to R169). -/
def ToneLine.count (l : ToneLine) : ToneLine :=
  let locator := l.locatorCycle.map (fun n => if n + 1 < Config.locatorCycle then n + 1 else 0)
  let confirm := l.confirmTimer - 1
  { l with
    locatorCycle := locator
    walkCycle := l.walkCycle.map (fun n => if n + 1 < Config.walkCycle then n + 1 else 0)
    confirmTimer := confirm
    tickOpen := if locator == some 0 then confirm == 0 else l.tickOpen }

/-- One millisecond of an active line (R165, R170). -/
def ToneLine.millisecond (dimOn : Bool) (l : ToneLine) : ToneLine :=
  let counted := l.count
  if counted.due = counted.sounding then
    if counted.sounding = .none then counted else counted.ageOne
  else counted.arbitrate dimOn

/-- Whether a tone line is active (R163). -/
def State.lineActive (s : State) (l : Line) : Bool :=
  s.unit.mode.isControl &&
    (match (s.line l).channel with
     | some c => (s.chan c).kind == .pedestrian
     | none => false)

/-- The indication of a line's channel, DARK when it has none. -/
def State.lineShows (s : State) (l : Line) : Indication :=
  match (s.line l).channel with
  | some c => (s.chan c).ind
  | none => .dark

/-- The active lines bound to a channel follow a change of its indication (R11, R167 to R169). -/
def tonesFollow (c : Chan) (old new : Indication) (s : State) : State :=
  { s with
    tones := vmap (fun i l =>
      if l.channel = some c ∧ s.lineActive i = true then (l.follow old new).arbitrate s.lamps.dimOn else l) s.tones }

/-- A line judged afresh, as when it becomes active, or put to its idle values while it is not active (R166). -/
def lineAfresh (s : State) (i : Line) (l : ToneLine) : ToneLine :=
  if s.lineActive i then (l.begun (s.lineShows i)).arbitrate s.lamps.dimOn else l.silenced

/-- Every line at a change of unit mode: a line that stops or starts being active takes its state afresh (R166). -/
def tonesAtMode (old : State) (s : State) : State :=
  { s with
    tones := vmap (fun i l => if s.lineActive i && old.lineActive i then l else lineAfresh s i l) s.tones }

/-- A detector on-edge as a confirm request on the lines bound to it (R169). -/
def confirmRequest (d : Det) (s : State) : State :=
  { s with
    tones := vmap (fun i l =>
      if l.button = some d ∧ s.lineActive i = true then (l.confirm (s.lineShows i)).arbitrate s.lamps.dimOn else l)
      s.tones }

/-- The output of a line: its frequency in hertz and its high time in units of 1/16 period, none while low (R165). -/
def ToneLine.output (l : ToneLine) : Option (Nat × Nat) :=
  if l.sounding = .none ∨ l.level = 0 ∨ l.mute = true then none
  else some ([500, 700, 880, 1000, 1250, 1760, 2000, 2800].getD l.frequency 0, l.level)

/-- The level of a TONE output in a sixteenth of a period, the periods of its square wave counted from a rising edge: high
for level × 6.25% of each and low for the rest, and low while there is no wave (R165; log entry 14). -/
def ToneLine.outputAt (l : ToneLine) (sixteenth : Nat) : Bool :=
  match l.output with
  | none => false
  | some (_, high) => sixteenth % 16 < high

end Sys2Proof.Machine
end

