-- ==== Sys2Proof/Machine/Channels.lean ====
section
/-! DEFINITION. Machine/Channels.lean: the shared operations of the Channel Output Block: a change of indication with
the notices of R11, green start, termination and cut orders, interval expiries, and the lamp patterns at a crossing
event (R1 to R20). -/

namespace Sys2Proof.Machine

/-! ### Patterns (R12) -/

/-- The flashing value of a phase. -/
def Phase.lit : Phase → Lit
  | .a => .flashA
  | .b => .flashB

/-- The lamp pattern of an indication (Table 1-4). -/
def patternOf (c : Channel) (i : Indication) : Pattern :=
  match i with
  | .dark => Pattern.dark
  | .red | .redClear => { Pattern.dark with red := .steady }
  | .green => { Pattern.dark with green := .steady }
  | .amber => { Pattern.dark with amber := .steady }
  | .pedClear => { Pattern.dark with red := .flashA }
  | .flash =>
    match c.flashColour with
    | .red => { Pattern.dark with red := c.flashPhase.lit }
    | .amber => { Pattern.dark with amber := c.flashPhase.lit }

/-! ### Changing an indication (R11) -/

/-- Whether a channel is tied to a CHANNEL entry among the sign entries 1 to N (R175). -/
def State.tied (s : State) (c : Chan) : Bool :=
  (List.finRange 8).any (fun k => k.val < s.signs.count && ((s.signs.modules.get k).entry.source == some c))

/-- The sign chain told that the indication of a channel changed (R175). -/
def signsFollow (c : Chan) (s : State) : State :=
  if s.tied c then { s with signs := { s.signs with pendingExchange := true } } else s

/-- The locking calls handed for the channels of a set that have just left GREEN (R91). -/
def handLocking (mask : ChanSet) (s : State) : State := requestLatches (mask &&& s.lockingConds) s

/-- What follows a departure from GREEN: green timers idle, an owed termination order dropped, locking calls judged
(R69, R109, R91). -/
def leaveGreen (c : Chan) (s : State) : State :=
  let s := s.setGreen c (s.green c).idle
  handLocking (maskOf (fun j => j == c)) { s with seq := { s.seq with owedEnds := eraseBit s.seq.owedEnds c } }

/-- A channel enters an indication: its staged pattern is formed and every block of R11 is told. -/
def enter (c : Chan) (new : Indication) (s : State) : State :=
  let ch := s.chan c
  let s1 := signsFollow c (tonesFollow c ch.ind new (s.setChan c { ch with ind := new, staged := patternOf ch new }))
  if ch.ind = .green then leaveGreen c s1 else s1

/-- A channel's interval timer loaded. -/
def loadTimer (c : Chan) (t : Nat) (s : State) : State := s.setChan c { s.chan c with timer := t }

/-- The active set after a copy made from the pending set (R3). -/
def copyActive (c : Chan) (f : Timing → Timing → Timing) (s : State) : State :=
  let ch := s.chan c
  s.setChan c { ch with activeSet := f ch.pendingSet ch.activeSet }

/-- The copies of R3, by the interval entered. -/
def copyGreen (p a : Timing) : Timing :=
  { a with minGreen := p.minGreen, addedInitial := p.addedInitial, maxInitial := p.maxInitial, maxGap := p.maxGap,
           minGap := p.minGap, tbr := p.tbr, ttr := p.ttr, maxGreen := p.maxGreen }
def copyAmber (p a : Timing) : Timing := { a with amber := p.amber }
def copyRedClear (p a : Timing) : Timing := { a with redClear := p.redClear }
def copyWalk (p a : Timing) : Timing := { a with walk := p.walk }
def copyPedClear (p a : Timing) : Timing := { a with pedClear := p.pedClear }

/-- A green start order (R5). -/
def startChannel (c : Chan) (s : State) : State :=
  let ch := s.chan c
  if ch.ind = .red then
    match ch.kind with
    | .unused => s
    | .vehicle => vehicleEntry c (enter c .green (copyActive c copyGreen s))
    | .pedestrian => clearLatch c (enter c .green (loadTimer c ch.pendingSet.walk (copyActive c copyWalk s)))
  else s

/-- Entry into PED_CLEAR from a walk (R8, R9). -/
def enterPedClear (c : Chan) (s : State) : State :=
  enter c .pedClear (loadTimer c (s.chan c).pendingSet.pedClear (copyActive c copyPedClear s))

/-- A termination order (R6, R9). -/
def terminateChannel (c : Chan) (s : State) : State :=
  let ch := s.chan c
  if ch.ind = .green then
    match ch.kind with
    | .unused => s
    | .vehicle => enter c .amber (loadTimer c ch.pendingSet.amber (copyActive c copyAmber s))
    | .pedestrian => enterPedClear c s
  else s

/-- Termination orders to the channels of a set, in channel order. -/
def terminateAll (mask : ChanSet) (s : State) : State :=
  (List.finRange 16).foldl (fun s c => if has mask c then terminateChannel c s else s) s

/-- A pedestrian clearance cut order with its limit (R9). -/
def cutClearance (limit : Nat) (c : Chan) (s : State) : State :=
  let ch := s.chan c
  if ch.kind = .pedestrian ∧ ch.ind = .pedClear ∧ limit < ch.timer then loadTimer c limit s else s

/-- Entry into RED_CLEAR, or into RED when the pending RedClear is 0 (R7, R9). The RedClear of 0 is copied at the end of a
pedestrian clearance as at that of an amber (log entry 48). -/
def enterClearance (c : Chan) (s : State) : State :=
  let clear := (s.chan c).pendingSet.redClear
  let s1 := loadTimer c clear (copyActive c copyRedClear s)
  if clear = 0 then enter c .red s1 else enter c .redClear s1

/-- The expiry of a channel's interval (R7, R8, R9). -/
def expireChannel (c : Chan) (s : State) : State :=
  let ch := s.chan c
  match ch.ind with
  | .amber | .pedClear => enterClearance c s
  | .redClear => enter c .red s
  | .green => if ch.kind = .pedestrian then enterPedClear c s else s
  | .dark | .red | .flash => s

/-- Whether a channel is in an interval that the block times (R4). -/
def Channel.timed (c : Channel) : Bool :=
  match c.ind with
  | .amber | .redClear | .pedClear => true
  | .green => c.kind == .pedestrian
  | .dark | .red | .flash => false

/-- The channels whose interval expires at a tenth tick taken now (R4). -/
def State.expiring (s : State) : ChanSet :=
  if s.unit.mode.isControl then maskOf (fun c => (s.chan c).timed && (s.chan c).timer == 0) else 0

/-- The interval timers at a tenth tick (R4). -/
def tickChannels (s : State) : State :=
  if s.unit.mode.isControl then
    { s with chans := vmap (fun _ ch => if ch.timed then { ch with timer := ch.timer - 1 } else ch) s.chans }
  else s

/-- The expiries of a tenth tick, in channel order (log entry 5). -/
def expireAll (mask : ChanSet) (s : State) : State :=
  (List.finRange 16).foldl (fun s c => if has mask c then expireChannel c s else s) s

/-! ### Forced indications (R10) -/

/-- A channel forced to an indication at a change of unit mode: interval timer 0, pattern staged (R10, R12). -/
def Channel.force (i : Indication) (c : Channel) : Channel :=
  { c with ind := i, timer := 0, staged := patternOf c i }

/-- Every channel forced by its type: `vehicle` or `pedestrian`, an UNUSED channel DARK (Table 1-3). -/
def forceAll (vehicle pedestrian : Indication) (s : State) : State :=
  { s with
    chans := vmap (fun _ ch =>
      ch.force (match ch.kind with
        | .vehicle => vehicle
        | .pedestrian => pedestrian
        | .unused => .dark)) s.chans }

/-- Every channel's staged and applied patterns none lit and all 48 drives low at once (R12). -/
def drivesOff (s : State) : State :=
  { s with
    chans := vmap (fun _ ch => { ch with staged := Pattern.dark, applied := Pattern.dark }) s.chans
    lamps := { s.lamps with drives := 0 } }

/-- The half-cycle that waits for its sample is left unjudged (R120). -/
def leaveUnjudged (s : State) : State := { s with mon := { s.mon with awaiting := none } }

/-- Every pending timing set copied to the active set (R3). -/
def copyTimings (s : State) : State :=
  { s with chans := vmap (fun _ ch => { ch with activeSet := ch.pendingSet }) s.chans }

/-- Every green timer idle; latches and ActCount kept (R81). -/
def idleGreens (s : State) : State := { s with greens := vmap (fun _ g => g.idle) s.greens }

/-! ### The crossing event (R12 to R16) -/

/-- Whether half-cycle h conducts at dim level k (R14). -/
def conducts (h k : Nat) : Bool := h * k / 8 < (h + 1) * k / 8

/-- Dimming is inhibited while the supply category is SAG or DROPOUT (R15). -/
def State.dimInhibited (s : State) : Bool := s.time.category == .sag || s.time.category == .dropout

/-- The flash clock is in phase A: tenths 0 to 4 of the counter modulo 10 (R13). -/
def State.phaseA (s : State) : Bool := s.time.tenth.toNat % 10 < 5

/-- Whether steady red and green lamps of dim-enabled channels are dim-skipped in the half-cycle that begins (R14). -/
def State.skips (s : State) : Bool :=
  s.lamps.dimOn && !s.dimInhibited && !conducts s.lamps.crossings s.lamps.dimLevel

/-- The drive of one lamp of an applied pattern (R13, R14, R16). -/
def lampDrive (phaseA dimmed : Bool) : Lit → Drive
  | .unlit => .off
  | .steady => if dimmed then .skipped else .conduct
  | .flashA => if phaseA then .conduct else .off
  | .flashB => if phaseA then .off else .conduct

/-- The channel and the colour (0 red, 1 amber, 2 green) of a lamp output (Table 13-2). -/
def outputChan (o : Fin 48) : Chan := ⟨o.val / 3, by omega⟩
def outputColour (o : Fin 48) : Nat := o.val % 3

/-- The lamp output of a channel and a colour. -/
def outputOf (c : Chan) (colour : Fin 3) : Fin 48 := ⟨3 * c.val + colour.val, by omega⟩

/-- One lamp of a pattern by colour. -/
def Pattern.lamp (p : Pattern) (colour : Nat) : Lit :=
  if colour = 0 then p.red else if colour = 1 then p.amber else p.green

/-- The drive report of the half-cycle that begins, from the applied patterns (R16). -/
def State.driveReport (s : State) : Vector Drive 48 :=
  Vector.ofFn (fun o =>
    let ch := s.chan (outputChan o)
    lampDrive s.phaseA (s.skips && ch.dimEnable && outputColour o != 1) (ch.applied.lamp (outputColour o)))

/-- The crossing event, real or synthetic, in the Channel Output Block and its hand-over to the Monitor and the
supply sampler (R12 to R16, R120, R158). -/
def crossing (s : State) : State :=
  let s1 : State := { s with chans := vmap (fun _ ch => { ch with applied := ch.staged }) s.chans }
  let report := s1.driveReport
  { s1 with
    lamps := { s1.lamps with
      drives := maskOf (fun o => report.get o == Drive.conduct)
      crossings := (s1.lamps.crossings + 1) % 8 }
    mon := { s1.mon with awaiting := some report, beside := none }
    time := { s1.time with sampleDue := true } }

end Sys2Proof.Machine
end

