-- ==== Sys2Proof/Machine/Sequencer.lean ====
section
/-! DEFINITION. Machine/Sequencer.lean: the shared operations of the Step Sequencer: transitions with their start
moments and full green, selection and handover, resting, stops, and pruning (R34 to R60, R27). -/

namespace Sys2Proof.Machine

/-! ### Transitions (R43 to R47) -/

/-- The class of a channel at the start or the redirection of a transition (Table 3-3). -/
def classOf (owner : Owner) (inTarget : Bool) (ch : Channel) : TransitionClass :=
  if inTarget then (if ch.ind = .green then .continuing else .waiting)
  else if ch.ind = .green then
    match ch.kind, owner with
    | .pedestrian, .step => .runningOut
    | .pedestrian, .preempt => .terminated
    | .vehicle, _ => .terminated
    | .unused, _ => .outside
  else .outside

/-- A transition to a target begins, or the running one is redirected to it; no order is sent yet (R43, R47). An order
still owed to a held green is dropped here: outside the target the transition ends the green itself, and in the target the
green is CONTINUING (R109; log entry 41). -/
def beginTransition (target : ChanSet) (owner : Owner) (s : State) : State :=
  { s with
    seq := { s.seq with
      transition := some
        { target := target, owner := owner,
          classes := Vector.ofFn (fun c => classOf owner (has target c) (s.chan c)) }
      served := 0
      owedEnds := 0 } }

/-- A transition owned by a step begins: GREEN vehicle channels outside the target are terminated, walks run out
(Table 3-3), a walk of a dwell set that the return handover leaves among them (log entry 42). -/
def beginStepTransition (target : ChanSet) (s : State) : State :=
  terminateAll (s.greenOf .vehicle &&& ~~~ target) (beginTransition target .step s)

/-- The channels of a transition in a class. -/
def Transition.inClass (t : Transition) (k : TransitionClass) : ChanSet := maskOf (fun c => t.classes.get c == k)

/-- The class of one channel of the running transition changed. -/
def setClass (c : Chan) (k : TransitionClass) (s : State) : State :=
  match s.seq.transition with
  | some t => { s with seq := { s.seq with transition := some { t with classes := vset t.classes c k } } }
  | none => s

/-- Whether a WAITING channel is at its start moment: RED, and every channel incompatible with it RED or DARK
(R44). -/
def State.mayStart (s : State) (t : Transition) (clear : ChanSet) (c : Chan) : Bool :=
  t.classes.get c == .waiting && (s.chan c).ind == .red && (conflictsOf s.compat.inUse c &&& ~~~ clear) == 0

/-- What a channel receives at its start moment (R44, R45). -/
def startMoment (c : Chan) (s : State) : State :=
  if (s.chan c).kind = .pedestrian ∧ has s.calls c = false then setClass c .unserved s
  else startChannel c (setClass c .started s)

/-- The lowest WAITING channel at its start moment, treated as R44 gives. -/
def judgeStart (s : State) : Option State :=
  match s.seq.transition with
  | none => none
  | some t =>
    let clear := s.clearMask
    match (List.finRange 16).find? (s.mayStart t clear) with
    | some c => some (startMoment c s)
    | none => none

/-- A channel in an indication that an empty target waits out (R46). -/
def Channel.busy (c : Channel) : Bool :=
  match c.ind with
  | .green | .amber | .pedClear | .redClear => true
  | .dark | .red | .flash => false

/-- Full green of the running transition (R46). -/
def State.atFullGreen (s : State) (t : Transition) : Bool :=
  if t.target = 0 then (List.finRange 16).all (fun c => !(s.chan c).busy)
  else t.inClass .waiting == 0

/-- Full green told to a step: phase FULL_GREEN, the FIXED step timer loaded (R46, R49). -/
def stepFullGreen (t : Transition) (s : State) : State :=
  { s with
    seq := { s.seq with
      transition := none
      phase := .fullGreen
      served := t.inClass .started ||| t.inClass .continuing
      stepTimer := ((s.record.bind (·.stepTime)).getD 0) } }

/-! ### Selection and handover (R39 to R42) -/

/-- A queue with the record at an index moved to the head, the others keeping their order. -/
def toHead (queue : List StepRecord) (i : Nat) : List StepRecord :=
  match queue[i]? with
  | some r => r :: queue.eraseIdx i
  | none => queue

/-- The record at an index becomes the current step, with phase TRANSITION and the queue as its mode has it: in
SINGLE mode at the head, with the outgoing record removed when `drop` is set (R40, R41, R42). -/
def makeCurrent (i : Nat) (drop : Bool) (s : State) : State :=
  let seq :=
    match s.seq.mode with
    | .cycle => { s.seq with position := i }
    | .single =>
      { s.seq with
        queue := if drop then (toHead s.seq.queue i).eraseIdx 1 else toHead s.seq.queue i
        position := 0 }
  let s1 := { s with seq := { seq with current := true, phase := .transition, stepTimer := 0, force := false } }
  beginStepTransition s1.currentSet s1

/-- The handover to the eligible next step at an index; in SINGLE mode the outgoing step, the head, is removed
(R41, R42). -/
def handover (i : Nat) (s : State) : State := makeCurrent i true s

/-- The termination judgment of the current step: handover, rest, or the end of a rest (R48, R51). -/
def judgeTermination (s : State) : Option State :=
  if s.seq.current = true ∧ (s.seq.phase = .fullGreen ∨ s.seq.phase = .resting) then
    match s.record with
    | none => none
    | some r =>
      if s.mayTerminate r then
        match s.eligible with
        | some i => some (handover i s)
        | none =>
          if s.seq.phase = .resting then none
          else some { s with seq := { s.seq with phase := .resting } }
      else if s.seq.phase = .resting then some { s with seq := { s.seq with phase := .fullGreen } }
      else none
  else none

/-- The first selection, at the end of ENTRY_RED and through the all-red wait (R40). -/
def judgeFirst (s : State) : Option State :=
  if s.seq.current = true ∨ s.arb.holder.isSome = true then none
  else
    match s.firstChoice with
    | some i => some (makeCurrent i false s)
    | none => none

/-! ### Stops (R57, R58, R59) -/

/-- The current step ceases to be current, its record staying at the current position (R57, R58). -/
def stopStep (s : State) : State :=
  { s with
    seq := { s.seq with
      current := false
      phase := .none
      stepTimer := 0
      force := false
      served := 0 } }

/-- Entry to CLEARING_TO_FLASH: step execution stops and a running transition ends (R58). -/
def stopExecution (s : State) : State :=
  let s := stopStep s
  { s with seq := { s.seq with transition := none, owedEnds := 0 } }

/-- Entry to FAULT_FLASH, and a restart: the position goes to the head too (R59). -/
def stopAtHead (s : State) : State :=
  let s := stopExecution s
  { s with seq := { s.seq with position := 0 } }

/-- The GREEN vehicle channels whose initial green has run out (R58). -/
def State.runOut (s : State) : ChanSet :=
  s.greenOf .vehicle &&& maskOf (fun c => (s.green c).initial == 0)

/-! ### Pruning (R27) -/

/-- The queue without the records whose green sets the table no longer permits. -/
def prunedQueue (t : PairTable) (queue : List StepRecord) : List StepRecord :=
  queue.filter (fun r => pairwiseCompatible t r.greenSet)

/-- The current position after a prune: on its own record if that survives, else on the first survivor that followed
it, else at the head (R27). -/
def prunedPosition (t : PairTable) (queue : List StepRecord) (p : Nat) : Nat :=
  let before := (prunedQueue t (queue.take p)).length
  if before < (prunedQueue t queue).length then before else 0

/-- Whether the record at the current position survives a prune. -/
def keepsPosition (t : PairTable) (queue : List StepRecord) (p : Nat) : Bool :=
  match queue[p]? with
  | some r => pairwiseCompatible t r.greenSet
  | none => false

/-- A current step whose record a prune removes: step, phase and transition none, step timer 0 (R27). -/
def dropCurrent (s : State) : State :=
  let stopped := stopExecution s
  { stopped with seq := { stopped.seq with force := s.seq.force } }

/-- The prune of stage 3 of a replacement (R27): the position follows, a removed current step ceases to be current
with its transition, and the pruned indicator and the STAGE flag are set when a record is removed. -/
def prune (s : State) : State :=
  let t := s.compat.inUse
  let queue := prunedQueue t s.seq.queue
  if queue.length = s.seq.queue.length then s
  else
    let s1 := if s.seq.current && !keepsPosition t s.seq.queue s.seq.position then dropCurrent s else s
    flag .stage
      { s1 with
        seq := { s1.seq with
          queue := queue
          position := prunedPosition t s.seq.queue s.seq.position
          pruned := true }
        arb := { s1.arb with interrupted := s1.arb.interrupted && !queue.isEmpty } }

end Sys2Proof.Machine
end

