-- ==== Sys2Proof/Machine/Preemption.lean ====
section
/-! DEFINITION. Machine/Preemption.lean: the shared operations of the Preemption Arbiter: request moves, the service
slot, entry with its truncation, track, dwell and exit, and the judgments of the service (R102 to R118). -/

namespace Sys2Proof.Machine

/-! ### Request states (R105, R113, R115, R116) -/

/-- The move that a preempt's request takes at once, if any: the rows of Figure 6-1 that wait for no tick, and the
PENDING-at-exit mark of R113. The delay timer of a DELAYING request whose enable is cleared becomes 0, as when its input
becomes inactive (R116; log entry 55, the model's choice). -/
def Preempt.move (p : Preempt) : Option Preempt :=
  match p.state with
  | .idle =>
    if p.cfg.enable && p.active then some { p with state := .delaying, delayTimer := p.cfg.delay } else none
  | .delaying =>
    if !p.cfg.enable || !p.active then some { p with state := .idle, delayTimer := 0 }
    else if p.delayTimer = 0 then some { p with state := .pending }
    else none
  | .pending =>
    if !p.cfg.enable || (!p.active && !p.cfg.locking) then some { p with state := .idle } else none
  | .exit =>
    if p.active && !p.pendingAtExit then some { p with pendingAtExit := true }
    else if !p.active && p.pendingAtExit && !p.cfg.locking then some { p with pendingAtExit := false }
    else none
  | .entry | .track | .dwell => none

/-- The lowest preempt whose request moves at once (R105). -/
def judgeRequests (s : State) : Option State :=
  match (List.finRange 4).find? (fun p => (s.pre p).move.isSome) with
  | none => none
  | some p =>
    match (s.pre p).move with
    | some r => some (s.setPre p r)
    | none => none

/-! ### The service slot (R106, R107) -/

/-- The PENDING request of highest priority, the lowest number among equals (R106). -/
def State.bestPending (s : State) : Option Pre :=
  (List.finRange 4).foldl (fun best p =>
    if (s.pre p).state = .pending then
      match best with
      | none => some p
      | some q => if (s.pre q).cfg.priority < (s.pre p).cfg.priority then some p else best
    else best) none

/-- The state a holder goes back to when it is put out of the slot: PENDING when its input is active or it is
locking, IDLE otherwise (R107, R114). -/
def Preempt.putOut (p : Preempt) : Preempt :=
  { p with
    state := if p.active || p.cfg.locking then .pending else .idle
    serviceTimer := 0
    stage := .none
    pendingAtExit := false }

/-- The first target of a preempt: the track set when TrackTime is above 0, else the dwell set (R108). -/
def Preempt.firstTarget (p : Preempt) : ChanSet :=
  if 0 < p.cfg.trackTime then p.cfg.trackSet else p.cfg.dwellSet

/-- The cut of R79: min(R, max(0, PreemptMinGreen − E)). -/
def cutInitial (minGreen : Nat) (g : Green) : Green := { g with initial := min g.initial (minGreen - g.elapsed) }

/-- The cut applied to each GREEN vehicle channel outside the target (R79, R80). -/
def cutGreens (minGreen : Nat) (target : ChanSet) (s : State) : State :=
  let m := s.greenOf .vehicle &&& ~~~ target
  { s with greens := vmap (fun c g => if has m c then cutInitial minGreen g else g) s.greens }

/-- Clearance cut orders to the pedestrian channels outside the target (R109). -/
def cutClearances (limit : Nat) (target : ChanSet) (s : State) : State :=
  (List.finRange 16).foldl (fun s c => if has target c then s else cutClearance limit c s) s

/-- The truncation of an entry (R109): vehicle greens cut, those at 0 terminated and the others owed their order;
walks ended; clearances cut when the ped-truncate flag is set. -/
def truncate (cfg : PreemptConfig) (target : ChanSet) (s : State) : State :=
  let s1 := cutGreens cfg.minGreen target s
  let outside := s1.greenOf .vehicle &&& ~~~ target
  let held := outside &&& ~~~ s1.runOut
  let s2 := terminateAll (outside &&& ~~~ held) s1
  let s3 := { s2 with seq := { s2.seq with owedEnds := held } }
  let s4 := terminateAll (s3.greenOf .pedestrian &&& ~~~ target) s3
  if cfg.pedTruncate then cutClearances cfg.pedClear target s4 else s4

/-- A preempt becomes the slot holder and enters ENTRY (R108). -/
def enterService (p : Pre) (s : State) : State :=
  let r := s.pre p
  let target := r.firstTarget
  let interrupted := s.arb.interrupted || s.seq.current
  let s1 := stopStep s
  let s2 := { s1 with arb := { s1.arb with holder := some p, interrupted := interrupted } }
  let s3 := truncate r.cfg target (beginTransition target .preempt s2)
  s3.setPre p
    { r with
      state := .entry
      serviceTimer := 0
      pendingAtExit := false
      stage := if s3.seq.owedEnds = 0 then .clearing else .minimum }

/-- Selection into a free slot, or a takeover by a strictly higher priority (R106, R107). -/
def judgeSlot (s : State) : Option State :=
  match s.bestPending with
  | none => none
  | some p =>
    match s.arb.holder with
    | none => some (enterService p s)
    | some h =>
      if (s.pre h).cfg.priority < (s.pre p).cfg.priority then some (enterService p (s.setPre h (s.pre h).putOut))
      else none

/-! ### Owed orders and the entry stage (R108, R109) -/

/-- The termination orders owed to greens whose cut initial green has run out (R109). -/
def judgeOwed (s : State) : Option State :=
  let due := s.seq.owedEnds &&& s.runOut
  if due = 0 then none else some (terminateAll due s)

/-- The entry stage becomes CLEARING when no green is held any more (R108). -/
def judgeStage (s : State) : Option State :=
  match s.arb.holder with
  | none => none
  | some h =>
    let r := s.pre h
    if r.state = .entry ∧ r.stage = .minimum ∧ s.seq.owedEnds = 0 then some (s.setPre h { r with stage := .clearing })
    else none

/-! ### Full green, track and dwell (R110, R111) -/

/-- The holder at the full green of its transition (R110, R111). -/
def Preempt.atFullGreen (p : Preempt) : Preempt :=
  match p.state with
  | .entry =>
    if 0 < p.cfg.trackTime then { p with state := .track, serviceTimer := p.cfg.trackTime, stage := .none }
    else { p with state := .dwell, serviceTimer := p.cfg.dwellMin, stage := .none }
  | .dwell => { p with serviceTimer := p.cfg.dwellMin }
  | .idle | .delaying | .pending | .track | .exit => p

/-- Full green of the running transition, told to its owner (R46). -/
def judgeFull (s : State) : Option State :=
  match s.seq.transition with
  | none => none
  | some t =>
    if s.atFullGreen t then
      match t.owner with
      | .step => some (stepFullGreen t s)
      | .preempt =>
        let s1 := { s with seq := { s.seq with transition := none } }
        match s.arb.holder with
        | some h => some (s1.setPre h (s1.pre h).atFullGreen)
        | none => some s1
    else none

/-- The track timer at 0: the preempt enters DWELL and a transition to the dwell set begins, every GREEN channel
outside it terminated at its start (R110). -/
def judgeTrack (s : State) : Option State :=
  match s.arb.holder with
  | none => none
  | some h =>
    let r := s.pre h
    if r.state = .track ∧ r.serviceTimer = 0 then
      let s1 := beginTransition r.cfg.dwellSet .preempt (s.setPre h { r with state := .dwell })
      some (terminateAll ((s.greenOf .vehicle ||| s.greenOf .pedestrian) &&& ~~~ r.cfg.dwellSet) s1)
    else none

/-- Whether a preempt other than the holder is PENDING. -/
def State.somePending (s : State) : Bool := (List.finRange 4).any (fun p => (s.pre p).state == .pending)

/-- The dwell end: the slot passes directly to a PENDING request, or the holder enters EXIT (R111). At a direct pass the
slot is free, for no time, between the two holders (log entry 43). -/
def judgeDwell (s : State) : Option State :=
  match s.arb.holder with
  | none => none
  | some h =>
    let r := s.pre h
    if r.state = .dwell ∧ s.seq.transition.isNone = true ∧ r.serviceTimer = 0 ∧ r.active = false then
      if s.somePending then
        let s1 := s.setPre h { r with state := .idle }
        some { s1 with arb := { s1.arb with holder := none } }
      else some (s.setPre h { r with state := .exit, pendingAtExit := false })
    else none

/-! ### Exit (R112, R113) -/

/-- The record that EXIT names, and whether the interrupted step is then removed as the outgoing step (R112). -/
def State.exitRecord (s : State) (kind : ExitKind) : Option (Nat × Bool) :=
  if s.arb.interrupted then
    match kind with
    | .resume => some (s.seq.position, false)
    | .next =>
      match s.eligible with
      | some i => some (i, true)
      | none => some (s.seq.position, false)
  else s.firstChoice.map (fun i => (i, false))

/-- The return handover of EXIT, or the rest in EXIT when no record is named (R112, R113). -/
def judgeExit (s : State) : Option State :=
  match s.arb.holder with
  | none => none
  | some h =>
    let r := s.pre h
    if r.state = .exit then
      match s.exitRecord r.cfg.exitKind with
      | none => none
      | some (i, drop) =>
        let s1 := s.setPre h
          { r with state := if r.pendingAtExit then .pending else .idle, pendingAtExit := false }
        some (makeCurrent i drop { s1 with arb := { s1.arb with holder := none, interrupted := false } })
    else none

/-! ### Unit modes (R114) -/

/-- Entry to CLEARING_TO_FLASH: the holder leaves the slot (R114). -/
def leaveService (s : State) : State :=
  let s1 :=
    match s.arb.holder with
    | some h => s.setPre h (s.pre h).putOut
    | none => s
  { s1 with arb := { s1.arb with holder := none, interrupted := false } }

/-- Entry to FAULT_FLASH, and a restart: every preempt IDLE and the slot free (R102, R114). -/
def stopPreempts (s : State) : State :=
  { s with
    pres := vmap (fun _ p =>
      { p with state := .idle, delayTimer := 0, serviceTimer := 0, stage := .none, pendingAtExit := false }) s.pres
    arb := { s.arb with holder := none, interrupted := false } }

/-! ### Configuration check (R28, R116) -/

/-- The consequences of a cleared enable: a request that waits returns to IDLE (R116). -/
def Preempt.disabled (p : Preempt) : Preempt :=
  { p with cfg := { p.cfg with enable := false } }

/-- Whether a replacement finds a configuration incompatible and takes its enable (R28). -/
def Preempt.losesEnable (t : PairTable) (p : Preempt) : Bool :=
  p.cfg.enable && !(pairwiseCompatible t p.cfg.trackSet && pairwiseCompatible t p.cfg.dwellSet)

/-- Stage 4 of a replacement: enables cleared, disabled mask marked, the PREEMPT flag set (R28). -/
def checkPreempts (s : State) : State :=
  let t := s.compat.inUse
  let lost := maskOf (fun p => (s.pre p).losesEnable t)
  if lost = 0 then s
  else
    flag .preempt
      { s with
        pres := vmap (fun p r => if has lost p then r.disabled else r) s.pres
        arb := { s.arb with disabled := s.arb.disabled ||| lost } }

end Sys2Proof.Machine
end

