-- ==== Sys2Proof/Machine/Monitor.lean ====
section
/-! DEFINITION. Machine/Monitor.lean: the Lamp and Conflict Monitor: the judgment of a sample with its four safety
checks and the lamp status, the red-fail tick, and the clearing of checks at a change of unit mode (R119 to R134). -/

namespace Sys2Proof.Machine

/-- One finding of a check: its cause and the channels it names, 0 for none (R131). -/
structure Finding where
  cause : FaultCause
  first : Nat
  second : Nat
  deriving DecidableEq, Repr

/-- The LAMP status check of a unit mode: full, SWITCH_ON only, or none (Table 7-3). -/
inductive LampCheck where
  | full | switchOnOnly | none
  deriving DecidableEq, Repr

/-- Table 7-3, last column. -/
def Mode.lampCheck : Mode → LampCheck
  | .entryRed | .controlled | .clearingToFlash | .localFlash => .full
  | .startFlash | .faultFlash => .switchOnOnly
  | .powerOut => .none

/-! ### Conflict (R122, R123) -/

/-- What a channel shows to the conflict check in one half-cycle (R122). -/
inductive Showing where
  | release | dimHeld | quiet
  deriving DecidableEq, Repr

/-- The lamp outputs relevant to the conflict check: green, and amber but on a pedestrian channel (R122). -/
def relevant (k : ChannelType) (c : Chan) : List (Fin 48) :=
  match k with
  | .pedestrian => [outputOf c 2]
  | .vehicle | .unused => [outputOf c 2, outputOf c 1]

/-- What a channel shows, from the sensed current and the drive report (R122). -/
def showing (s : State) (sense : LampSet) (report : Vector Drive 48) (c : Chan) : Showing :=
  let outputs := relevant (s.chan c).kind c
  if outputs.any (fun o => has sense o) then .release
  else if outputs.any (fun o => report.get o == .skipped) then .dimHeld
  else .quiet

/-- The move of a pair's conflict count (R122), stopping at 24 (R123). -/
def conflictMove : Showing → Showing → Nat → Nat
  | .release, .release, n => min Config.conflictLimit (n + 1)
  | .quiet, _, _ => 0
  | _, .quiet, _ => 0
  | .dimHeld, _, n => n
  | .release, .dimHeld, n => n

/-- The 120 channel pairs in the order of Table 2-2, each with its index. -/
def allPairs : List (Chan × Chan) :=
  (List.finRange 16).flatMap (fun i => ((List.finRange 16).filter (fun j => i.val < j.val)).map (fun j => (i, j)))

/-- The channels of the pair at each index. -/
def pairTable : Vector (Chan × Chan) 120 := ⟨allPairs.toArray, by decide +kernel⟩

/-- The conflict counts after one judged half-cycle: pairs that the in-use table marks incompatible move, the others
keep their count (R122). -/
def conflictCounts (s : State) (sense : LampSet) (report : Vector Drive 48) : Vector Nat 120 :=
  let shown : Vector Showing 16 := Vector.ofFn (fun c => showing s sense report c)
  vmap (fun n count =>
    let pair := pairTable.get n
    if compatible s.compat.inUse pair.1 pair.2 then count
    else conflictMove (shown.get pair.1) (shown.get pair.2) count) s.mon.conflicts

/-- The conflict findings: pairs whose count has reached 24, lower channels first (R123, R132). -/
def conflictFindings (old counts : Vector Nat 120) : List Finding :=
  ((List.finRange 120).filter
      (fun n => Config.conflictLimit ≤ counts.get n && old.get n < Config.conflictLimit)).map
    (fun n =>
      { cause := .conflict, first := number (pairTable.get n).1, second := number (pairTable.get n).2 })

/-! ### Flash-green, red judgment, short clearance (R124, R125, R127, R128) -/

/-- The red judgment of a half-cycle, if one is made (R125). -/
def redJudgment (sense : LampSet) (report : Vector Drive 48) (c : Chan) : RedJudgment :=
  let outputs := [outputOf c 0, outputOf c 1, outputOf c 2]
  if outputs.any (fun o => has sense o) then .lit
  else if outputs.any (fun o => report.get o == .conduct) then .dark
  else .none

/-- Whether the red-fail check watches a channel: used, with its red monitor enable on (R125). -/
def Channel.redWatched (c : Channel) : Bool := c.used && c.redMonitor

/-- The red judgment stored, LIT setting the timer to 0 (R125). -/
def ChannelWatch.judgeRed (j : RedJudgment) (w : ChannelWatch) : ChannelWatch :=
  match j with
  | .none => w
  | .lit => { w with lastRed := .lit, redTimer := 0 }
  | .dark => { w with lastRed := .dark }

/-- The sensed colour classes of R127. -/
inductive Colour where
  | green | amber | red | none
  deriving DecidableEq, Repr

/-- The sensed colour of a channel (R127). -/
def sensedColour (sense : LampSet) (c : Chan) : Colour :=
  if has sense (outputOf c 2) then .green
  else if has sense (outputOf c 1) then .amber
  else if has sense (outputOf c 0) then .red
  else .none

/-- The minimum amber in half-cycles (R128). -/
def minimumAmber (sixty : Bool) : Nat := if sixty then 324 else 270

/-- The clearance state after a half-cycle, and whether it faults (Figure 7-1, R128). -/
def ChannelWatch.judgeClearance (minimum : Nat) (k : Colour) (w : ChannelWatch) : ChannelWatch × Bool :=
  match k, w.clearance with
  | .none, _ => (w, false)
  | .green, _ => ({ w with clearance := .greenSeen, amberCount := 0 }, false)
  | .amber, .greenSeen => ({ w with clearance := .amberRun, amberCount := 1 }, false)
  | .amber, .amberRun => ({ w with amberCount := min 65535 (w.amberCount + 1) }, false)
  | .amber, .idle => (w, false)
  | .red, .greenSeen => ({ w with clearance := .idle, amberCount := 0 }, true)
  | .red, .amberRun => ({ w with clearance := .idle, amberCount := 0 }, w.amberCount < minimum)
  | .red, .idle => (w, false)

/-- The flash-green count after a half-cycle in LOCAL_FLASH (R124). -/
def ChannelWatch.judgeFlashGreen (lit : Bool) (w : ChannelWatch) : ChannelWatch :=
  { w with flashGreen := if lit then min Config.conflictLimit (w.flashGreen + 1) else 0 }

/-- Whether the working frequency is 60 Hz (R151). -/
def Timebase.sixty (t : Timebase) : Bool :=
  match t.nominal with
  | .hz50 => false
  | .hz60 => true
  | .auto => t.decided == some .hz60

/-- One channel's watch after a judged half-cycle, in the checks of the unit mode (R121). -/
def judgeChannel (s : State) (sense : LampSet) (report : Vector Drive 48) (c : Chan) (w : ChannelWatch) :
    ChannelWatch × List Finding :=
  let ch := s.chan c
  if s.unit.mode.isControl then
    let w1 := if ch.redWatched then w.judgeRed (redJudgment sense report c) else w
    if ch.kind = .vehicle then
      let r := w1.judgeClearance (minimumAmber s.time.sixty) (sensedColour sense c)
      (r.1, if r.2 then [{ cause := .clearance, first := number c, second := 0 }] else [])
    else (w1, [])
  else if s.unit.mode = .localFlash then
    let w1 := w.judgeFlashGreen (has sense (outputOf c 2))
    (w1, if w.flashGreen < Config.conflictLimit ∧ w1.flashGreen = Config.conflictLimit then
        [{ cause := .flashGreen, first := number c, second := 0 }] else [])
  else (w, [])

/-! ### Lamp status (R129) -/

/-- The kinds of evidence that move the runs: driven or not, lit or not (Table 7-2). -/
def driven (d : Drive) : Bool := d == .conduct

/-- An output at a change of status: every run becomes 0 (R129). -/
def changedTo (k : LampStatus) : LampWatch := { LampWatch.reset with status := k }

/-- The lamp status of an output after one judged half-cycle (R129). -/
def LampWatch.judge (check : LampCheck) (d : Drive) (lit : Bool) (w : LampWatch) : LampWatch :=
  match check, w.status with
  | .none, _ => w
  | .full, .ok =>
    if driven d then
      if lit then { w with outRun := 0 }
      else if w.outRun + 1 < Config.lampRun then { w with outRun := w.outRun + 1 } else changedTo .lampOut
    else
      if lit then
        if w.onRun + 1 < Config.lampRun then { w with onRun := w.onRun + 1 } else changedTo .switchOn
      else { w with onRun := 0 }
  | .switchOnOnly, .ok =>
    if driven d then w
    else
      if lit then
        if w.onRun + 1 < Config.lampRun then { w with onRun := w.onRun + 1 } else changedTo .switchOn
      else { w with onRun := 0 }
  | .full, .lampOut =>
    if driven d then
      if lit then
        if w.clearRun + 1 < Config.lampRun then { w with clearRun := w.clearRun + 1 } else changedTo .ok
      else { w with clearRun := 0 }
    else w
  | .switchOnOnly, .lampOut => w
  | .full, .switchOn | .switchOnOnly, .switchOn =>
    if driven d then w
    else
      if lit then { w with clearRun := 0 }
      else if w.clearRun + 1 < Config.lampRun then { w with clearRun := w.clearRun + 1 } else changedTo .ok

/-! ### The judgment of one sample (R120, R132) -/

/-- The Monitor after one judged half-cycle, with its findings in the order of R132. -/
def judgeSample (s : State) (sense : LampSet) (report : Vector Drive 48) : State × List Finding :=
  let counts := if s.unit.mode.isControl then conflictCounts s sense report else s.mon.conflicts
  let judged : Vector (ChannelWatch × List Finding) 16 :=
    vmap (fun c w => judgeChannel s sense report c w) s.mon.channels
  let lamps : Vector LampWatch 48 :=
    vmap (fun o w => w.judge s.unit.mode.lampCheck (report.get o) (has sense o)) s.mon.lamps
  let changed : LampSet := maskOf (fun o => (lamps.get o).status != (s.mon.lamps.get o).status)
  let findings := conflictFindings s.mon.conflicts counts ++ judged.toList.flatMap (·.2)
  (flagIf (changed != 0) .lamp
    { s with
      mon := { s.mon with
        conflicts := counts
        channels := vmap (fun _ p => p.1) judged
        lamps := lamps
        changed := s.mon.changed ||| changed
        awaiting := none
        beside := none } }, findings)

/-- The findings of a sample that comes together with a Compatibility notice taken before it: those of the checks as the
notice found them (R132). -/
def besideFindings (s : State) (sense : LampSet) (report : Vector Drive 48) : List Finding :=
  match s.mon.beside with
  | none => []
  | some b =>
    (judgeSample { s with
      unit := { s.unit with mode := b.mode }
      mon := { s.mon with conflicts := b.conflicts, channels := b.channels } } sense report).2

/-! ### The red-fail tick (R126) -/

/-- One channel's red-fail timer at a tenth tick (R126). -/
def ChannelWatch.redTick (supply : Supply) (w : ChannelWatch) : ChannelWatch :=
  match supply with
  | .sag | .dropout | .unknown => { w with redTimer := 0, lastRed := .none }
  | .normal | .high => if w.lastRed = .dark then { w with redTimer := w.redTimer + 1 } else w

/-- Whether a red-fail timer has just reached the red fail time (R126); one that a SET START finds at or above the lowered
time reaches it at its next rise (log entry 49). -/
def redFails (limit : Nat) (old new : ChannelWatch) : Bool := old.redTimer < new.redTimer && limit ≤ new.redTimer

/-- The tenth tick of the Monitor, with the channels that fail (R126). -/
def tickMonitor (s : State) : State × ChanSet :=
  if s.unit.mode.isControl then
    let watches : Vector ChannelWatch 16 :=
      vmap (fun c w => if (s.chan c).redWatched then w.redTick s.time.category else w) s.mon.channels
    ({ s with mon := { s.mon with channels := watches } },
     maskOf (fun c => redFails s.mon.redFailTime (s.mon.channels.get c) (watches.get c)))
  else (s, 0)

/-- The RED_FAIL findings of a tick, the lowest channel first (R132). -/
def redFindings (m : ChanSet) : List Finding :=
  ((List.finRange 16).filter (fun c => has m c)).map
    (fun c => { cause := .redFail, first := number c, second := 0 })

/-! ### The fault record (R131, R132) -/

/-- The record after one finding: written when empty, else only the additional-fault flag set (R131); the FAULT flag
is set at each writing and at each setting that finds the additional-fault flag clear. -/
def recordFinding (s : State) (f : Finding) : State :=
  match s.mon.record with
  | none =>
    flag .fault
      { s with
        mon := { s.mon with
          record := some
            { cause := f.cause, first := f.first, second := f.second, tenth := s.time.tenth, mode := s.unit.mode,
              additional := false } } }
  | some r =>
    if r.additional then s
    else flag .fault { s with mon := { s.mon with record := some { r with additional := true } } }

/-- The findings of one event taken on the record in order (R132). -/
def recordFindings (fs : List Finding) (s : State) : State := fs.foldl recordFinding s

/-! ### Changes of unit mode and the outage (R121, R134) -/

/-- The per-channel checks that do not run in a mode, cleared (R121). -/
def ChannelWatch.atMode (m : Mode) (w : ChannelWatch) : ChannelWatch :=
  let w1 := if m = .localFlash then w else { w with flashGreen := 0 }
  if m.isControl then w1
  else { w1 with redTimer := 0, lastRed := .none, clearance := .idle, amberCount := 0 }

/-- The runs that do not move in a mode, cleared (R121, R134). -/
def LampWatch.atMode (m : Mode) (w : LampWatch) : LampWatch :=
  match m.lampCheck with
  | .full => w
  | .switchOnOnly => { w with outRun := 0, clearRun := if w.status = .lampOut then 0 else w.clearRun }
  | .none => { w with outRun := 0, onRun := 0, clearRun := 0 }

/-- The Monitor at an entry into a unit mode (R121, R134). -/
def Monitor.atMode (mode : Mode) (m : Monitor) : Monitor :=
  { m with
    conflicts := if mode.isControl then m.conflicts else Vector.replicate 120 0
    channels := vmap (fun _ w => w.atMode mode) m.channels
    lamps := vmap (fun _ w => w.atMode mode) m.lamps
    found := none
    beside := none }

/-- The Monitor at a restart: every item of Table 7-1 marked cleared (R119). -/
def Monitor.restarted (m : Monitor) : Monitor :=
  { m with
    conflicts := Vector.replicate 120 0
    channels := Vector.replicate 16 ChannelWatch.reset
    lamps := vmap (fun _ w => { LampWatch.reset with status := w.status }) m.lamps }

end Sys2Proof.Machine
end

