-- ==== Sys2Proof/Machine/Modes.lean ====
section
/-! DEFINITION. Machine/Modes.lean: the shared operations of the Unit Mode Machine: every entry into a unit mode with
what it does in the other blocks, the fault notice, and the two ends of an outage that need them (R135 to R150). -/

namespace Sys2Proof.Machine

/-- The sign chain told of a change of unit mode (R175). -/
def signsAtMode (s : State) : State := { s with signs := { s.signs with pendingExchange := true } }

/-- SCK, SDO and SLAT low (R171). -/
def Signs.linesLow (g : Signs) : Signs := { g with sck := false, sdo := false, slat := false }

/-- An exchange in progress abandoned: SCK, SDO and SLAT low, the received words discarded (R177, R178), which leaves the
buffer empty (log entry 52). -/
def abandonExchange (s : State) : State :=
  if s.signs.shifting then { s with signs := { s.signs.linesLow with shifting := false, buffer := [] } } else s

/-- What every change of unit mode does besides its forced indications: the mode and FTR, the copy of the timing
sets, the monitor checks, the sign chain and the tone lines (R136, R137, R3, R121, R175, R166). The indications of
the new mode stand already when it is made. -/
def changeMode (m : Mode) (s : State) : State :=
  let s1 := if m.copiesTiming then copyTimings s else s
  let s2 := { s1 with unit := { s1.unit with mode := m, ftr := m.relay }, mon := s1.mon.atMode m }
  tonesAtMode s (signsAtMode s2)

/-- The locking calls of channels that a forced change took out of GREEN (R91). -/
def handForced (old s : State) : State := handLocking (old.greenMask &&& ~~~ s.greenMask) s

/-- The flash cause set. -/
def setCause (k : FlashCause) (s : State) : State := { s with unit := { s.unit with cause := k } }

/-- An accepted ENTER CONTROL: the entry into ENTRY_RED (R140). -/
def enterEntryRed (s : State) : State :=
  let s1 := forceAll .red .red (setCause .none s)
  changeMode .entryRed { s1 with unit := { s1.unit with entryRedTimer := s1.unit.entryRedTime } }

/-- The end of ENTRY_RED (R141); who gets the channels is judged at the same moment. -/
def enterControlled (s : State) : State := changeMode .controlled s

/-- Entry to CLEARING_TO_FLASH (R143, R58, R114). -/
def enterClearing (k : FlashCause) (s : State) : State :=
  changeMode .clearingToFlash (setCause k (leaveService (stopExecution s)))

/-- Entry to LOCAL_FLASH: vehicle channels FLASH, the others DARK (R10, R142, R143). -/
def enterLocalFlash (s : State) : State := changeMode .localFlash (forceAll .flash .dark s)

/-- The held indications dropped (R20). -/
def dropHeld (s : State) : State := { s with chans := vmap (fun _ ch => { ch with held := none }) s.chans }

/-- Entry to FAULT_FLASH (R145), the waiting half-cycle left unjudged (R120). -/
def enterFaultFlash (s : State) : State :=
  let s1 := leaveUnjudged (drivesOff (dropHeld (forceAll .dark .dark s)))
  let s2 := stopPreempts (stopAtHead (idleGreens (setCause .none s1)))
  handForced s (changeMode .faultFlash s2)

/-- Findings or a notice given to the Unit Mode Machine: the record is written and, outside POWER_OUT and
FAULT_FLASH, the unit enters FAULT_FLASH (R131, R132, R145). -/
def faultNotice (fs : List Finding) (s : State) : State :=
  if fs.isEmpty then s
  else
    let s1 := recordFindings fs s
    if s1.unit.mode = .powerOut ∨ s1.unit.mode = .faultFlash then s1 else enterFaultFlash s1

/-- A notice of the Monitor's findings; its moment is held while it takes the unit out of a control mode (R132). -/
def monitorNotice (fs : List Finding) (s : State) : State :=
  let t := faultNotice fs s
  if !fs.isEmpty && s.unit.mode.isControl then { t with mon := { t.mon with found := some s.time.clock } } else t

/-- Every used channel's call latch set and ActCount 0 at a restart (R61, R62). -/
def restartGreens (s : State) : State :=
  { s with greens := vmap (fun c _ => { Green.reset with latch := (s.chan c).used }) s.greens }

/-- A restart: START_FLASH with the configuration kept (R149). A half-cycle whose sample has not been taken stays to be
judged: R120 leaves one unjudged at hardware reset, FAULT_FLASH and POWER_OUT only. -/
def restart (s : State) : State :=
  let s1 := drivesOff (dropHeld (forceAll .dark .dark s))
  let s2 := stopPreempts (stopAtHead (restartGreens s1))
  let s3 := { s2 with
    seq := { s2.seq with hold := false }
    compat := { s2.compat with owed := none }
    mon := s2.mon.restarted
    unit := { s2.unit with
      cause := .none
      remembered := none
      startFlashTimer := s2.unit.startFlashTime
      entryRedTimer := 0
      outageTimer := 0
      owedLinkLoss := false } }
  changeMode .startFlash s3

/-- Entry to POWER_OUT: the mode remembered, the drives low, used channels keeping their indication as held, every
block frozen (R147, R20, R134, R178). -/
def enterPowerOut (s : State) : State :=
  let s1 := { s with
    chans := vmap (fun _ ch =>
      { ch with ind := .dark, held := if ch.used then some ch.ind else none }) s.chans
    unit := { s.unit with remembered := some s.unit.mode, outageTimer := 0 } }
  changeMode .powerOut (abandonExchange (leaveUnjudged (drivesOff s1)))

/-- The held indications become indications again, their patterns staged (R20). -/
def restoreHeld (s : State) : State :=
  { s with
    chans := vmap (fun _ ch =>
      let i := ch.held.getD .dark
      { ch with ind := i, held := none, staged := patternOf ch i }) s.chans }

/-- The remembered mode and the owed link loss dropped at the end of an outage (R144, R148). -/
def endOutage (s : State) : State := { s with unit := { s.unit with remembered := none, owedLinkLoss := false } }

/-- What the Unit Mode Machine does on the resumed mode, in the order of R148: an owed Compatibility notice, the
manual switch, an owed link loss. -/
def actOnResume (owedLoss : Bool) (s : State) : State :=
  let m := s.unit.mode
  match (if m.isControl then s.compat.owed else none) with
  | some k =>
    faultNotice [{ cause := k, first := 0, second := 0 }] { s with compat := { s.compat with owed := none } }
  | none =>
    if (m = .entryRed ∨ m = .controlled) ∧ s.unit.switchLevel = true then enterClearing .manual s
    else if (m = .entryRed ∨ m = .controlled) ∧ owedLoss = true then enterClearing .linkLost s
    else s

/-- A short outage resume into the remembered mode (R148). The Unit Mode Machine's acts are taken before the judgments that
the other blocks make at the resume, which are those of the settling that follows (R59, R81, R106, R115; log entry 58, the
model's choice). -/
def shortResume (m : Mode) (s : State) : State :=
  endOutage (actOnResume s.unit.owedLinkLoss (changeMode m (restoreHeld s)))

/-- An outage that ends in FAULT_FLASH: the entry made again, the owed notice dropped (R148, R29). -/
def outageToFault (s : State) : State :=
  endOutage (enterFaultFlash { s with compat := { s.compat with owed := none } })

/-- The end of an outage, by the remembered mode, the outage timer and the limit (R148). -/
def leavePowerOut (s : State) : State :=
  match s.unit.remembered with
  | none => outageToFault s
  | some m =>
    if m = .faultFlash then outageToFault s
    else if s.unit.outageTimer ≤ s.unit.shortOutage then shortResume m s
    else restart s

/-- A link loss notice (R144). -/
def linkLoss (s : State) : State :=
  if s.unit.mode = .entryRed ∨ s.unit.mode = .controlled then enterClearing .linkLost s
  else if s.unit.mode = .powerOut ∧ (s.unit.remembered = some .entryRed ∨ s.unit.remembered = some .controlled) then
    { s with unit := { s.unit with owedLinkLoss := true } }
  else s

/-- An on-edge of the manual flash switch (R139). -/
def switchOn (s : State) : State :=
  if s.unit.mode = .entryRed ∨ s.unit.mode = .controlled then enterClearing .manual s else s

/-- Whether every used channel is RED (R143). -/
def State.allRed (s : State) : Bool := (List.finRange 16).all (fun c => !(s.chan c).used || (s.chan c).ind == .red)

/-- In CLEARING_TO_FLASH: greens that have run out are ended; when every used channel is RED the unit enters
LOCAL_FLASH (R58, R143). -/
def judgeClearing (s : State) : Option State :=
  if s.runOut ≠ 0 then some (terminateAll s.runOut s)
  else if s.allRed then some (enterLocalFlash s)
  else none

/-! ### Judgments at one moment -/

/-- The first judgment that holds at this moment, with what it does: reduction clocks and requests in every mode; in
CONTROLLED the slot, owed orders, start moments, full green, track, dwell, exit, termination and first selection;
in CLEARING_TO_FLASH the ends of R58 and R143 (log entry 6). -/
def judge (s : State) : Option State :=
  (judgeClocks s).or ((judgeRequests s).or
    (match s.unit.mode with
     | .controlled =>
       (judgeSlot s).or ((judgeOwed s).or ((judgeStage s).or ((judgeStart s).or ((judgeFull s).or
         ((judgeTrack s).or ((judgeDwell s).or ((judgeExit s).or ((judgeTermination s).or (judgeFirst s)))))))))
     | .clearingToFlash => judgeClearing s
     | .startFlash | .entryRed | .localFlash | .faultFlash | .powerOut => none))

/-- The judgments of one moment taken until none holds, each noting the reports it changes. -/
def settleUpTo : Nat → State → State
  | 0, s => s
  | n + 1, s =>
    match judge s with
    | none => s
    | some t => settleUpTo n (noting s t)

/-- Everything that follows at the same moment from a change of `old` to `new`. -/
def settle (old new : State) : State := settleUpTo Config.settleFuel (noting old new)

end Sys2Proof.Machine
end

