-- ==== Sys2Proof/Machine/Detectors.lean ====
section
/-! DEFINITION. Machine/Detectors.lean: the shared operations of the Detector Block: conditioning, edges by mode, the
direction of a pair, delay and fault timers, windows, faults, and the conditioning of the preemption inputs and the
manual flash switch (R83 to R101, R104, R139). -/

namespace Sys2Proof.Machine

/-! ### Conditioning (R84) -/

/-- One sample of a conditioned input: the new run, and whether the level changes (at the `limit`-th differing
sample in a row). -/
def condition (limit : Nat) (level : Bool) (run : Nat) (sample : Bool) : Nat × Bool :=
  if sample = level then (0, false) else if run + 1 < limit then (run + 1, false) else (0, true)

/-! ### Fault transitions (R98, R99) -/

/-- A detector marked in the changed mask, with the DETECTOR flag (R98). -/
def markChanged (d : Det) (s : State) : State :=
  flag .detector { s with detMasks := { s.detMasks with changed := insertBit s.detMasks.changed d } }

/-- A change of a detector's fault state, marked and flagged. Its live calls, occupancy and fault recalls follow, as
they are read from the record (R98). -/
def setFault (d : Det) (k : DetectorFault) (s : State) : State :=
  if (s.det d).fault = k then s else markChanged d (s.setDet d { s.det d with fault := k })

/-- The locking calls handed for call conditions that began between `old` and `new`, channels GREEN or UNUSED not
taking them (R91). -/
def handBegun (old new : State) : State :=
  requestLatches (detUnion (fun d => if (new.det d).locking then new.callConds d &&& ~~~ old.callConds d else 0)) new

/-! ### Edges (R85 to R89, R93, R95 to R97) -/

/-- A detector's own activity at an on-edge, in every mode but OFF: a NO_ACTIVITY fault cleared, the volume count,
the presence and absence timers, and the window count with its CHATTER (R93, R95, R96, R97). -/
def ownOnEdge (d : Det) (s : State) : State :=
  let s1 := if (s.det d).fault = .noActivity then setFault d .ok s else s
  let r := s1.det d
  let window := min 255 (r.window + 1)
  let s2 := s1.setDet d { r with volume := r.volume + 1, presence := 0, absence := 0, window := window }
  if r.chatterLimit ≤ window ∧ r.fault = .ok then setFault d .chatter s2 else s2

/-- A detector's own activity at an off-edge: the presence timer, and a STUCK_ON fault cleared (R95). -/
def ownOffEdge (d : Det) (s : State) : State :=
  let s1 := s.setDet d { s.det d with presence := 0 }
  if (s1.det d).fault = .stuckOn then setFault d .ok s1 else s1

/-- A filtered level changed, with its run at 0 (R84), and every on-edge handed to the Tone Unit (R84, R169). -/
def turnLevel (d : Det) (s : State) : State :=
  let r := s.det d
  let s1 := s.setDet d { r with level := !r.level, run := 0 }
  if r.level then s1 else confirmRequest d s1

/-- A level change with the detector's own activity, its delay timer started or stopped (R90). -/
def ownEdge (d : Det) (s : State) : State :=
  let s1 := turnLevel d s
  let r := s1.det d
  match r.mode with
  | .off => s1
  | .presence =>
    let s2 := s1.setDet d { r with delayTimer := 0 }
    if r.level then ownOnEdge d s2 else ownOffEdge d s2
  | .pulse | .pair => if r.level then ownOnEdge d s1 else ownOffEdge d s1

/-- What an on-edge gives in PRESENCE and PULSE: an actuation, and in PULSE its locking calls (R86, R87, R92). -/
def singleActuation (d : Det) (s : State) : State :=
  let r := s.det d
  if r.level && !r.faulted then
    match r.mode with
    | .presence => actuate r.extendMask s
    | .pulse => actuate r.extendMask (requestLatches r.callMask s)
    | .off | .pair => s
  else s

/-- The move of a pair's direction state at one scan tick (Figure 5-1): `leadOn` and `lagOn` say whether the member
has an on-edge, `bothOff` whether both levels are off after it. -/
def directionMove (k : Direction) (leadOn lagOn bothOff : Bool) : Direction :=
  match k with
  | .clear =>
    if leadOn && lagOn then .unresolved else if leadOn then .leadOn else if lagOn then .lagOn else .clear
  | .leadOn => if lagOn then .forward else if bothOff then .clear else .leadOn
  | .lagOn => if leadOn then .reverse else if bothOff then .clear else .lagOn
  | .forward => if bothOff then .clear else .forward
  | .reverse => if bothOff then .clear else .reverse
  | .unresolved => if bothOff then .clear else .unresolved

/-- A reverse movement completed: the count, and the wrong-way mark when the alarm is on (R89). -/
def countReverse (d : Det) (s : State) : State :=
  let r := s.det d
  let s1 := s.setDet d { r with reverse := r.reverse + 1 }
  if r.wrongWay then
    flag .detector { s1 with detMasks := { s1.detMasks with wrongWay := insertBit s1.detMasks.wrongWay d } }
  else s1

/-- The pair of a lead after the level changes of one scan tick: its delay timer, direction, movement and counts
(R88, R89, R90). -/
def pairEdges (d : Det) (wasOccupied leadOn lagOn : Bool) (s : State) : State :=
  let r := s.det d
  let occupied := r.level || (s.det (partner d)).level
  let next := directionMove r.direction leadOn lagOn (!occupied)
  let s1 := s.setDet d
    { r with direction := next, delayTimer := if occupied && wasOccupied then r.delayTimer else 0 }
  match r.direction, next with
  | .leadOn, .forward => if s1.detFaulted d then s1 else actuate r.extendMask s1
  | .forward, .clear => s1.setDet d { s1.det d with forward := r.forward + 1 }
  | .reverse, .clear => countReverse d s1
  | _, _ => s1

/-- The level changes of one scan tick on the two detectors of a lead, as `changed` names them (R84, R88). Each member's
own activity comes before the pair's direction, so an off-edge that clears STUCK_ON does so before the other member's
on-edge establishes FORWARD, and the actuation is handed (log entry 39). -/
def pairLevels (d : Det) (changed : DetSet) (s : State) : State :=
  let lag := partner d
  let c1 := has changed d
  let c2 := has changed lag
  if c1 || c2 then
    let was := (s.det d).level || (s.det lag).level
    let s1 := if c1 then ownEdge d s else s
    let s2 := if c2 then ownEdge lag s1 else s1
    let s3 :=
      if (s.det d).mode = .pair then
        pairEdges d was (c1 && (s2.det d).level) (c2 && (s2.det lag).level) s2
      else
        let s' := if c1 then singleActuation d s2 else s2
        if c2 then singleActuation lag s' else s'
    handBegun s s3
  else s

/-- The level changes of one scan tick on every detector, pair by pair. -/
def detectorLevels (changed : DetSet) (s : State) : State :=
  (List.finRange 24).foldl (fun s d => if isLead d then pairLevels d changed s else s) s

/-- The detector part of a scan tick: runs moved, and the changed levels taken (R84). -/
def scanDetectors (inputs : BitVec 24) (s : State) : State :=
  let changed : DetSet :=
    maskOf (fun d => (condition Config.scanSamples (s.det d).level (s.det d).run (has inputs d)).2)
  let s1 := { s with
    dets := vmap (fun d r => { r with run := (condition Config.scanSamples r.level r.run (has inputs d)).1 }) s.dets }
  detectorLevels changed s1

/-! ### The tenth tick (R90, R93, R95, R96, R97) -/

/-- A record's timers and counts at a tenth tick; `occupied` is the occupancy that its delay timer measures. -/
def Detector.tick (occupied : Bool) (r : Detector) : Detector :=
  if r.mode = .off then r
  else
    { r with
      delayTimer := if occupied then min 255 (r.delayTimer + 1) else r.delayTimer
      presence := if r.level then min Config.presenceTop (r.presence + 1) else r.presence
      absence := if r.level then r.absence else min Config.presenceTop (r.absence + 1)
      occupancy := if r.level then r.occupancy + 1 else r.occupancy }

/-- The fault that the timers of a record give at a tenth tick (R95, R96). -/
def Detector.timedFault (r : Detector) : Option DetectorFault :=
  if r.mode = .off ∨ r.fault ≠ .ok then none
  else if r.level = true ∧ r.maxPresence ≠ 0 ∧ r.maxPresence * Config.minute < r.presence then some .stuckOn
  else if r.level = false ∧ r.maxAbsence ≠ 0 ∧ r.maxAbsence * Config.minute < r.absence then some .noActivity
  else none

/-- The faults of the timers taken on one detector. -/
def takeTimedFault (s : State) (d : Det) : State :=
  match (s.det d).timedFault with
  | some k => setFault d k s
  | none => s

/-- The end of a chatter window on one detector (R97). -/
def endWindow (s : State) (d : Det) : State :=
  let r := s.det d
  if r.mode = .off then s
  else if r.fault = .chatter then
    let clean := if r.window < r.chatterLimit then r.cleanRun + 1 else 0
    if clean = Config.cleanWindows then setFault d .ok (s.setDet d { r with window := 0, cleanRun := 0 })
    else s.setDet d { r with window := 0, cleanRun := clean }
  else s.setDet d { r with window := 0 }

/-- The end of a chatter window on every detector (R97). -/
def endWindows (s : State) : State := (List.finRange 24).foldl endWindow s

/-- The tenth tick of the Detector Block; a window ends when the tenth counter has reached a multiple of 10. The faults of
the timers are judged before the window ends, so a detector that its window clears of CHATTER takes a timed fault at the
next tick (log entry 38). -/
def tickDetectors (s : State) : State :=
  let s1 := { s with dets := vmap (fun d r => r.tick (s.detOccupied d)) s.dets }
  let s2 := (List.finRange 24).foldl takeTimedFault s1
  handBegun s (if s2.time.tenth.toNat % 10 = 0 then endWindows s2 else s2)

/-! ### Preemption inputs (R104) -/

/-- A preemption input's filtered level changed: its presence timer, and at an off-edge its stuck flag (R104). -/
def Preempt.turn (p : Preempt) : Preempt :=
  { p with level := !p.level, run := 0, presence := 0, stuck := if p.level then false else p.stuck }

/-- The preemption part of a scan tick (R104). -/
def scanPreempts (inputs : BitVec 4) (s : State) : State :=
  { s with
    pres := vmap (fun i p =>
      let r := condition Config.scanSamples p.level p.run (has inputs i)
      if r.2 then p.turn else { p with run := r.1 }) s.pres }

/-- A preempt at a tenth tick: presence timer, stuck flag, delay timer outside POWER_OUT, service timer in
CONTROLLED (R104, R105, R110, R111, R115). A presence above the limit sets the stuck flag at this tick whether the tick or
a SET PREEMPT brought it there (log entry 40). -/
def Preempt.tick (mode : Mode) (p : Preempt) : Preempt :=
  let presence := if p.level then min Config.presenceTop (p.presence + 1) else p.presence
  { p with
    presence := presence
    stuck := p.stuck || (p.level && p.cfg.maxPresence * Config.minute < presence)
    delayTimer := if p.state = .delaying ∧ mode ≠ .powerOut then p.delayTimer - 1 else p.delayTimer
    serviceTimer := if mode = .controlled then p.serviceTimer - 1 else p.serviceTimer }

/-- The tenth tick of the Arbiter. -/
def tickPreempts (s : State) : State := { s with pres := vmap (fun _ p => p.tick s.unit.mode) s.pres }

/-! ### The manual flash switch (R139) -/

/-- The switch level changed, an on-edge acting by the unit mode (R139). -/
def turnSwitch (s : State) : State :=
  let on := !s.unit.switchLevel
  let s1 := { s with unit := { s.unit with switchLevel := on, switchRun := 0 } }
  if on then switchOn s1 else s1

/-- The switch part of a scan tick (R139). -/
def scanSwitch (sample : Bool) (s : State) : State :=
  let r := condition Config.switchSamples s.unit.switchLevel s.unit.switchRun sample
  if r.2 then turnSwitch s else { s with unit := { s.unit with switchRun := r.1 } }

end Sys2Proof.Machine
end

