-- ==== Sys2Proof/Machine/Compatibility.lean ====
section
/-! DEFINITION. Machine/Compatibility.lean: the shared operations of the Compatibility Unit: the start and the
completion of a plug read, confirmation, the replacement of the in-use table, its notices, and the match (R21 to
R33). -/

namespace Sys2Proof.Machine

/-- A plug read starts at the tenth tick just given (R22). -/
def startRead (s : State) : State :=
  { s with compat := { s.compat with reading := some 0, readStart := s.time.lastTenth } }

/-- The moment of the latest read's n-th PCK period: period 0 is that of PLD, and the n-th rising edge of PCK begins
period n (R22). -/
def Compat.plugPeriodAt (c : Compat) (moment : Nat) : Nat := (moment - c.readStart) / Config.plugPeriod

/-- The level of PLD at a moment of the latest read: raised for one PCK period at its start (R22). -/
def Compat.pldAt (c : Compat) (moment : Nat) : Bool := c.plugPeriodAt moment == 0

/-- The level of PCK at a moment of the latest read, before or after the falling edge that each period has within it: 128
rising edges at 20 kHz, low before them and after the last (R22; log entry 14). -/
def Compat.pckAt (c : Compat) (moment : Nat) (fallen : Bool) : Bool :=
  1 ≤ c.plugPeriodAt moment && c.plugPeriodAt moment ≤ Config.plugCells && !fallen

/-- The cells taken so far at a moment of the read in progress, none when idle: each cell is sampled just before its rising
edge, and the read completes with cell 128 (R22, Table 2-1; log entry 12). -/
def Compat.cellsAt (c : Compat) (moment : Nat) : Option Nat :=
  c.reading.map (fun n => min (Config.plugCells - 1) (n + c.plugPeriodAt moment))

/-- A completed read classed by its card code (R23). -/
def classRead (cells : BitVec 128) : PlugRead :=
  { coded := cells.extractLsb' 120 8 == Config.cardCode, pairs := cells.extractLsb' 0 120 }

/-- Two reads agree: both BAD_CODE, or both CODED with equal pair cells (R24). -/
def agree (a b : PlugRead) : Bool := (!a.coded && !b.coded) || (a.coded && b.coded && a.pairs == b.pairs)

/-- The match flag recomputed; a change sets the STATUS flag (R31). -/
def recomputeMatch (s : State) : State :=
  let m := s.compat.hostCopy == some s.compat.inUse
  flagIf (m != s.compat.isMatch) .status { s with compat := { s.compat with isMatch := m } }

/-- The plug status stored; a change sets the STATUS flag (R24). -/
def setPlugStatus (k : PlugStatus) (s : State) : State :=
  flagIf (k != s.compat.status) .status { s with compat := { s.compat with status := k } }

/-- Whether the sample of the half-cycle that waits is due at the present moment (R120). -/
def State.sampleNow (s : State) : Bool :=
  s.mon.awaiting.isSome && s.time.lastCrossing + Config.monitorDelay == s.time.clock

/-- After a notice taken at the very moment of a sample: the half-cycle stays to be judged, by the checks as the notice
found them, so that a finding sets the additional-fault flag (R132; log entry 35). -/
def keepSample (old s : State) : State :=
  if old.sampleNow then
    { s with
      mon := { s.mon with
        awaiting := old.mon.awaiting
        beside := some
          { mode := old.unit.mode, conflicts := old.mon.conflicts, channels := old.mon.channels } } }
  else s

/-- A notice event of the unit: given at once in a control mode, or in a FAULT_FLASH that findings of the same moment made
of one (R132); owed in an outage that remembers one; dropped in every other mode (R29). -/
def plugNotice (k : FaultCause) (s : State) : State :=
  let notice : List Finding := [{ cause := k, first := 0, second := 0 }]
  if s.unit.mode.isControl then keepSample s (faultNotice notice s)
  else if s.unit.mode = .faultFlash ∧ s.mon.found = some s.time.clock then faultNotice notice s
  else if s.unit.mode = .powerOut ∧ s.standingMode.isControl = true then
    { s with compat := { s.compat with owed := s.compat.owed.or (some k) } }
  else s

/-- The conflict counts cleared at a replacement (R123). -/
def clearConflicts (s : State) : State := { s with mon := { s.mon with conflicts := Vector.replicate 120 0 } }

/-- The replacement of the in-use table in its five stages (R26). -/
def replaceTable (t : PairTable) (s : State) : State :=
  let s1 := recomputeMatch { s with compat := { s.compat with inUse := t } }
  plugNotice .plugChanged (checkPreempts (prune (clearConflicts s1)))

/-- A confirmed VALID content: a content that differs replaces the table (R26). -/
def applyContent (t : PairTable) (s : State) : State := if t = s.compat.inUse then s else replaceTable t s

/-- Two reads in a row agree: the state they confirm (R24). -/
def confirmRead (r : PlugRead) (s : State) : State :=
  let s1 := { s with compat := { s.compat with disagreements := 0 } }
  if r.coded then applyContent r.pairs (setPlugStatus .valid s1)
  else
    let s2 := setPlugStatus .absent s1
    if s.compat.status = .absent then s2 else plugNotice .plug s2

/-- Two reads in a row disagree: the count, and UNSTABLE at the fifth (R24, R25). -/
def disagreeRead (s : State) : State :=
  let n := s.compat.disagreements
  if Config.disagreementLimit ≤ n then s
  else
    let s1 := { s with compat := { s.compat with disagreements := n + 1 } }
    if n + 1 = Config.disagreementLimit then plugNotice .plug (setPlugStatus .unstable s1) else s1

/-- The completion of a read (R24). -/
def completeRead (cells : BitVec 128) (s : State) : State :=
  let r := classRead cells
  let s1 := { s with compat := { s.compat with reading := none, previous := some r } }
  match s.compat.previous with
  | none => s1
  | some old => if agree r old then confirmRead r s1 else disagreeRead s1

/-- Sixteen rows of masks as a table of the pairs, read above the diagonal (R32). -/
def tableOfRows (rows : Vector ChanSet 16) : PairTable :=
  maskOf (fun n => has (rows.get (pairTable.get n).1) (pairTable.get n).2)

/-- The rows are symmetric: the bit of j in row i equals the bit of i in row j (R32). -/
def symmetric (rows : Vector ChanSet 16) : Bool :=
  (List.finRange 16).all (fun i => (List.finRange 16).all (fun j => has (rows.get i) j == has (rows.get j) i))

/-- The in-use table as sixteen rows with the diagonal clear (R33). -/
def rowsOfTable (t : PairTable) : Vector ChanSet 16 :=
  Vector.ofFn (fun i => maskOf (fun j => i != j && compatible t i j))

end Sys2Proof.Machine
end

