-- ==== Sys2Proof/Machine/Timebase.lean ====
section
/-! DEFINITION. Machine/Timebase.lean: the shared operations of the Timebase and Supply Monitor: the tenth tick and
what it drives in every block, the mains lock, crossing events, the supply window and its category (R151 to R162). -/

namespace Sys2Proof.Machine

/-! ### Frequencies (Table 9-2) -/

/-- The working frequency (R151). -/
def Timebase.working (t : Timebase) : Freq := if t.sixty then .hz60 else .hz50

/-- Table 9-2, by frequency, in microseconds. -/
def Freq.half : Freq → Nat
  | .hz50 => 10000
  | .hz60 => 8333
def Freq.bandLow : Freq → Nat
  | .hz50 => 9800
  | .hz60 => 8166
def Freq.bandHigh : Freq → Nat
  | .hz50 => 10200
  | .hz60 => 8500
def Freq.missing : Freq → Nat
  | .hz50 => 15000
  | .hz60 => 12500
def Freq.blanking : Freq → Nat
  | .hz50 => 2500
  | .hz60 => 2083
def Freq.sampleDelay : Freq → Nat
  | .hz50 => 5000
  | .hz60 => 4167
def Freq.perTenth : Freq → Nat
  | .hz50 => 10
  | .hz60 => 12

/-- A period inside the good band of a frequency (R153). -/
def Freq.good (f : Freq) (period : Nat) : Bool := f.bandLow ≤ period && period ≤ f.bandHigh

/-- The time shown by the crystal moved on to a moment. -/
def Timebase.seen (t : Timebase) (moment : Nat) : Timebase := { t with clock := max t.clock moment }

/-! ### The tenth tick -/

/-- The tenth counter raised, and the plug read that starts at a multiple of 10 (R152, R22). -/
def tickCounter (s : State) : State :=
  let s1 := { s with time := { s.time with tenth := s.time.tenth + 1 } }
  if s1.time.tenth.toNat % 10 = 0 then startRead s1 else s1

/-- The FIXED step timer in CONTROLLED (R49). -/
def tickStep (s : State) : State :=
  if s.unit.mode = .controlled then { s with seq := { s.seq with stepTimer := s.seq.stepTimer - 1 } } else s

/-- The timers of the Unit Mode Machine (R138, R141, R147). -/
def UnitState.tick (u : UnitState) : UnitState :=
  match u.mode with
  | .startFlash => { u with startFlashTimer := u.startFlashTimer - 1 }
  | .entryRed => { u with entryRedTimer := u.entryRedTimer - 1 }
  | .powerOut => { u with outageTimer := min 65535 (u.outageTimer + 1) }
  | .controlled | .clearingToFlash | .localFlash | .faultFlash => u

/-- The sign period timer (R175). -/
def Signs.tick (g : Signs) : Signs :=
  if 1 < g.timer then { g with timer := g.timer - 1 } else { g with timer := g.period, pendingExchange := true }

/-- The sign chain at a tenth tick: with modules, outside POWER_OUT (R175, R178). -/
def tickSigns (s : State) : State :=
  if 0 < s.signs.count ∧ s.unit.mode ≠ .powerOut then { s with signs := s.signs.tick } else s

/-- The status timer at a tenth tick (R186). -/
def tickStatus (s : State) : State :=
  if s.link.statusPeriod = 0 then s
  else if 1 < s.link.statusTimer then { s with link := { s.link with statusTimer := s.link.statusTimer - 1 } }
  else flag .status { s with link := { s.link with statusTimer := s.link.statusPeriod * 10 } }

/-- An expiry of the supervision timer as the port takes it: link LOST, with the STATUS flag when it was OK (R187). -/
def loseLink (s : State) : State :=
  let s1 := { s with link := { s.link with supervision := 0, lost := true } }
  flagIf (!s.link.lost) .status s1

/-- The supervision timer at a tenth tick, its notice not yet given (R187). -/
def tickSupervision (s : State) : State :=
  if s.link.supervision = 1 then loseLink s
  else { s with link := { s.link with supervision := s.link.supervision - 1 } }

/-- Every timer of the part driven by one tenth tick, as the state before the tick has them, with the channels that
fail the red-fail check (log entry 5). -/
def driveTick (s : State) : State × ChanSet :=
  let m := tickMonitor (tickPreempts (tickDetectors (tickGreens (tickStep (tickChannels (tickCounter s))))))
  (tickSupervision (tickStatus (tickSigns { m.1 with unit := m.1.unit.tick })), m.2)

/-- The end of ENTRY_RED, when its timer reached 0 at this tick and the mode still stands (R141). -/
def takeEntryRedEnd (due : Bool) (s : State) : State :=
  if due && s.unit.mode == .entryRed then settle s (enterControlled s) else s

/-- One tenth tick in every block: timers driven, then the red-fail findings, the expiring intervals with all that
follows, the end of ENTRY_RED and the link loss notice (R4, R69, R126, R141, R187; the order is log entry 5). -/
def tenthTick (s : State) : State :=
  let driven := driveTick s
  let s1 := settle s (expireAll s.expiring (monitorNotice (redFindings driven.2) driven.1))
  let s2 := takeEntryRedEnd (s.unit.mode == .entryRed && s.unit.entryRedTimer == 1) s1
  if s.link.supervision = 1 then settle s2 (linkLoss s2) else s2

/-- A tenth tick given at a moment (R152, R157). -/
def tenthAt (moment : Nat) (s : State) : State :=
  tenthTick { s with time := { s.time.seen moment with lastTenth := moment } }

/-! ### The mains lock (R155 to R157) -/

/-- The lock lost to ACQUIRING with count 0; a change of state sets the SUPPLY flag (Figure 9-1). -/
def dropLock (s : State) : State :=
  let t := { s.time with lock := .acquiring, goodCount := 0, mainsPaced := false, tenthGiven := false }
  flagIf (s.time.lock != .acquiring) .supply { s with time := t }

/-- The tenth tick that a fallback gives at its own moment, when 100 ms have passed since the last one (R157). -/
def fallbackTick (wasLocked : Bool) (moment : Nat) (s : State) : State :=
  if wasLocked && s.time.lastTenth + Config.tenthMicros ≤ moment then tenthAt moment s else s

/-- A missing crossing or a bad period for the lock machine: FREE stays FREE (Figure 9-1). -/
def missLock (s : State) : State := if s.time.lock = .free then s else dropLock s

/-- A good period for the lock machine (R155). -/
def goodLock (undecided : Bool) (s : State) : State :=
  match s.time.lock with
  | .free | .locked => s
  | .acquiring =>
    if s.time.category = .dropout ∨ undecided = true then s
    else if s.time.goodCount + 1 < Config.lockCount then
      { s with time := { s.time with goodCount := s.time.goodCount + 1 } }
    else
      flag .supply
        { s with time := { s.time with goodCount := Config.lockCount, lock := .locked, mainsPaced := false, tenthGiven := false } }

/-- The AUTO decision at a measured period (R156). A decided run leaves no candidate (log entry 50). -/
def decide1 (period : Nat) (s : State) : State :=
  let candidate :=
    if Freq.good .hz50 period then some Freq.hz50 else if Freq.good .hz60 period then some Freq.hz60 else none
  match candidate with
  | none => { s with time := { s.time with decisionRun := 0, candidate := none } }
  | some f =>
    let run := if s.time.candidate = some f then s.time.decisionRun + 1 else 1
    if run < Config.decideCount then { s with time := { s.time with decisionRun := run, candidate := some f } }
    else flag .supply { s with time := { s.time with decided := some f, decisionRun := 0, candidate := none } }

/-- AUTO and not decided (R156). -/
def Timebase.undecided (t : Timebase) : Bool := t.nominal == .auto && t.decided == none

/-- The lock machine and the AUTO decision at a real crossing event (R155, R156): the period, when one is measured,
is judged at the working frequency as it stands at the crossing. -/
def lockAtCrossing (period : Option Nat) (s : State) : State :=
  let undecided := s.time.undecided
  if s.time.lock = .free then dropLock s
  else
    match period with
    | none => s
    | some p =>
      let s1 := if s.time.working.good p then goodLock undecided s else missLock s
      if undecided then decide1 p s1 else s1

/-- The mains tenth count at a real crossing event, and whether the crossing ends it (R157). -/
def mainsCount (s : State) : State × Bool :=
  if s.time.lock = .locked ∧ s.time.mainsPaced = true then
    if s.time.mainsCount + 1 < s.time.working.perTenth then
      ({ s with time := { s.time with mainsCount := s.time.mainsCount + 1 } }, false)
    else ({ s with time := { s.time with mainsCount := 0 } }, true)
  else (s, false)

/-- Whether an edge on ZXI at a moment is a crossing event: not blanked (R153). -/
def Timebase.takes (t : Timebase) (moment : Nat) : Bool :=
  t.synthetic ||
    (match t.lastReal with
     | none => true
     | some m => m + t.working.blanking ≤ moment)

/-- The period a real crossing event measures (R153). -/
def Timebase.period (t : Timebase) (moment : Nat) : Option Nat :=
  if t.synthetic then none else t.lastReal.map (fun m => moment - m)

/-- The end of a mains tenth count at a moment: its tenth tick, unless the row MAINS_TENTH has given it already (R157). -/
def endCount (moment : Nat) (s : State) : State :=
  if s.time.tenthGiven then { s with time := { s.time with tenthGiven := false, lastTenth := moment } }
  else tenthAt moment s

/-- A real crossing event at a moment (R153). Tick and crossing at one moment may be taken in either order: the crossing
event is taken first here, before the mains tenth that it gives, and before the fallback's crystal tenth when it ends a bad
period 100 ms or more after the last tenth tick (R157; log entry 7, the model's choice). -/
def realCrossing (moment : Nat) (s : State) : State :=
  let wasLocked := s.time.lock == .locked
  let s1 := lockAtCrossing (s.time.period moment) s
  let s2 := { s1 with
    time := { s1.time.seen moment with lastReal := some moment, lastCrossing := moment, synthetic := false } }
  let counted := mainsCount (crossing s2)
  if counted.2 then endCount moment counted.1
  else fallbackTick (wasLocked && counted.1.time.lock != .locked) moment counted.1

/-- The moment at which the next synthetic crossing event is due (R154): the limit or the spacing of the working frequency
after the last crossing event, also where a SET TIMEBASE has shortened it below the time already passed, so that the moment
lies before the clock (R160; log entry 56, the model's choice). -/
def Timebase.syntheticDue (t : Timebase) : Nat :=
  t.lastCrossing + (if t.synthetic then t.working.half else t.working.missing)

/-- A synthetic crossing event; the first of a run is a missing crossing for the lock machine and the AUTO decision
(R154, R155, R156). Where that loses the lock 100 ms or more after the last tenth tick, the crossing event is taken before
the tenth tick that the fallback gives at the same moment (R157; log entry 7, the model's choice). -/
def syntheticCrossing (s : State) : State :=
  let moment := s.time.syntheticDue
  let wasLocked := s.time.lock == .locked
  let s1 :=
    if s.time.synthetic then s
    else
      let m := missLock s
      if s.time.undecided then { m with time := { m.time with decisionRun := 0, candidate := none } } else m
  let s2 := crossing { s1 with
    time := { s1.time.seen moment with lastCrossing := moment, synthetic := true } }
  fallbackTick (wasLocked && s2.time.lock != .locked) moment s2

/-- A crystal tenth: not given while the mains paces the tenths; the one that follows the entry into LOCKED makes the
switchover (R152, R157). -/
def crystalTenth (s : State) : State :=
  if s.time.lock = .locked ∧ s.time.mainsPaced = true then s
  else
    let s1 :=
      if s.time.lock = .locked then { s with time := { s.time with mainsPaced := true, mainsCount := 0 } } else s
    tenthAt (s.time.lastTenth + Config.tenthMicros) s1

/-! ### The supply category (R158, R159) -/

/-- Table 9-3: the new category from the held one, the reading and the thresholds. -/
def nextCategory (t : Timebase) (r : Nat) : Supply :=
  if t.high < r then .high
  else
    match t.category with
    | .unknown | .normal => if r < t.dropout then .dropout else if r < t.sag then .sag else .normal
    | .dropout =>
      if r < t.dropout + Config.hysteresis then .dropout
      else if r < t.sag + Config.hysteresis then .sag else .normal
    | .sag =>
      if r < t.dropout then .dropout else if r < t.sag + Config.hysteresis then .sag else .normal
    | .high =>
      if r < t.dropout then .dropout else if r < t.sag then .sag
      else if t.high - Config.hysteresis ≤ r then .high else .normal

/-- A change of supply category: the SUPPLY flag, the outage's two ends, and the lock held in ACQUIRING on DROPOUT
(R159, R147, R148, R155). A DROPOUT that ends LOCKED enters POWER_OUT before the tenth tick that the fallback gives at the
same moment (log entry 45). -/
def changeCategory (k : Supply) (s : State) : State :=
  let s1 := flag .supply { s with time := { s.time with category := k } }
  if k = .dropout then
    let s2 := enterPowerOut (missLock s1)
    fallbackTick (s.time.lock == .locked) s.time.clock (settle s s2)
  else if s.unit.mode = .powerOut then settle s (leavePowerOut s1)
  else settle s s1

/-- The completion of a window: the reading, the category, the window emptied (R158). -/
def completeWindow (sum : Nat) (s : State) : State :=
  let r := sum / Config.windowSamples
  let k := nextCategory s.time r
  let s1 := { s with time := { s.time with windowCount := 0, windowSum := 0, reading := r } }
  if k = s.time.category then s1 else changeCategory k s1

/-- A scheduled sample of MSENSE taken into the supply window (R158). -/
def takeSample (reading : Nat) (s : State) : State :=
  let s1 := { s with time := { s.time with sampleDue := false } }
  let sum := s.time.windowSum + reading
  if s.time.windowCount + 1 < Config.windowSamples then
    { s1 with time := { s1.time with windowCount := s.time.windowCount + 1, windowSum := sum } }
  else completeWindow sum s1

end Sys2Proof.Machine
end

