-- ==== Sys2Proof/Machine/Signs.lean ====
section
/-! DEFINITION. Machine/Signs.lean: the shared operations of the Sign Chain Port: command words, the start of an
exchange, its lines in each bit time and its end, the check of the modules, and a change of the chain (R171 to R179, Table 13-9). -/

namespace Sys2Proof.Machine

/-! ### Words of the chain (Table 13-9) -/

/-- The blank command word: message 0, flash off, brightness 0 (R173). -/
def blankWord : Word := 0x8000#16

/-- A command word that is not blank: flash bit 14, brightness bits 13-12, message bits 5-0. -/
def showWord (flash : Bool) (brightness : BitVec 2) (message : BitVec 6) : Word :=
  (if flash then 0x4000#16 else 0#16) ||| (brightness.setWidth 16 <<< 12) ||| message.setWidth 16

/-- Whether a command word is blank. -/
def isBlank (w : Word) : Bool := w.getLsbD 15

/-- The message of a command word, the shown message of a status word. -/
def messageOf (w : Word) : BitVec 6 := w.extractLsb' 0 6

/-- The presence pattern of a status word: bits 15 to 13 are 1, 0, 1. -/
def isStatus (w : Word) : Bool := w.extractLsb' 13 3 == 0b101#3

/-- A status word as a status table entry. -/
def statusOf (w : Word) : SignStatus := { shown := messageOf w, displayFault := w.getLsbD 12 }

/-! ### The start of an exchange (R173 to R175) -/

/-- The brightness of an entry: night while the dim state is on, day while it is off (R173). -/
def SignEntry.brightness (e : SignEntry) (dimOn : Bool) : BitVec 2 := if dimOn then e.nightBright else e.dayBright

/-- The command word of an entry in the unit mode, the indications and the dim state as they stand (R173). -/
def commandWord (s : State) (e : SignEntry) : Word :=
  if s.unit.mode = .startFlash ∨ s.unit.mode = .faultFlash ∨ s.unit.mode = .powerOut ∨ e.display = false then blankWord
  else
    match e.source with
    | none => showWord e.flash (e.brightness s.lamps.dimOn) e.message
    | some c =>
      showWord false (e.brightness s.lamps.dimOn)
        (if s.unit.mode.isControl = true ∧ (s.chan c).ind = .green then e.messageGreen else e.messageOther)

/-- The modules 1 to N of the chain. -/
def Signs.chain (g : Signs) : List (Fin 8) := (List.finRange 8).filter (fun k => k.val < g.count)

/-- The buffer at the load: the marker, then the words of modules N, N - 1, …, 1 (R174). -/
def loadedBuffer (s : State) : List Word :=
  Config.signMarker :: s.signs.chain.reverse.map (fun k => commandWord s (s.signs.modules.get k).entry)

/-- Whether an exchange starts: pending, IDLE, N above 0, not in POWER_OUT (R175). -/
def State.exchangeDue (s : State) : Bool :=
  s.signs.pendingExchange && !s.signs.shifting && 0 < s.signs.count && s.unit.mode != .powerOut

/-- An exchange starts: the flag cleared, the buffer loaded, the state SHIFTING; SDO presents the first bit of the
marker, which is low (R174, R175). -/
def startExchange (s : State) : State :=
  { s with signs := { s.signs.linesLow with pendingExchange := false, shifting := true, buffer := loadedBuffer s } }

/-! ### The check of the chain (R174) -/

/-- The word received at a position of the buffer. -/
def receivedAt (received : Vector Word 9) (p : Nat) : Word := received.toList.getD p 0

/-- The chain is whole: the marker at position N and a presence pattern at every position before it (R174). -/
def whole (n : Nat) (received : Vector Word 9) : Bool :=
  receivedAt received n == Config.signMarker && (List.range n).all (fun p => isStatus (receivedAt received p))

/-! ### The lines during an exchange (R174)

Times are whole bit times of 20 µs counted from the start of the exchange, so that bit time 0 is the first SCK period. -/

/-- What a bit time of an exchange is spent on: a bit of the word at a position, the most significant being bit 0; the gap
after the word at a position; or the time after the shift. -/
inductive ShiftSlot where
  | bit (position index : Nat)
  | gap (position : Nat)
  | after
  deriving DecidableEq, Repr

/-- The bit times of the shift: 16 for each of the N + 1 words and G between two words (R174). -/
def Signs.shiftTime (g : Signs) : Nat := Config.wordBits * (g.count + 1) + g.gap * g.count

/-- The bit times of an exchange: the shift, and one more for SLAT when the chain is whole (R174). -/
def Signs.exchangeTime (received : Vector Word 9) (g : Signs) : Nat :=
  g.shiftTime + (if whole g.count received then 1 else 0)

/-- What a bit time of an exchange is spent on (R174). -/
def Signs.slot (g : Signs) (time : Nat) : ShiftSlot :=
  let span := Config.wordBits + g.gap
  if g.shiftTime ≤ time then .after
  else if time % span < Config.wordBits then .bit (time / span) (time % span)
  else .gap (time / span)

/-- A bit of the word at a position of the buffer, the most significant being bit 0. -/
def Signs.bufferBit (g : Signs) (position index : Nat) : Bool :=
  (g.buffer.getD position 0).getLsbD (Config.wordBits - 1 - index)

/-- The level of SCK in a bit time, before or after the rising edge that an SCK period has within it; the period ends with
the falling edge. Low in a gap, after the shift and outside an exchange (R174, R171; log entry 14). -/
def Signs.sckAt (g : Signs) (time : Nat) (risen : Bool) : Bool :=
  if g.shifting then
    match g.slot time with
    | .bit _ _ => risen
    | .gap _ | .after => false
  else g.sck

/-- The level of SDO in a bit time: each word most significant bit first. It changes at falling edges only, so a gap shows
the first bit of the word that follows it; after the last falling edge its level is free (R174; log entry 14). -/
def Signs.sdoAt (g : Signs) (time : Nat) : Bool :=
  if g.shifting then
    match g.slot time with
    | .bit p i => g.bufferBit p i
    | .gap p => g.bufferBit (p + 1) 0
    | .after => Config.sdoAfter g.transfers
  else g.sdo

/-- The level of SLAT in a bit time of an exchange that receives these words: raised for the one bit time after the shift
when the chain is whole (R174). -/
def Signs.slatAt (received : Vector Word 9) (g : Signs) (time : Nat) : Bool :=
  if g.shifting then whole g.count received && time == g.shiftTime else g.slat

/-- The bits sampled from SDI before a bit time: one at each rising edge (R174). -/
def Signs.sampledBefore (g : Signs) (time : Nat) : Nat :=
  match g.slot time with
  | .bit p i => Config.wordBits * p + i
  | .gap p => Config.wordBits * (p + 1)
  | .after => Config.wordBits * (g.count + 1)

/-- A word whose first bits, from the most significant, are replaced in place by those received (R174). -/
def replaceBits (bits : Nat) (received sent : Word) : Word :=
  let rest := BitVec.allOnes 16 >>> bits
  (received &&& ~~~ rest) ||| (sent &&& rest)

/-- The buffer in an exchange at the beginning of a bit time (R174). -/
def Signs.bufferAt (received : Vector Word 9) (g : Signs) (time : Nat) : List Word :=
  (List.range (g.count + 1)).map (fun p =>
    replaceBits (g.sampledBefore time - Config.wordBits * p) (receivedAt received p) (g.buffer.getD p 0))

/-! ### The end of an exchange (R174, R176) -/

/-- The display fault of a module's status entry, no when it is none. -/
def SignModule.faulty (m : SignModule) : Bool := (m.status.map (·.displayFault)).getD false

/-- The comparison of a shown message with the latched command (R176). -/
def SignModule.compare (shown : BitVec 6) (m : SignModule) : SignModule :=
  match m.latched with
  | none => { m with mismatchRun := 0 }
  | some w =>
    if isBlank w then { m with mismatchRun := 0 }
    else if shown = messageOf w then { m with mismatchRun := 0, mismatch := false }
    else
      let run := min 3 (m.mismatchRun + 1)
      { m with mismatchRun := run, mismatch := m.mismatch || run == 3 }

/-- A module at the end of a completed exchange: its status stored and compared, the word sent then latched. -/
def SignModule.complete (sent received : Word) (m : SignModule) : SignModule :=
  { m.compare (messageOf received) with status := some (statusOf received), latched := some sent }

/-- The modules after a completed exchange: module k stands at position N - k of the words received and at position
N + 1 - k of the words sent (R174, R176). -/
def completedModules (g : Signs) (received : Vector Word 9) : Vector SignModule 8 :=
  vmap (fun k m =>
    if k.val < g.count then
      m.complete (g.buffer.getD (g.count - k.val) 0) (receivedAt received (g.count - 1 - k.val))
    else m) g.modules

/-- What the SIGN report's flag follows: the chain error flag and each module's display fault and mismatch flag
(R176). -/
def Signs.key (g : Signs) : Bool × List (Bool × Bool) :=
  (g.chainError, (List.finRange 8).map (fun k => ((g.modules.get k).faulty, (g.modules.get k).mismatch)))

/-- The end of an exchange that is SHIFTING (R174, R176): SCK and SLAT are low after it, and the level that SDO is left at
is a free value (log entry 14). The words received stand at positions 0 to N of the buffer after a completed exchange, and
are discarded after a failed one, which leaves the buffer empty (log entry 52). -/
def endExchange (received : Vector Word 9) (s : State) : State :=
  let g := { s.signs with
    shifting := false, sck := false, slat := false
    sdo := Config.sdoAfter s.signs.transfers, transfers := s.signs.transfers + 1 }
  let g2 : Signs :=
    if whole s.signs.count received then
      { g with
        chainError := false
        buffer := received.toList.take (s.signs.count + 1)
        modules := completedModules s.signs received }
    else { g with chainError := true, buffer := [] }
  flagIf (g2.key != s.signs.key) .sign { s with signs := g2 }

/-! ### A change of the chain (R177) -/

/-- A gap that SET SIGN CHAIN takes (R177). -/
def isGap (g : Nat) : Bool := g == 0 || g == 1 || g == 2 || g == 4 || g == 8 || g == 16 || g == 32 || g == 64

/-- A module at a change of the chain: no latched command, run 0, and above the new count no status and no mismatch
(R177). -/
def SignModule.rechained (kept : Bool) (m : SignModule) : SignModule :=
  { m with
    latched := none
    mismatchRun := 0
    status := if kept then m.status else none
    mismatch := kept && m.mismatch }

/-- A changed configuration of the chain taken at once (R177); with no module left the three outputs stay low (R171). -/
def changeChain (count period gap : Nat) (s : State) : State :=
  let modules := vmap (fun k m => m.rechained (k.val < count)) s.signs.modules
  let chainError := s.signs.chainError && 0 < count
  let cleared :=
    (s.signs.chainError && !chainError) ||
      (List.finRange 8).any (fun k => (s.signs.modules.get k).mismatch && !(modules.get k).mismatch)
  let s1 := abandonExchange s
  flagIf cleared .sign
    { s1 with
      signs := { (if count = 0 then s1.signs.linesLow else s1.signs) with
        count := count, period := period, gap := gap, timer := period, modules := modules
        pendingExchange := 0 < count, chainError := chainError } }

/-! ### Bytes (Table 13-4, Table 13-8) -/

/-- The module flags: bit 0 latched command present, 1 status present, 2 display fault, 3 mismatch flag, bits 5-4
mismatch run. -/
def SignModule.flags (m : SignModule) : Byte :=
  flagByte m.latched.isSome ||| (flagByte m.status.isSome <<< 1) ||| (flagByte m.faulty <<< 2) |||
    (flagByte m.mismatch <<< 3) ||| (u8 m.mismatchRun <<< 4)

/-- The shown message of a module, 0 when it has no status (log entry 59). -/
def SignModule.shownByte (m : SignModule) : Byte :=
  match m.status with
  | none => 0
  | some t => t.shown.setWidth 8

/-- A module entry of READ SIGNS. -/
def SignModule.entryBytes (m : SignModule) : List Byte :=
  wordBytes (m.latched.getD 0) ++ [m.shownByte, m.flags]

/-- The sign source byte: 0 HOST, 1 to 16 CHANNEL c. -/
def sourceCode : Option Chan → Byte
  | none => 0
  | some c => u8 (number c)

/-- A stored sign entry as the eight bytes of SET SIGN. -/
def SignEntry.bytes (k : Fin 8) (e : SignEntry) : List Byte :=
  [u8 (number k), sourceCode e.source, flagByte e.display ||| (flagByte e.flash <<< 1), e.message.setWidth 8,
   e.messageGreen.setWidth 8, e.messageOther.setWidth 8, e.dayBright.setWidth 8, e.nightBright.setWidth 8]

end Sys2Proof.Machine
end

