-- ==== Sys2Proof/Machine/Reports.lean ====
section
/-! DEFINITION. Machine/Reports.lean: the contents of the nine reports and what the taking of each clears (Table 13-8,
R60, R99, R118, R130, R131, R137, R162, R176, R185, R186). -/

namespace Sys2Proof.Machine

/-- The status content of Table 13-5. -/
def State.statusBytes (s : State) : List Byte :=
  [s.unit.mode.code] ++ reportMaskBytes s.link.flags ++ reportMaskBytes s.link.enable ++
    [flagByte s.link.lost, s.link.lastError.code] ++ wordBytes s.link.errors ++ u32 s.time.tenth.toNat ++
    [s.time.lock.code, s.time.category.code, s.compat.status.code, flagByte s.compat.isMatch,
     flagByte s.mon.record.isSome]

/-- The MODE report (R137). -/
def State.modeBytes (s : State) : List Byte :=
  [s.unit.mode.code, s.unit.cause.code, rememberedCode s.unit.remembered, flagByte s.unit.switchLevel] ++
    u16 s.unit.outageTimer

/-- The serial of the interrupted step, 0 when it is none (R117, R118). -/
def State.interruptedSerial (s : State) : Nat :=
  if s.arb.interrupted then (s.record.map (·.serial)).getD 0 else 0

/-- The PREEMPT report (R118). -/
def State.preemptBytes (s : State) : List Byte :=
  (List.finRange 4).flatMap (fun p =>
      [preemptCode (s.pre p), flagByte (s.pre p).cfg.enable ||| (flagByte (s.pre p).stuck <<< 1)]) ++
    [holderCode s.arb.holder] ++ u16 s.interruptedSerial ++ [s.arb.disabled.setWidth 8]

/-- The queue flags: bit 0 hold, 1 force, 2 service, 3 pruned. -/
def State.queueFlags (s : State) (pruned : Bool) : Byte :=
  flagByte s.seq.hold ||| (flagByte s.seq.force <<< 1) ||| (flagByte s.inService <<< 2) ||| (flagByte pruned <<< 3)

/-- The STAGE report (R60). -/
def State.stageBytes (s : State) : List Byte :=
  [s.unit.mode.code] ++ u16 s.currentSerial ++ [s.seq.phase.code] ++ wordBytes s.currentSet ++
    [s.seq.mode.code, u8 s.seq.queue.length, u8 s.positionIndex] ++ u16 s.eligibleSerial ++
    [s.queueFlags s.seq.pruned]

/-- The lamp status pack (Table 13-2). -/
def Monitor.statusPack (m : Monitor) : List Byte :=
  packCodes ((List.finRange 48).map (fun o => (m.lamps.get o).status.code))

/-- The LAMP report (R130). -/
def State.lampBytes (s : State) : List Byte := s.mon.statusPack ++ lampSetBytes s.mon.changed

/-- The DETECTOR report (R99). -/
def State.detectorBytes (s : State) : List Byte :=
  packCodes ((List.finRange 24).map (fun d => (s.det d).fault.code)) ++ detSetBytes s.detMasks.changed ++
    detSetBytes s.detMasks.wrongWay

/-- The SUPPLY report (R162). -/
def State.supplyBytes (s : State) : List Byte :=
  [s.time.category.code, u8 s.time.reading, s.time.lock.code, s.time.nominal.code, decidedCode s.time.decided]

/-- The SIGN report (R176). -/
def State.signBytes (s : State) : List Byte :=
  [u8 s.signs.count, flagByte s.signs.chainError] ++
    s.signs.chain.flatMap (fun k => [(s.signs.modules.get k).shownByte, (s.signs.modules.get k).flags])

/-- The fields of a report as they stand (Table 13-8). -/
def reportBytes (s : State) : Report → List Byte
  | .mode => s.modeBytes
  | .fault => faultRecordBytes s.mon.record
  | .preempt => s.preemptBytes
  | .stage => s.stageBytes
  | .lamp => s.lampBytes
  | .detector => s.detectorBytes
  | .supply => s.supplyBytes
  | .sign => s.signBytes
  | .status => s.statusBytes

/-- The masks and indicators that the taking of a report clears (R60, R99, R118, R130). -/
def takenFrom (r : Report) (s : State) : State :=
  match r with
  | .preempt => { s with arb := { s.arb with disabled := 0 } }
  | .stage => { s with seq := { s.seq with pruned := false } }
  | .lamp => { s with mon := { s.mon with changed := 0 } }
  | .detector => { s with detMasks := { changed := 0, wrongWay := 0 } }
  | .mode | .fault | .supply | .sign | .status => s

/-- The first report kind in the order of R185 whose flag is set and whose enable is on. -/
def Link.nextReport (l : Link) : Option Report :=
  Report.all.find? (fun r => has l.flags r.index && has l.enable r.index)

/-- A report begins to be sent: its flag cleared, its content taken, its masks cleared, the sequence stamped and
raised (R185). -/
def beginReport (r : Report) (s : State) : State :=
  let s1 := { s with link := s.link.unflag r }
  let s2 := takenFrom r s1
  { s2 with
    link := { s2.link with
      sending := some { kind := r.kind, tag := s2.link.sequence, fields := reportBytes s1 r }
      sequence := s2.link.sequence + 1 } }

end Sys2Proof.Machine
end

