-- ==== Sys2Proof/Machine/ServeSignals.lean ====
section
/-! DEFINITION. Machine/ServeSignals.lean: how the owning blocks serve the commands of the channels, of the
compatibility table, of the step queue and of the calls: the checks in their order, the effect, and the reply's bytes
after its kind and tag (R15, R17 to R19, R32, R33, R36, R52 to R56, R66). A reply is taken after the command's own
effect; what follows from it at the same moment is settled after (log entry 6). -/

namespace Sys2Proof.Machine

/-! ### SET CHANNEL and READ CHANNEL (R17 to R19) -/

/-- The recall suits the type (R17, check 2). -/
def recallSuits : ChannelType → Recall → Bool
  | .unused, .none => true
  | .unused, .min | .unused, .max | .unused, .ped => false
  | .vehicle, .none | .vehicle, .min | .vehicle, .max => true
  | .vehicle, .ped => false
  | .pedestrian, .none | .pedestrian, .ped => true
  | .pedestrian, .min | .pedestrian, .max => false

/-- A channel belongs to the green set of a queued record, or to the track or dwell set of a preempt (R17, check 4). -/
def State.inASet (s : State) (c : Chan) : Bool :=
  s.seq.queue.any (fun r => has r.greenSet c) ||
    (List.finRange 4).any (fun p => has (s.pre p).cfg.trackSet c || has (s.pre p).cfg.dwellSet c)

/-- The indication of a changed type in a standing mode (R18). -/
def typeIndication (m : Mode) (k : ChannelType) : Indication :=
  if m = .localFlash ∧ k = .vehicle then .flash else .dark

/-- The configuration that SET CHANNEL stores, the active set with it in the four modes of R3 (R17). -/
def storeChannel (k : ChannelType) (flags : Byte) (recallKind : Recall) (t : Timing) (both : Bool) (ch : Channel) :
    Channel :=
  { ch with
    kind := k
    flashColour := if flags.getLsbD 0 then .amber else .red
    flashPhase := if flags.getLsbD 1 then .b else .a
    dimEnable := flags.getLsbD 2
    redMonitor := flags.getLsbD 3
    recallKind := recallKind
    pendingSet := t
    activeSet := if both then t else ch.activeSet }

/-- What a stored type and red monitor enable do in the Monitor: a channel that is not watched keeps its red judgment
none and its timer 0 (R125). -/
def stopRedWatch (c : Chan) (s : State) : State :=
  if (s.chan c).redWatched then s
  else
    let w := s.mon.channels.get c
    { s with mon := { s.mon with channels := vset s.mon.channels c { w with redTimer := 0, lastRed := .none } } }

/-- What a changed type does in the Call and Green Timing Unit: UNUSED clears the latch (R18, R63), and a pedestrian
channel's ActCount stays 0 (R61). -/
def greenAtType (k : ChannelType) (g : Green) : Green :=
  match k with
  | .unused => { g with latch := false }
  | .pedestrian => { g with actCount := 0 }
  | .vehicle => g

/-- The indication of a changed type: the held one in POWER_OUT, else the channel's own, its timer 0 (R18). -/
def showType (c : Chan) (k : ChannelType) (s : State) : State :=
  let new := typeIndication s.standingMode k
  let s1 := loadTimer c 0 s
  if s.unit.mode = .powerOut then
    s1.setChan c { s1.chan c with held := if k = .unused then none else some new }
  else if (s1.chan c).ind = new then s1
  else enter c new s1

/-- A changed flash colour or phase restages a channel in FLASH (R12). -/
def restageFlash (c : Chan) (s : State) : State :=
  if (s.chan c).ind = .flash then s.setChan c { s.chan c with staged := patternOf (s.chan c) .flash } else s

/-- An accepted SET CHANNEL (R17, R18). -/
def applyChannel (c : Chan) (k : ChannelType) (flags : Byte) (recallKind : Recall) (t : Timing) (s : State) : State :=
  let s1 := s.setChan c (storeChannel k flags recallKind t s.unit.mode.copiesTiming (s.chan c))
  let s2 := stopRedWatch c s1
  if k = (s.chan c).kind then restageFlash c s2
  else showType c k (s2.setGreen c (greenAtType k (s2.green c)))

/-- The stored type, attributes, recall and pending set of a channel (Table 13-4). -/
def State.channelBytes (s : State) (c : Chan) : List Byte :=
  let ch := s.chan c
  [u8 (number c), ch.kind.code, attributeByte ch, ch.recallKind.code] ++ ch.pendingSet.bytes

/-- SET CHANNEL (R17). -/
def serveSetChannel (channel typeCode flags recallCode : Byte) (timing : TimingFields) (s : State) : Served :=
  match indexOf 16 channel.toNat, decodeType typeCode, decodeRecall recallCode with
  | some c, some k, some r =>
    if recallSuits k r = false then refuse s Config.kindSetChannel resultBadValue
    else if k ≠ (s.chan c).kind ∧ s.standingMode.isControl = true then refuse s Config.kindSetChannel resultWrongMode
    else if k = .unused ∧ s.inASet c = true then refuse s Config.kindSetChannel resultBadValue
    else
      let t := (TimingFields.sent timing).clamped
      let s1 := applyChannel c k flags r t s
      (settle s s1, clampResult (t != TimingFields.sent timing) :: s1.channelBytes c)
  | _, _, _ => refuse s Config.kindSetChannel resultBadValue

/-- The remaining interval time of READ CHANNEL (R19). -/
def State.remaining (s : State) (c : Chan) : Nat :=
  let ch := s.chan c
  match s.shown c with
  | .amber | .redClear | .pedClear => ch.timer
  | .green => if ch.kind = .pedestrian then ch.timer else (s.green c).initial
  | .red | .dark | .flash => 0

/-- The lamp statuses of a channel in one byte: red in bits 1-0, amber in 3-2, green in 5-4 (Table 13-4). -/
def State.lampCodes (s : State) (c : Chan) : Byte :=
  (s.mon.lamps.get (outputOf c 0)).status.code ||| ((s.mon.lamps.get (outputOf c 1)).status.code <<< 2) |||
    ((s.mon.lamps.get (outputOf c 2)).status.code <<< 4)

/-- The reply fields of READ CHANNEL (R19, Table 13-4). -/
def State.readChannelBytes (s : State) (c : Chan) : List Byte :=
  let ch := s.chan c
  [u8 (number c), ch.kind.code, attributeByte ch, ch.recallKind.code, ch.ind.code, heldCode ch.held] ++
    u16 (s.remaining c) ++ ch.activeSet.bytes ++
    [flagByte (ch.pendingSet != ch.activeSet), ch.applied.code, flagByte (has s.calls c), s.lampCodes c,
     readyCode (s.readyState c)]

/-- READ CHANNEL (R19). -/
def serveReadChannel (channel : Byte) (s : State) : Served :=
  match indexOf 16 channel.toNat with
  | some c => (s, resultOk :: s.readChannelBytes c)
  | none => refuse s Config.kindReadChannel resultBadValue

/-! ### SET DIMMING (R15) -/

/-- SET DIMMING (R15). -/
def serveSetDimming (on k : Byte) (s : State) : Served :=
  match decodeFlag on with
  | some b =>
    let level := clampTo 4 8 k.toNat
    ({ s with lamps := { s.lamps with dimOn := b, dimLevel := level } },
     [clampResult (level != k.toNat), flagByte b, u8 level])
  | none => refuse s Config.kindSetDimming resultBadValue

/-! ### LOAD and READ COMPATIBILITY (R32, R33) -/

/-- LOAD COMPATIBILITY (R32). -/
def serveLoadCompatibility (rows : Vector ChanSet 16) (s : State) : Served :=
  if s.standingMode.isControl = true then refuse s Config.kindLoadCompatibility resultWrongMode
  else if symmetric rows = false then refuse s Config.kindLoadCompatibility resultBadValue
  else
    let s1 := recomputeMatch { s with compat := { s.compat with hostCopy := some (tableOfRows rows) } }
    (s1, [resultOk, flagByte s1.compat.isMatch])

/-- READ COMPATIBILITY (R33). -/
def serveReadCompatibility (s : State) : Served :=
  (s, [resultOk, s.compat.status.code] ++ rowBytes (rowsOfTable s.compat.inUse) ++
    [flagByte s.compat.isMatch, flagByte s.compat.hostCopy.isSome, u8 s.compat.disagreements])

/-! ### The step queue (R36, R52 to R56) -/

/-- The next serial after an acceptance: 65535 is followed by 1 (R36). -/
def nextSerial (n : Nat) : Nat := if n < 65535 then n + 1 else 1

/-- The stored step time: 10 to 6000 for FIXED, none for ACTUATED (R36). -/
def storedTime (m : Termination) (sent : Nat) : Option Nat :=
  match m with
  | .fixed => some (clampTo 10 6000 sent)
  | .actuated => none

/-- A record appended at the tail, with the next serial (R36). -/
def appendStep (m : Termination) (skip : Bool) (set : ChanSet) (time : Option Nat) (s : State) : State :=
  let r : StepRecord :=
    { serial := s.seq.nextSerial, termination := m, skip := skip, greenSet := set, stepTime := time }
  { s with seq := { s.seq with queue := s.seq.queue ++ [r], nextSerial := nextSerial s.seq.nextSerial } }

/-- QUEUE STEP (R36). -/
def serveQueueStep (mode skip : Byte) (greenSet : ChanSet) (stepTime : Word) (s : State) : Served :=
  match decodeTermination mode, decodeFlag skip with
  | some m, some k =>
    if Config.queueCapacity ≤ s.seq.queue.length then refuse s Config.kindQueueStep resultQueueFull
    else if greenSet &&& ~~~ s.usedMask ≠ 0 then refuse s Config.kindQueueStep resultBadValue
    else if pairwiseCompatible s.compat.inUse greenSet = false then
      refuse s Config.kindQueueStep resultIncompatible
    else
      let time := storedTime m stepTime.toNat
      let s1 := appendStep m k greenSet time s
      (settle s s1,
       [clampResult (m == .fixed && time != some stepTime.toNat)] ++ u16 s.seq.nextSerial ++ u16 (time.getD 0) ++
         [u8 s1.seq.queue.length])
  | _, _ => refuse s Config.kindQueueStep resultBadValue

/-- The queue after CLEAR QUEUE: the current step alone, or nothing (R54). -/
def clearedQueue (s : State) : List StepRecord := if s.seq.current then s.record.toList else []

/-- The records removed by CLEAR QUEUE, the interrupted step among them during service (R54). -/
def clearQueue (s : State) : State :=
  { s with
    seq := { s.seq with queue := clearedQueue s, position := 0 }
    arb := { s.arb with interrupted := s.arb.interrupted && s.seq.current } }

/-- CLEAR QUEUE (R54). -/
def serveClearQueue (s : State) : Served :=
  let s1 := clearQueue s
  (settle s s1, [resultOk, u8 (s.seq.queue.length - s1.seq.queue.length)])

/-- The queue mode stored; from CYCLE to SINGLE the records before the current position are removed (R55). -/
def changeQueueMode (m : QueueMode) (s : State) : State :=
  if s.seq.mode = .cycle ∧ m = .single then
    { s with seq := { s.seq with mode := m, queue := s.seq.queue.drop s.seq.position, position := 0 } }
  else { s with seq := { s.seq with mode := m } }

/-- SET QUEUE MODE (R55). -/
def serveSetQueueMode (mode : Byte) (s : State) : Served :=
  match decodeQueueMode mode with
  | some m =>
    let s1 := changeQueueMode m s
    (settle s s1, [resultOk, m.code, u8 (s.seq.queue.length - s1.seq.queue.length)])
  | none => refuse s Config.kindSetQueueMode resultBadValue

/-- HOLD (R52). -/
def serveHold (on : Byte) (s : State) : Served :=
  match decodeFlag on with
  | some b => (settle s { s with seq := { s.seq with hold := b } }, [resultOk, flagByte b])
  | none => refuse s Config.kindHold resultBadValue

/-- FORCE END (R53). -/
def serveForceEnd (s : State) : Served :=
  if s.unit.mode ≠ .controlled ∨ s.inService = true ∨ s.seq.current = false then
    refuse s Config.kindForceEnd resultWrongMode
  else (settle s { s with seq := { s.seq with force := true } }, [resultOk])

/-- A step entry of READ QUEUE, its step time in units of 24 tenths, rounded up (Table 13-4). -/
def StepRecord.entryBytes (r : StepRecord) : List Byte :=
  u16 r.serial ++ [r.termination.code, flagByte r.skip] ++ wordBytes r.greenSet ++
    [u8 ((r.stepTime.getD 0 + 23) / 24)]

/-- The records that READ QUEUE returns: up to six from the first index on (R56). -/
def State.returned (s : State) (first : Nat) : List StepRecord := (s.seq.queue.drop (first - 1)).take 6

/-- READ QUEUE (R56). -/
def serveReadQueue (first : Byte) (s : State) : Served :=
  if 1 ≤ first.toNat ∧ first.toNat ≤ 16 then
    let rs := s.returned first.toNat
    (s, [resultOk, s.seq.mode.code, u8 s.seq.queue.length, u8 s.positionIndex] ++ u16 s.currentSerial ++
      [s.seq.phase.code, s.queueFlags false] ++ u16 s.seq.stepTimer ++ u16 s.seq.nextSerial ++
      [first, u8 rs.length] ++ rs.flatMap StepRecord.entryBytes)
  else refuse s Config.kindReadQueue resultBadValue

/-! ### PLACE CALL (R66) -/

/-- PLACE CALL (R66). -/
def servePlaceCall (mask : ChanSet) (s : State) : Served :=
  if mask &&& ~~~ s.usedMask ≠ 0 then refuse s Config.kindPlaceCall resultBadValue
  else
    let s1 := requestLatches mask s
    (settle s s1, resultOk :: wordBytes s1.latches)

end Sys2Proof.Machine
end

