-- ==== Sys2Proof/Machine/ServeFacilities.lean ====
section
/-! DEFINITION. Machine/ServeFacilities.lean: how the owning blocks serve the commands of the detectors, the preempts,
the fault record, the unit mode, the timebase and supply, the tones, the signs and the link itself (R94, R100, R103,
R117, R133, R140, R142, R146, R150, R160, R161, R164, R172, R177, R179, R188, R189). -/

namespace Sys2Proof.Machine

/-! ### SET DETECTOR and READ DETECTORS (R100, R94) -/

/-- The restart of a detector's run state: timers, window and fault to 0 and OK, direction CLEAR; level, run and
counts kept (R100). -/
def Detector.restarted (r : Detector) : Detector :=
  { r with delayTimer := 0, presence := 0, absence := 0, window := 0, cleanRun := 0, fault := .ok, direction := .clear }

/-- A record whose mode or configuration a command changes is stored with its run state restarted; one that was
faulted returns to OK, marked and flagged (R100). -/
def writeDetector (d : Det) (new : Detector) (s : State) : State :=
  if new = s.det d then s
  else
    let s1 := s.setDet d new.restarted
    if (s.det d).faulted then markChanged d s1 else s1

/-- The chatter limit as stored (R100). -/
def storedChatter (f : DetectorFields) : Nat := clampTo 2 50 f.chatterLimit.toNat

/-- The configuration that SET DETECTOR stores in the named record (R100). -/
def storeDetector (f : DetectorFields) (m : DetectorMode) (locking : Bool) (a : FailAction) (wrongWay : Bool)
    (r : Detector) : Detector :=
  { r with
    mode := m, callMask := f.callMask, extendMask := f.extendMask, delay := f.delay.toNat, locking := locking
    maxPresence := f.maxPresence.toNat, maxAbsence := f.maxAbsence.toNat, chatterLimit := storedChatter f
    failAction := a, wrongWay := wrongWay }

/-- The mode that SET DETECTOR gives the lag when it names the lead: PAIR with it, OFF when the pair leaves PAIR
(R100). -/
def lagMode (old new : DetectorMode) (lag : DetectorMode) : DetectorMode :=
  if new = .pair then .pair else if old = .pair then .off else lag

/-- An accepted SET DETECTOR: both records written, and the new call conditions of a locking detector handed at once
(R100, R91). A command that changes nothing begins no condition and hands no call (log entry 57, the model's choice). -/
def applyDetector (d : Det) (new : Detector) (s : State) : State :=
  let s1 := writeDetector d new s
  let lag := s.det (partner d)
  let s2 :=
    if isLead d then
      writeDetector (partner d) { lag with mode := lagMode (s.det d).mode new.mode lag.mode } s1
    else s1
  if new.locking = true ∧ new ≠ s.det d then requestLatches (s2.callConds d) s2 else s2

/-- The lag detector of a detector's pair. -/
def lagOf (d : Det) : Det := if isLead d then partner d else d

/-- The stored configuration of a detector, and the mode of its lag (Table 13-4). -/
def State.configBytes (s : State) (d : Det) : List Byte :=
  let r := s.det d
  [u8 (number d), r.mode.code] ++ wordBytes r.callMask ++ wordBytes r.extendMask ++
    [u8 r.delay, flagByte r.locking, u8 r.maxPresence, u8 r.maxAbsence, u8 r.chatterLimit, r.failAction.code,
     flagByte r.wrongWay, (s.det (lagOf d)).mode.code]

/-- SET DETECTOR (R100). -/
def serveSetDetector (f : DetectorFields) (s : State) : Served :=
  match indexOf 24 f.number.toNat, decodeDetectorMode f.mode, decodeFailAction f.failAction, decodeFlag f.locking,
    decodeFlag f.wrongWay with
  | some d, some m, some a, some locking, some wrongWay =>
    if isLead d = false ∧ (m = .pair ∨ (s.det (partner d)).mode = .pair) then
      refuse s Config.kindSetDetector resultBadValue
    else
      let s1 := applyDetector d (storeDetector f m locking a wrongWay (s.det d)) s
      (settle s s1, clampResult (storedChatter f != f.chatterLimit.toNat) :: s1.configBytes d)
  | _, _, _, _, _ => refuse s Config.kindSetDetector resultBadValue

/-- A detector entry of READ DETECTORS (R94, Table 13-4). -/
def State.detectorEntry (s : State) (d : Det) : List Byte :=
  let r := s.det d
  let direction := if r.mode = .pair ∧ isLead d = true then r.direction else .clear
  [(r.mode.code <<< 4) ||| r.fault.code, (flagByte r.level <<< 4) ||| direction.code] ++ wordBytes r.volume ++
    u32 r.occupancy.toNat ++ wordBytes r.forward ++ wordBytes r.reverse

/-- The detectors that a READ DETECTORS names. -/
def namedDetectors (first count : Nat) : DetSet := maskOf (fun d => first ≤ number d && number d < first + count)

/-- The four counts of the detectors of a set put to 0 (R94). -/
def clearCounts (m : DetSet) (s : State) : State :=
  { s with
    dets := vmap (fun d r =>
      if has m d then { r with volume := 0, occupancy := 0, forward := 0, reverse := 0 } else r) s.dets }

/-- READ DETECTORS (R94). -/
def serveReadDetectors (first count clear : Byte) (s : State) : Served :=
  match decodeFlag clear with
  | some b =>
    if 1 ≤ first.toNat ∧ first.toNat ≤ 24 ∧ 1 ≤ count.toNat ∧ count.toNat ≤ 4 ∧ first.toNat + count.toNat ≤ 25 then
      let m := namedDetectors first.toNat count.toNat
      (if b then clearCounts m s else s,
       [resultOk, first, count] ++ u32 s.time.tenth.toNat ++
         ((List.finRange 24).filter (fun d => has m d)).flatMap s.detectorEntry)
    else refuse s Config.kindReadDetectors resultBadValue
  | none => refuse s Config.kindReadDetectors resultBadValue

/-! ### SET PREEMPT and READ PREEMPT (R103, R117) -/

/-- A preempt in a service state (R103, check 3). -/
def Preempt.serving (p : Preempt) : Bool :=
  p.state == .entry || p.state == .track || p.state == .dwell || p.state == .exit

/-- The configuration that SET PREEMPT stores, with its clamps (R103). -/
def storedPreempt (f : PreemptFields) (locking pedTruncate : Bool) (exitKind : ExitKind) (enable : Bool) :
    PreemptConfig :=
  { priority := f.priority.toNat, delay := f.delay.toNat, locking := locking, minGreen := f.minGreen.toNat
    pedTruncate := pedTruncate, pedClear := f.pedClear.toNat, trackSet := f.trackSet
    trackTime := min 2550 f.trackTime.toNat, dwellSet := f.dwellSet, dwellMin := clampTo 10 2550 f.dwellMin.toNat
    maxPresence := max 1 f.maxPresence.toNat, exitKind := exitKind, enable := enable }

/-- Whether a clamp of SET PREEMPT changed a value (R103). -/
def preemptClamped (f : PreemptFields) (c : PreemptConfig) : Bool :=
  c.trackTime != f.trackTime.toNat || c.dwellMin != f.dwellMin.toNat || c.maxPresence != f.maxPresence.toNat

/-- A preempt with a new configuration and its request restarted (R103). -/
def Preempt.reconfigured (c : PreemptConfig) (p : Preempt) : Preempt :=
  { p with cfg := c, state := .idle, delayTimer := 0, stage := .none, pendingAtExit := false }

/-- SET PREEMPT (R103). -/
def serveSetPreempt (f : PreemptFields) (s : State) : Served :=
  match indexOf 4 f.number.toNat, decodeFlag f.locking, decodeFlag f.pedTruncate, decodeExitKind f.exitKind,
    decodeFlag f.enable with
  | some p, some locking, some pedTruncate, some exitKind, some enable =>
    if 3 < f.priority.toNat ∨ (f.trackSet ||| f.dwellSet) &&& ~~~ s.usedMask ≠ 0 then
      refuse s Config.kindSetPreempt resultBadValue
    else if (s.pre p).serving = true then refuse s Config.kindSetPreempt resultWrongMode
    else if (pairwiseCompatible s.compat.inUse f.trackSet && pairwiseCompatible s.compat.inUse f.dwellSet) = false then
      refuse s Config.kindSetPreempt resultIncompatible
    else
      let c := storedPreempt f locking pedTruncate exitKind enable
      (settle s (s.setPre p ((s.pre p).reconfigured c)),
       clampResult (preemptClamped f c) :: preemptConfigBytes p c)
  | _, _, _, _, _ => refuse s Config.kindSetPreempt resultBadValue

/-- Whether the preempt's transition has reached full green: in TRACK, DWELL and EXIT once their timers are loaded
(R117). -/
def State.reachedFull (s : State) (p : Pre) : Bool :=
  match (s.pre p).state with
  | .track | .exit => true
  | .dwell => s.seq.transition.isNone
  | .idle | .delaying | .pending | .entry => false

/-- READ PREEMPT (R117). -/
def serveReadPreempt (preempt : Byte) (s : State) : Served :=
  match indexOf 4 preempt.toNat with
  | some p =>
    let r := s.pre p
    (s, resultOk :: preemptConfigBytes p r.cfg ++ [flagByte r.level, flagByte r.stuck] ++ u32 r.presence ++
      [preemptCode r, u8 r.delayTimer] ++ u16 r.serviceTimer ++
      [r.stage.code, flagByte (s.reachedFull p), holderCode s.arb.holder] ++ u16 s.interruptedSerial)
  | none => refuse s Config.kindReadPreempt resultBadValue

/-! ### READ FAULT (R133) -/

/-- READ FAULT (R133). -/
def serveReadFault (s : State) : Served :=
  (s, resultOk :: faultRecordBytes s.mon.record ++ s.mon.statusPack)

/-! ### The unit mode (R140, R142, R146, R150) -/

/-- A lamp output of a used channel has lamp status SWITCH_ON (Table 8-2). -/
def State.switchedOn (s : State) : Bool :=
  (List.finRange 48).any (fun o =>
    (s.chan (outputChan o)).used && (s.mon.lamps.get o).status == .switchOn)

/-- The reason mask of ENTER CONTROL (Table 8-2, Table 13-2). -/
def State.reasons (s : State) : Byte :=
  flagByte (s.unit.mode == .startFlash && 0 < s.unit.startFlashTimer) |||
    (flagByte (s.compat.status != .valid) <<< 1) |||
    (flagByte (!s.compat.isMatch) <<< 2) |||
    (flagByte s.seq.queue.isEmpty <<< 3) |||
    (flagByte s.unit.switchLevel <<< 4) |||
    (flagByte (s.time.category != .normal && s.time.category != .high) <<< 5) |||
    (flagByte (s.usedMask == 0) <<< 6) |||
    (flagByte s.switchedOn <<< 7)

/-- ENTER CONTROL (R140). -/
def serveEnterControl (s : State) : Served :=
  if s.unit.mode = .startFlash ∨ s.unit.mode = .localFlash then
    if s.reasons = 0 then (settle s (enterEntryRed s), [resultOk, 0])
    else (s, [resultNotReady, s.reasons])
  else refuse s Config.kindEnterControl resultWrongMode

/-- ENTER FLASH (R142). -/
def serveEnterFlash (s : State) : Served :=
  match s.unit.mode with
  | .entryRed | .controlled => (settle s (enterClearing .host s), [resultOk, 0])
  | .clearingToFlash | .localFlash => (s, [resultOk, 0])
  | .startFlash =>
    if s.usedMask = 0 then (s, [resultNotReady, 0x40#8])
    else (settle s (enterLocalFlash (setCause .host s)), [resultOk, 0])
  | .faultFlash | .powerOut => refuse s Config.kindEnterFlash resultWrongMode

/-- The fault record emptied, with the FAULT flag when it held a fault (R131, R133). -/
def emptyRecord (s : State) : State :=
  flagIf s.mon.record.isSome .fault { s with mon := { s.mon with record := none } }

/-- RESET FAULT (R146). -/
def serveResetFault (s : State) : Served :=
  if s.unit.mode = .faultFlash then
    if s.compat.status = .valid then (settle s (restart (emptyRecord s)), [resultOk, 0])
    else (s, [resultNotReady, 0x02#8])
  else refuse s Config.kindResetFault resultWrongMode

/-- SET START (R150). -/
def serveSetStart (startFlash entryRed shortOutage redFailTime : Byte) (s : State) : Served :=
  let a := clampTo 30 255 startFlash.toNat
  let b := clampTo 20 255 entryRed.toNat
  let c := clampTo 0 20 shortOutage.toNat
  let d := clampTo 10 25 redFailTime.toNat
  ({ s with
      unit := { s.unit with startFlashTime := a, entryRedTime := b, shortOutage := c }
      mon := { s.mon with redFailTime := d } },
   [clampResult (a != startFlash.toNat || b != entryRed.toNat || c != shortOutage.toNat || d != redFailTime.toNat),
    u8 a, u8 b, u8 c, u8 d])

/-! ### The timebase and the supply (R160, R161) -/

/-- The nominal frequency stored; AUTO makes the decided frequency undecided and the decision run 0 (R160), with no
candidate (log entry 50). -/
def Timebase.nominalStored (n : Nominal) (t : Timebase) : Timebase :=
  if n = .auto then { t with nominal := n, decided := none, decisionRun := 0, candidate := none }
  else { t with nominal := n }

/-- An accepted SET TIMEBASE: lock state ACQUIRING with count 0, a fallback from LOCKED, and the SUPPLY flag when the
lock state or the working frequency changed (R160). -/
def applyTimebase (n : Nominal) (s : State) : State :=
  let t := s.time.nominalStored n
  let s1 := flagIf (t.working != s.time.working) .supply (dropLock { s with time := t })
  fallbackTick (s.time.lock == .locked) s.time.clock s1

/-- SET TIMEBASE (R160). -/
def serveSetTimebase (nominal : Byte) (s : State) : Served :=
  match decodeNominal nominal with
  | some n =>
    let s1 := applyTimebase n s
    (s1, [resultOk, s1.time.nominal.code, s1.time.lock.code])
  | none => refuse s Config.kindSetTimebase resultBadValue

/-- SET SUPPLY (R161). -/
def serveSetSupply (dropout sag high : Byte) (s : State) : Served :=
  let g := clampTo 120 195 sag.toNat
  let h := clampTo 205 250 high.toNat
  let d := clampTo 60 (g - 10) dropout.toNat
  ({ s with time := { s.time with dropout := d, sag := g, high := h } },
   [clampResult (d != dropout.toNat || g != sag.toNat || h != high.toNat), u8 d, u8 g, u8 h])

/-! ### SET TONE (R164) -/

/-- A number whose 0 stands for none: some none for 0, the index for 1 to n, none above n. -/
def bindingOf (n b : Nat) : Option (Option (Fin n)) :=
  if b = 0 then some none else (indexOf n b).map some

/-- The configuration that SET TONE stores (R164). -/
def storeTone (f : ToneFields) (channel : Option Chan) (button : Option Det) (l : ToneLine) : ToneLine :=
  { l with
    channel := channel, button := button, frequency := f.frequency.toNat, dayVolume := min 7 f.dayVolume.toNat
    nightVolume := min 7 f.nightVolume.toNat, locator := f.flags.getLsbD 0, envelope := f.flags.getLsbD 1
    mute := f.flags.getLsbD 2 }

/-- A line's stored configuration with its playing state restarted and judged afresh (R164, R166). A sound in progress stops
also when the command turns its mute off, against the last words of R165 (log entry 51). -/
def applyTone (i : Line) (l : ToneLine) (s : State) : State :=
  let s1 := { s with tones := vset s.tones i l }
  { s1 with tones := vset s1.tones i (lineAfresh s1 i l) }

/-- The bound channel or button of a line as its byte, 0 for none. -/
def bindingCode {n : Nat} : Option (Fin n) → Byte
  | none => 0
  | some i => u8 (number i)

/-- The stored configuration of a line (Table 13-4). -/
def ToneLine.bytes (i : Line) (l : ToneLine) : List Byte :=
  [u8 (number i), bindingCode l.channel, bindingCode l.button, u8 l.frequency, u8 l.dayVolume, u8 l.nightVolume,
   toneFlags l]

/-- Whether a tone line may be bound to a channel: none, or a channel of type PEDESTRIAN (R164, check 3). -/
def State.bindable (s : State) : Option Chan → Bool
  | none => true
  | some c => (s.chan c).kind == .pedestrian

/-- SET TONE (R164). -/
def serveSetTone (f : ToneFields) (s : State) : Served :=
  match indexOf 8 f.number.toNat, bindingOf 16 f.channel.toNat, bindingOf 24 f.button.toNat with
  | some i, some channel, some button =>
    if 7 < f.frequency.toNat ∨ s.bindable channel = false then refuse s Config.kindSetTone resultBadValue
    else
      let l := storeTone f channel button (s.line i)
      (applyTone i l s,
       clampResult (l.dayVolume != f.dayVolume.toNat || l.nightVolume != f.nightVolume.toNat) :: l.bytes i)
  | _, _, _ => refuse s Config.kindSetTone resultBadValue

/-! ### The sign chain (R172, R177, R179) -/

/-- SET SIGN CHAIN (R177). -/
def serveSetSignChain (count period gap : Byte) (s : State) : Served :=
  if 8 < count.toNat ∨ isGap gap.toNat = false then refuse s Config.kindSetSignChain resultBadValue
  else
    let p := max 2 period.toNat
    let same := s.signs.count = count.toNat ∧ s.signs.period = p ∧ s.signs.gap = gap.toNat
    (if same then s else changeChain count.toNat p gap.toNat s,
     [clampResult (p != period.toNat), count, u8 p, gap])

/-- A brightness as stored: above 3 it is 3 (R172). -/
def storedBright (b : Byte) : BitVec 2 := if 3 < b.toNat then 3 else b.setWidth 2

/-- The entry that SET SIGN stores (R172). -/
def storedSign (f : SignFields) (source : Option Chan) : SignEntry :=
  { source := source, display := f.flags.getLsbD 0, message := f.message.setWidth 6, flash := f.flags.getLsbD 1
    messageGreen := f.messageGreen.setWidth 6, messageOther := f.messageOther.setWidth 6
    dayBright := storedBright f.dayBright, nightBright := storedBright f.nightBright }

/-- An image entry stored. -/
def applySign (k : Fin 8) (e : SignEntry) (s : State) : State :=
  { s with signs := { s.signs with modules := vset s.signs.modules k { s.signs.modules.get k with entry := e } } }

/-- SET SIGN (R172). -/
def serveSetSign (f : SignFields) (s : State) : Served :=
  match indexOf 8 f.entry.toNat, bindingOf 16 f.source.toNat with
  | some k, some source =>
    if 63 < f.message.toNat ∨ 63 < f.messageGreen.toNat ∨ 63 < f.messageOther.toNat then
      refuse s Config.kindSetSign resultBadValue
    else
      let e := storedSign f source
      (applySign k e s, clampResult (3 < f.dayBright.toNat || 3 < f.nightBright.toNat) :: e.bytes k)
  | _, _ => refuse s Config.kindSetSign resultBadValue

/-- The chain flags of READ SIGNS: bit 0 exchange state, 1 pending, 2 chain error (Table 13-4). -/
def Signs.flags (g : Signs) : Byte :=
  flagByte g.shifting ||| (flagByte g.pendingExchange <<< 1) ||| (flagByte g.chainError <<< 2)

/-- READ SIGNS (R179). -/
def serveReadSigns (s : State) : Served :=
  (s, [resultOk, u8 s.signs.count, u8 s.signs.period, u8 s.signs.gap, s.signs.flags] ++
    s.signs.chain.flatMap (fun k => (s.signs.modules.get k).entryBytes))

/-! ### The link itself (R188, R189) -/

/-- IDENTIFY (R188). -/
def serveIdentify (s : State) : Served :=
  (s, resultOk :: u16 416 ++ [1, 16, 24, 4, 8, 8, 16, s.link.rate.code])

/-- STATUS (R188). -/
def serveStatus (s : State) : Served := (s, resultOk :: s.statusBytes)

/-- SET LINK (R189). -/
def serveSetLink (supervision : Byte) (enable : Word) (period : Byte) (s : State) : Served :=
  let t := max 5 supervision.toNat
  let mask : BitVec 9 := enable.setWidth 9
  ({ s with
      link := { s.link with
        supervisionTime := t, supervision := t, enable := mask, statusPeriod := period.toNat
        statusTimer := period.toNat * 10 } },
   [clampResult (t != supervision.toNat), u8 t] ++ reportMaskBytes mask ++ [period])

end Sys2Proof.Machine
end

