-- ==== Sys2Proof/Machine/Link.lean ====
section
/-! DEFINITION. Machine/Link.lean: the Cabinet Link Port: the command handler over every command kind, the arrival of a
frame that has passed its check, the two slots, the transmitter, and the receiver (R180 to R187). -/

namespace Sys2Proof.Machine

/-! ### The command handler (R184) -/

/-- The service of a host command by its owning block; an event is no command and changes nothing. -/
def serve (i : Instr) (s : State) : Served :=
  match i with
  | .identify _ => serveIdentify s
  | .status _ => serveStatus s
  | .setLink _ supervision enable period => serveSetLink supervision enable period s
  | .setChannel _ channel typeCode flags recallCode timing =>
    serveSetChannel channel typeCode flags recallCode timing s
  | .readChannel _ channel => serveReadChannel channel s
  | .setDimming _ on k => serveSetDimming on k s
  | .loadCompatibility _ rows => serveLoadCompatibility rows s
  | .readCompatibility _ => serveReadCompatibility s
  | .queueStep _ mode skip greenSet stepTime => serveQueueStep mode skip greenSet stepTime s
  | .clearQueue _ => serveClearQueue s
  | .setQueueMode _ mode => serveSetQueueMode mode s
  | .hold _ on => serveHold on s
  | .forceEnd _ => serveForceEnd s
  | .readQueue _ first => serveReadQueue first s
  | .placeCall _ mask => servePlaceCall mask s
  | .setDetector _ f => serveSetDetector f s
  | .readDetectors _ first count clear => serveReadDetectors first count clear s
  | .setPreempt _ f => serveSetPreempt f s
  | .readPreempt _ preempt => serveReadPreempt preempt s
  | .readFault _ => serveReadFault s
  | .enterControl _ => serveEnterControl s
  | .enterFlash _ => serveEnterFlash s
  | .resetFault _ => serveResetFault s
  | .setStart _ startFlash entryRed shortOutage redFailTime =>
    serveSetStart startFlash entryRed shortOutage redFailTime s
  | .setTimebase _ nominal => serveSetTimebase nominal s
  | .setSupply _ dropout sag high => serveSetSupply dropout sag high s
  | .setTone _ f => serveSetTone f s
  | .setSignChain _ count period gap => serveSetSignChain count period gap s
  | .setSign _ f => serveSetSign f s
  | .readSigns _ => serveReadSigns s
  | .hardwareReset _ | .millisecond | .scanTick _ _ _ | .crystalTenth | .mainsTenth | .realCrossingEvent _
  | .syntheticCrossingEvent | .monitorSample _ | .supplySample _ | .plugReadComplete _ | .amberExpiry _
  | .redClearanceExpiry _ | .walkExpiry _ | .pedClearExpiry _ | .stepTimerExpiry | .initialGreenRunOut _ | .gapOut _
  | .maxOut _ | .detectorLevelChange _ | .delayReached _ | .stuckOn _ | .noActivity _ | .chatter _
  | .chatterWindowEnd | .preemptInputLevelChange _ | .preemptStuck _ | .preemptDelayExpiry _ | .trackEnd | .dwellEnd
  | .redFail _ | .startFlashTimerExpiry | .entryRedEnd | .manualFlashSwitchEdge | .locatorTick _ | .walkTick _
  | .confirmEnd _ | .signPeriodExpiry | .signExchangeStart | .signExchangeEnd _ | .receiveCharacter _ _ _ | .gapError
  | .unknownKind _ _ _ | .frameSent | .sendReport | .statusTimerExpiry | .supervisionExpiry => (s, [])

/-- The reply frame of a served command: its kind plus 0x80, its tag, the result and the reply fields (R184). -/
def replyTo (f : Frame) (r : Served) : State × Frame := (r.1, { kind := f.kind + 0x80#8, tag := f.tag, fields := r.2 })

/-- The reply to a frame of an unknown kind (R184). -/
def unknownReply (f : Frame) : Frame :=
  { kind := Config.kindUnknownReply, tag := f.tag, fields := [resultUnknownKind, f.kind] }

/-- The handler's judgment and execution of a frame, with its one reply (R184). -/
def handle (f : Frame) (s : State) : State × Frame :=
  match parseFrame f with
  | .unknown => (s, unknownReply f)
  | .badLength => replyTo f (refuse s f.kind resultBadLength)
  | .command c => replyTo f (serve c s)

/-! ### Slots and transmitter (R183 to R185) -/

/-- A reply placed in the reply slot. -/
def placeReply (r : State × Frame) : State := { r.1 with link := { r.1.link with reply := some r.2 } }

/-- The frame in the held slot taken when the reply slot is empty (R184). -/
def takeHeld (s : State) : State :=
  match s.link.held, s.link.reply with
  | some f, none => placeReply (handle f { s with link := { s.link with held := none } })
  | _, _ => s

/-- The transmitter begins the reply of the reply slot, which empties; the handler then takes a held frame (R184,
R185). -/
def beginReply (f : Frame) (s : State) : State :=
  takeHeld { s with link := { s.link with sending := some f, reply := none } }

/-- An idle transmitter begins the reply that waits (R185). -/
def startReply (s : State) : State :=
  match s.link.sending, s.link.reply with
  | none, some f => beginReply f s
  | _, _ => s

/-- The choice of a transmitter that has nothing to send at the moment: the reply, then the first enabled flagged
report, then IDLE (R185). -/
def chooseNext (s : State) : State :=
  match s.link.reply with
  | some f => beginReply f s
  | none =>
    match s.link.nextReport with
    | some r => beginReport r s
    | none => s

/-- The transmitter ends its frame and chooses the next (R185). -/
def endFrame (s : State) : State :=
  match s.link.sending with
  | none => s
  | some _ => chooseNext { s with link := { s.link with sending := none } }

/-- A report started by an idle transmitter that has no reply to send (R185). -/
def startReport (s : State) : State :=
  match s.link.sending, s.link.reply with
  | none, none =>
    match s.link.nextReport with
    | some r => beginReport r s
    | none => s
  | _, _ => s

/-! ### Frames and errors (R182, R183, R187) -/

/-- A link error: recorded and counted, with the STATUS flag (R182, R183). -/
def linkError (e : LinkError) (s : State) : State :=
  flag .status { s with link := { s.link with lastError := e, errors := s.link.errors + 1 } }

/-- An error in a frame: the frame in assembly discarded, the receiver in HUNT (R182). -/
def receiveError (e : LinkError) (s : State) : State :=
  linkError e { s with link := { s.link with receiver := .hunt, length := 0, assembly := [] } }

/-- A frame passes its check: supervision reloaded, a LOST link OK again, an owed link loss cleared (R187, R144). -/
def heard (s : State) : State :=
  flagIf s.link.lost .status
    { s with
      link := { s.link with supervision := s.link.supervisionTime, lost := false }
      unit := { s.unit with owedLinkLoss := false } }

/-- A frame that has passed its check, with what its taking by the handler gives: lost as OVERRUN when the held slot
is full, held while the reply slot is full, else taken at once, its reply begun by an idle transmitter (R183, R184,
R185). -/
def deliver (f : Frame) (taking : State → State × Frame) (s : State) : State :=
  let s1 := heard s
  if s1.link.held.isSome then linkError .overrun s1
  else if s1.link.reply.isSome then { s1 with link := { s1.link with held := some f } }
  else startReply (placeReply (taking s1))

/-- A frame passes its check (R183, R187). -/
def arrive (f : Frame) (s : State) : State := deliver f (handle f) s

/-! ### The receiver (R181, R182) -/

/-- The number of ones of a byte. -/
def ones (b : Byte) : Nat := ((List.finRange 8).filter (fun i => b.getLsbD i.val)).length

/-- A character has a parity error when its nine bits hold an odd number of ones (R181). -/
def parityError (data : Byte) (parity : Bool) : Bool := (ones data + (if parity then 1 else 0)) % 2 == 1

/-- The parity bit that a character is sent with: it makes the ones of the nine bits even (R181). -/
def evenParity (data : Byte) : Bool := ones data % 2 == 1

/-- The level of a sent character in each of its eleven bit times: the start bit low, the data bits least significant
first, the even parity bit, the stop bit high (R181). -/
def characterLevel (data : Byte) (bit : Nat) : Bool :=
  if bit = 0 then false
  else if bit ≤ 8 then data.getLsbD (bit - 1)
  else if bit = 9 then evenParity data
  else true

/-- The level of TXD in a bit time counted, at the link rate, from the start of the frame being sent: its characters back
to back, and high after them; high at all times when nothing is sent, as after a hardware reset that stops a frame (R181,
R185). -/
def Link.txd (l : Link) (time : Nat) : Bool :=
  match l.sending with
  | none => true
  | some f =>
    match f.sent[time / Config.characterBits]? with
    | some data => characterLevel data (time % Config.characterBits)
    | none => true

/-- The N-th byte of a body: the check sum judged (R182). -/
def judgeFrame (bs : List Byte) (s : State) : State :=
  if u8 s.link.length + byteSum bs = 0 then
    arrive (frameOfBytes bs) { s with link := { s.link with receiver := .hunt, length := 0, assembly := [] } }
  else receiveError .check s

/-- A character taken at its stop bit (R182). -/
def receive (data : Byte) (parity stop : Bool) (s : State) : State :=
  let bad := parityError data parity || !stop
  let error : LinkError := if parityError data parity then .parity else .framing
  match s.link.receiver with
  | .hunt =>
    if bad = false ∧ data = Config.frameMarker then
      { s with link := { s.link with receiver := .length, length := 0, assembly := [] } }
    else s
  | .length =>
    if bad then receiveError error s
    else if Config.minLength ≤ data.toNat ∧ data.toNat ≤ Config.maxLength then
      { s with link := { s.link with receiver := .body, length := data.toNat, assembly := [] } }
    else receiveError .length s
  | .body =>
    if bad then receiveError error s
    else
      let bs := s.link.assembly ++ [data]
      if bs.length < s.link.length then { s with link := { s.link with assembly := bs } } else judgeFrame bs s

/-- The gap limit exceeded in LENGTH or BODY (R182). -/
def gapExceeded (s : State) : State :=
  match s.link.receiver with
  | .hunt => s
  | .length | .body => receiveError .gap s

end Sys2Proof.Machine
end

