-- ==== Sys2Proof/Machine/CrystalEvents.lean ====
section
/-! DEFINITION. Machine/CrystalEvents.lean: the meanings of hardware reset, of the events of the crystal and the mains,
and of the samples they schedule (R138, R152 to R158, R84, R120, R24). -/

namespace Sys2Proof.Machine

/-- The outcome of a command of the FJ416. -/
abbrev Result := Host.Outcome State Fault Refusal

/-- HARDWARE_RESET: every block at its hardware reset values, the link rate from the straps; the commands that wait
are the sender's and stay (R1, R138, R181). -/
def execHardwareReset (straps : BitVec 2) (s : State) : Result :=
  .next { State.reset with link := { Link.reset with rate := rateOf straps }, pending := s.pending }

/-- MILLISECOND: the active tone lines (R152, R165 to R170). -/
def execMillisecond (s : State) : Result :=
  let t := { s.time with millis := s.time.millis + 1 }
  .next
    { s with
      time := t.seen (t.millis * Config.milliMicros)
      tones := vmap (fun i l => if s.lineActive i then l.millisecond s.lamps.dimOn else l) s.tones }

/-- SCAN_TICK: detectors and preemption inputs conditioned, what follows settled, then the manual flash switch (R84,
R104, R139). -/
def execScanTick (detInputs : BitVec 24) (preInputs : BitVec 4) (mfs : Bool) (s : State) : Result :=
  let t := { s.time with scans := s.time.scans + 1 }
  let s1 := { s with time := t.seen (t.scans * Config.scanMicros) }
  let s2 := settle s1 (scanPreempts preInputs (scanDetectors detInputs s1))
  .next (settle s2 (scanSwitch mfs s2))

/-- CRYSTAL_TENTH (R152, R157). -/
def execCrystalTenth (s : State) : Result := .next (crystalTenth s)

/-- MAINS_TENTH: the tenth tick of the real crossing that brings the mains tenth count to its end, taken before that
crossing; the crossing then ends the count and gives no second tick (R157; log entry 5). -/
def execMainsTenth (s : State) : Result :=
  if s.time.lock = .locked ∧ s.time.mainsPaced = true ∧ s.time.tenthGiven = false ∧
      s.time.mainsCount + 1 = s.time.working.perTenth then
    .next (tenthAt s.time.clock { s with time := { s.time with tenthGiven := true } })
  else .next s

/-- REAL_CROSSING_EVENT: an edge on ZXI, ignored inside the crossing blanking (R153). -/
def execRealCrossingEvent (moment : Nat) (s : State) : Result :=
  if s.time.takes moment then .next (realCrossing moment s) else .next s

/-- SYNTHETIC_CROSSING_EVENT (R154). -/
def execSyntheticCrossingEvent (s : State) : Result := .next (syntheticCrossing s)

/-- MONITOR_SAMPLE: the judgment of the half-cycle whose drive report waits; none in POWER_OUT (R120, R121, R134). A
Compatibility notice taken before it at the same moment leaves its findings the additional-fault flag (R132). -/
def execMonitorSample (sense : LampSet) (s : State) : Result :=
  match s.mon.awaiting with
  | none => .next s
  | some report =>
    let s1 := { s with time := s.time.seen (s.time.lastCrossing + Config.monitorDelay) }
    if s.unit.mode = .powerOut then .next { s1 with mon := { s1.mon with awaiting := none } }
    else
      let judged := judgeSample s1 sense report
      .next (settle s1 (monitorNotice (judged.2 ++ besideFindings s1 sense report) judged.1))

/-- SUPPLY_SAMPLE: the scheduled sample of MSENSE (R158). A sample that a SET TIMEBASE has made overdue is still taken, dated
at its crossing plus the new delay, before the clock (R160; log entry 56, the model's choice). -/
def execSupplySample (reading : Byte) (s : State) : Result :=
  if s.time.sampleDue then
    .next (takeSample reading.toNat
      { s with time := s.time.seen (s.time.lastCrossing + s.time.working.sampleDelay) })
  else .next s

/-- PLUG_READ_COMPLETE: cell 128 of a read in progress sampled (R24). -/
def execPlugReadComplete (cells : BitVec 128) (s : State) : Result :=
  match s.compat.reading with
  | none => .next s
  | some _ =>
    let s1 := { s with time := s.time.seen (s.compat.readStart + Config.readMicros) }
    .next (settle s1 (completeRead cells s1))

end Sys2Proof.Machine
end

