-- ==== Sys2Proof/Machine/TimerEvents.lean ====
section
/-! DEFINITION. Machine/TimerEvents.lean: the meanings of the events that one item of a block gives at a tick or at a
sample: the channels' intervals, the green timers, the detectors, the preempts, the Monitor and the unit mode. The
tick itself takes every one of them that comes about at it; a row sent on its own is that item's share of the coming
tick, and changes nothing in a state in which that share is not the event (log entry 5). -/

namespace Sys2Proof.Machine

/-! ### Channel intervals (R7 to R9) -/

/-- Whether a channel's interval of an indication expires at the coming tick (R4). -/
def State.expires (s : State) (c : Chan) (i : Indication) : Bool :=
  s.unit.mode.isControl && (s.chan c).ind == i && (s.chan c).timer == 0

/-- AMBER_EXPIRY (R7). -/
def execAmberExpiry (c : Chan) (s : State) : Result :=
  if s.expires c .amber then .next (settle s (expireChannel c s)) else .next s

/-- RED_CLEARANCE_EXPIRY (R7). -/
def execRedClearanceExpiry (c : Chan) (s : State) : Result :=
  if s.expires c .redClear then .next (settle s (expireChannel c s)) else .next s

/-- WALK_EXPIRY (R8). -/
def execWalkExpiry (c : Chan) (s : State) : Result :=
  if s.expires c .green && (s.chan c).kind == .pedestrian then .next (settle s (expireChannel c s)) else .next s

/-- PED_CLEAR_EXPIRY (R9). -/
def execPedClearExpiry (c : Chan) (s : State) : Result :=
  if s.expires c .pedClear then .next (settle s (expireChannel c s)) else .next s

/-! ### Step and green timers (R49, R69, R72, R73) -/

/-- Whether the current step is a FIXED one in FULL_GREEN or RESTING. -/
def State.fixedRuns (s : State) : Bool :=
  s.seq.current && (s.seq.phase == .fullGreen || s.seq.phase == .resting) &&
    (match s.record with
     | some r => r.termination == .fixed
     | none => false)

/-- STEP_TIMER_EXPIRY (R49). -/
def execStepTimerExpiry (s : State) : Result :=
  if s.unit.mode = .controlled ∧ s.fixedRuns = true ∧ s.seq.stepTimer = 1 then
    .next (settle s { s with seq := { s.seq with stepTimer := 0 } })
  else .next s

/-- A vehicle channel whose green timers run (R69). -/
def State.timesGreen (s : State) (c : Chan) : Bool :=
  s.unit.mode != .powerOut && (s.chan c).kind == .vehicle && (s.chan c).ind == .green

/-- INITIAL_GREEN_RUN_OUT (R69). -/
def execInitialGreenRunOut (c : Chan) (s : State) : Result :=
  if s.timesGreen c = true ∧ (s.green c).initial = 1 then
    .next (settle s (s.setGreen c { s.green c with initial := 0 }))
  else .next s

/-- Whether a channel's gap timer reaches 0 at the coming tick with no extending detector occupied (R72). -/
def State.gapEnds (s : State) (c : Chan) : Bool :=
  s.timesGreen c && !has s.extended c && 0 < (s.green c).gap &&
    gapTick (allowedGap (s.chan c).activeSet ((s.green c).clock.map (fun n => min 65535 (n + 1)))) false
      (s.green c).gap == 0

/-- GAP_OUT (R72). -/
def execGapOut (c : Chan) (s : State) : Result :=
  if s.gapEnds c then .next (settle s (s.setGreen c { s.green c with gap := 0 })) else .next s

/-- MAX_OUT (R73). -/
def execMaxOut (c : Chan) (s : State) : Result :=
  if s.timesGreen c = true ∧ s.pressed c = true ∧ (s.green c).maxTimer = 1 then
    .next (settle s (s.setGreen c { s.green c with maxTimer := 0, maxOut := true }))
  else .next s

/-! ### Detectors (R84, R90, R95 to R97) -/

/-- DETECTOR_LEVEL_CHANGE: the third differing sample of one detector (R84). -/
def execDetectorLevelChange (d : Det) (s : State) : Result :=
  if (s.det d).run = 2 then .next (settle s (detectorLevels (maskOf (fun j => j == d)) s)) else .next s

/-- DELAY_REACHED (R90, R91). -/
def execDelayReached (d : Det) (s : State) : Result :=
  if s.detOccupied d = true ∧ (s.det d).delayTimer + 1 = (s.det d).delay then
    .next (settle s (handBegun s (s.setDet d { s.det d with delayTimer := (s.det d).delay })))
  else .next s

/-- Whether a detector's presence passes its limit at the coming tick (R95). -/
def Detector.sticks (r : Detector) : Bool :=
  r.mode != .off && r.fault == .ok && r.level && r.maxPresence != 0 &&
    r.maxPresence * Config.minute < min Config.presenceTop (r.presence + 1)

/-- STUCK_ON (R95, R98). -/
def execStuckOn (d : Det) (s : State) : Result :=
  let r := s.det d
  if r.sticks then
    .next (settle s (setFault d .stuckOn
      (s.setDet d { r with presence := min Config.presenceTop (r.presence + 1) })))
  else .next s

/-- Whether a detector's absence passes its limit at the coming tick (R96). -/
def Detector.dies (r : Detector) : Bool :=
  r.mode != .off && r.fault == .ok && !r.level && r.maxAbsence != 0 &&
    r.maxAbsence * Config.minute < min Config.presenceTop (r.absence + 1)

/-- NO_ACTIVITY (R96, R98). -/
def execNoActivity (d : Det) (s : State) : Result :=
  let r := s.det d
  if r.dies then
    .next (settle s (setFault d .noActivity
      (s.setDet d { r with absence := min Config.presenceTop (r.absence + 1) })))
  else .next s

/-- Whether the coming on-edge of a detector brings its window count to the chatter limit (R97). -/
def Detector.chatters (r : Detector) : Bool :=
  r.mode != .off && r.fault == .ok && !r.level && r.run == 2 && r.chatterLimit ≤ min 255 (r.window + 1)

/-- CHATTER: the window count raised and the fault (R97, R98). -/
def execChatter (d : Det) (s : State) : Result :=
  let r := s.det d
  if r.chatters then
    .next (settle s (setFault d .chatter (s.setDet d { r with window := min 255 (r.window + 1) })))
  else .next s

/-- CHATTER_WINDOW_END (R97). -/
def execChatterWindowEnd (s : State) : Result :=
  if (s.time.tenth + 1).toNat % 10 = 0 then .next (settle s (handBegun s (endWindows s))) else .next s

/-! ### Preempts (R104, R105, R110, R111) -/

/-- PREEMPT_INPUT_LEVEL_CHANGE (R104, R105). -/
def execPreemptInputLevelChange (p : Pre) (s : State) : Result :=
  if (s.pre p).run = 2 then .next (settle s (s.setPre p (s.pre p).turn)) else .next s

/-- Whether a preemption input becomes stuck at the coming tick (R104). -/
def Preempt.sticks (p : Preempt) : Bool :=
  p.level && !p.stuck && p.cfg.maxPresence * Config.minute < min Config.presenceTop (p.presence + 1)

/-- PREEMPT_STUCK (R104). -/
def execPreemptStuck (p : Pre) (s : State) : Result :=
  let r := s.pre p
  if r.sticks then
    .next (settle s (s.setPre p { r with presence := min Config.presenceTop (r.presence + 1), stuck := true }))
  else .next s

/-- PREEMPT_DELAY_EXPIRY (R105). -/
def execPreemptDelayExpiry (p : Pre) (s : State) : Result :=
  let r := s.pre p
  if s.unit.mode ≠ .powerOut ∧ r.state = .delaying ∧ r.active = true ∧ r.delayTimer = 1 then
    .next (settle s (s.setPre p { r with delayTimer := 0 }))
  else .next s

/-- The slot holder put to a service timer of 0. -/
def endService (s : State) : State :=
  match s.arb.holder with
  | some h => s.setPre h { s.pre h with serviceTimer := 0 }
  | none => s

/-- Whether the slot holder is in a service state with a service timer of 1 in CONTROLLED (R110, R111). -/
def State.serviceEnds (s : State) (k : PreemptState) : Bool :=
  s.unit.mode == .controlled &&
    (match s.arb.holder with
     | some h => (s.pre h).state == k && (s.pre h).serviceTimer == 1
     | none => false)

/-- TRACK_END (R110). -/
def execTrackEnd (s : State) : Result :=
  if s.serviceEnds .track then .next (settle s (endService s)) else .next s

/-- Whether the slot holder's input is inactive. -/
def State.holderInactive (s : State) : Bool :=
  match s.arb.holder with
  | some h => !(s.pre h).active
  | none => false

/-- DWELL_END: the dwell timer at 0 at the full green of the dwell set, with the input inactive (R111). -/
def execDwellEnd (s : State) : Result :=
  if s.serviceEnds .dwell = true ∧ s.seq.transition.isNone = true ∧ s.holderInactive = true then
    .next (settle s (endService s))
  else .next s

/-! ### The Monitor and the unit mode (R126, R138, R139, R141) -/

/-- Whether a channel's red-fail timer reaches the red fail time at the coming tick (R126). -/
def State.redFailsNext (s : State) (c : Chan) : Bool :=
  s.unit.mode.isControl && (s.chan c).redWatched && (s.time.category == .normal || s.time.category == .high) &&
    (s.mon.channels.get c).lastRed == .dark && s.mon.redFailTime ≤ (s.mon.channels.get c).redTimer + 1

/-- The red-fail timers of the channels of a set raised by one tick (R126). -/
def raiseRedTimers (m : ChanSet) (s : State) : State :=
  { s with
    mon := { s.mon with
      channels := vmap (fun c w => if has m c then { w with redTimer := w.redTimer + 1 } else w) s.mon.channels } }

/-- RED_FAIL of a channel that fails at the coming tick: the tick raises it on every channel that fails with it, the lowest
writing the record and the others setting the additional-fault flag (R126, R131, R132). The record takes the tenth counter
as it stands, before the coming tick raises it (log entry 44). -/
def execRedFail (c : Chan) (s : State) : Result :=
  let failing := maskOf s.redFailsNext
  if has failing c then .next (settle s (monitorNotice (redFindings failing) (raiseRedTimers failing s)))
  else .next s

/-- START_FLASH_TIMER_EXPIRY (R138). -/
def execStartFlashTimerExpiry (s : State) : Result :=
  if s.unit.mode = .startFlash ∧ s.unit.startFlashTimer = 1 then
    .next { s with unit := { s.unit with startFlashTimer := 0 } }
  else .next s

/-- ENTRY_RED_END (R141). -/
def execEntryRedEnd (s : State) : Result :=
  if s.unit.mode = .entryRed ∧ s.unit.entryRedTimer = 1 then
    .next (settle s (enterControlled { s with unit := { s.unit with entryRedTimer := 0 } }))
  else .next s

/-- MANUAL_FLASH_SWITCH_EDGE: the tenth differing sample (R139). -/
def execManualFlashSwitchEdge (s : State) : Result :=
  if s.unit.switchRun = 9 then .next (settle s (turnSwitch s)) else .next s

end Sys2Proof.Machine
end

