-- ==== Sys2Proof/Machine/ToneSignEvents.lean ====
section
/-! DEFINITION. Machine/ToneSignEvents.lean: the meanings of the events of the Tone Unit, the Sign Chain Port and the
Cabinet Link Port (R167 to R169, R174 to R176, R181 to R187). -/

namespace Sys2Proof.Machine

/-! ### Tone lines (R167 to R169) -/

/-- One line of the Tone Unit replaced. -/
def State.setLine (s : State) (i : Line) (l : ToneLine) : State := { s with tones := vset s.tones i l }

/-- LOCATOR_TICK: the locator cycle returns to 0, its tick sounding unless a confirm runs; a confirm that ends at the
same millisecond has ended when the tick is judged, and the row takes that end with it (R167, R170; log entry 47). -/
def execLocatorTick (i : Line) (s : State) : Result :=
  let l := s.line i
  if s.lineActive i = true ∧ l.locatorCycle = some (Config.locatorCycle - 1) then
    let confirm := if l.confirmTimer = 1 then 0 else l.confirmTimer
    .next (s.setLine i
      (ToneLine.arbitrate s.lamps.dimOn
        { l with locatorCycle := some 0, confirmTimer := confirm, tickOpen := confirm == 0 }))
  else .next s

/-- WALK_TICK: the walk cycle returns to 0 (R168). -/
def execWalkTick (i : Line) (s : State) : Result :=
  let l := s.line i
  if s.lineActive i = true ∧ l.walkCycle = some (Config.walkCycle - 1) then
    .next (s.setLine i (ToneLine.arbitrate s.lamps.dimOn { l with walkCycle := some 0 }))
  else .next s

/-- CONFIRM_END: the confirm timer reaches 0 (R169). -/
def execConfirmEnd (i : Line) (s : State) : Result :=
  let l := s.line i
  if s.lineActive i = true ∧ l.confirmTimer = 1 then
    .next (s.setLine i (ToneLine.arbitrate s.lamps.dimOn { l with confirmTimer := 0 }))
  else .next s

/-! ### The sign chain (R174 to R176) -/

/-- SIGN_PERIOD_EXPIRY (R175). -/
def execSignPeriodExpiry (s : State) : Result :=
  if 0 < s.signs.count ∧ s.unit.mode ≠ .powerOut ∧ s.signs.timer ≤ 1 then
    .next { s with signs := { s.signs with timer := s.signs.period, pendingExchange := true } }
  else .next s

/-- SIGN_EXCHANGE_START (R175). -/
def execSignExchangeStart (s : State) : Result := if s.exchangeDue then .next (startExchange s) else .next s

/-- SIGN_EXCHANGE_END (R174, R176). -/
def execSignExchangeEnd (received : Vector Word 9) (s : State) : Result :=
  if s.signs.shifting then .next (endExchange received s) else .next s

/-! ### The link (R181 to R187) -/

/-- RECEIVE_CHARACTER (R182). -/
def execReceiveCharacter (data : Byte) (parity stop : Bool) (s : State) : Result := .next (receive data parity stop s)

/-- GAP_ERROR (R182). -/
def execGapError (s : State) : Result := .next (gapExceeded s)

/-- UNKNOWN_KIND: a frame of a kind that is no command kind passes its check; a frame that is not such a one does not
come about as this row (R184). -/
def execUnknownKind (kind tag : Byte) (fields : List Byte) (s : State) : Result :=
  if (isCommandKind kind || !fieldsFit fields) = true then .next s
  else
    let f : Frame := { kind := kind, tag := tag, fields := fields }
    .next (deliver f (fun t => (t, unknownReply f)) s)

/-- FRAME_SENT (R185). -/
def execFrameSent (s : State) : Result := .next (endFrame s)

/-- SEND_REPORT (R185). -/
def execSendReport (s : State) : Result := .next (startReport s)

/-- STATUS_TIMER_EXPIRY (R186). -/
def execStatusTimerExpiry (s : State) : Result :=
  if 0 < s.link.statusPeriod ∧ s.link.statusTimer ≤ 1 then
    .next (flag .status { s with link := { s.link with statusTimer := s.link.statusPeriod * 10 } })
  else .next s

/-- SUPERVISION_EXPIRY, with its link loss notice (R187, R144). -/
def execSupervisionExpiry (s : State) : Result :=
  if s.link.supervision = 1 then .next (settle s (linkLoss (loseLink s))) else .next s

end Sys2Proof.Machine
end

