-- ==== Sys2Proof/Machine/HostCommands.lean ====
section
/-! DEFINITION. Machine/HostCommands.lean: the meanings of the thirty commands of the host (Table 13-4). Each is the
arrival at the Cabinet Link Port of the command's whole frame, which has passed its check (R183, R187): its owning
block serves it at once when both slots are free for it, and its one reply is placed and begun (R184, R185). -/

namespace Sys2Proof.Machine

/-- A host command: its frame arrives, and its taking is the service by the owning block (R183, R184). -/
def command (f : Frame) (service : State → Served) (s : State) : Result :=
  .next (deliver f (fun t => replyTo f (service t)) s)

/-- IDENTIFY (R188). -/
def execIdentify (tag : Byte) (s : State) : Result :=
  command { kind := Config.kindIdentify, tag := tag, fields := [] } serveIdentify s

/-- STATUS (R188). -/
def execStatus (tag : Byte) (s : State) : Result :=
  command { kind := Config.kindStatus, tag := tag, fields := [] } serveStatus s

/-- SET LINK (R189). -/
def execSetLink (tag : Byte) (supervision : Byte) (enable : Word) (period : Byte) (s : State) : Result :=
  command { kind := Config.kindSetLink, tag := tag, fields := [supervision] ++ wordBytes enable ++ [period] }
    (serveSetLink supervision enable period) s

/-- SET CHANNEL (R17). -/
def execSetChannel (tag : Byte) (channel typeCode flags recallCode : Byte) (timing : TimingFields) (s : State) : Result :=
  command { kind := Config.kindSetChannel, tag := tag, fields := [channel, typeCode, flags, recallCode] ++ timing.bytes }
    (serveSetChannel channel typeCode flags recallCode timing) s

/-- READ CHANNEL (R19). -/
def execReadChannel (tag : Byte) (channel : Byte) (s : State) : Result :=
  command { kind := Config.kindReadChannel, tag := tag, fields := [channel] } (serveReadChannel channel) s

/-- SET DIMMING (R15). -/
def execSetDimming (tag : Byte) (on k : Byte) (s : State) : Result :=
  command { kind := Config.kindSetDimming, tag := tag, fields := [on, k] } (serveSetDimming on k) s

/-- LOAD COMPATIBILITY (R32). -/
def execLoadCompatibility (tag : Byte) (rows : Vector ChanSet 16) (s : State) : Result :=
  command { kind := Config.kindLoadCompatibility, tag := tag, fields := rowBytes rows }
    (serveLoadCompatibility rows) s

/-- READ COMPATIBILITY (R33). -/
def execReadCompatibility (tag : Byte) (s : State) : Result :=
  command { kind := Config.kindReadCompatibility, tag := tag, fields := [] } serveReadCompatibility s

/-- QUEUE STEP (R36). -/
def execQueueStep (tag : Byte) (mode skip : Byte) (greenSet : ChanSet) (stepTime : Word) (s : State) : Result :=
  command { kind := Config.kindQueueStep, tag := tag, fields := [mode, skip] ++ wordBytes greenSet ++ wordBytes stepTime }
    (serveQueueStep mode skip greenSet stepTime) s

/-- CLEAR QUEUE (R54). -/
def execClearQueue (tag : Byte) (s : State) : Result :=
  command { kind := Config.kindClearQueue, tag := tag, fields := [] } serveClearQueue s

/-- SET QUEUE MODE (R55). -/
def execSetQueueMode (tag : Byte) (mode : Byte) (s : State) : Result :=
  command { kind := Config.kindSetQueueMode, tag := tag, fields := [mode] } (serveSetQueueMode mode) s

/-- HOLD (R52). -/
def execHold (tag : Byte) (on : Byte) (s : State) : Result :=
  command { kind := Config.kindHold, tag := tag, fields := [on] } (serveHold on) s

/-- FORCE END (R53). -/
def execForceEnd (tag : Byte) (s : State) : Result :=
  command { kind := Config.kindForceEnd, tag := tag, fields := [] } serveForceEnd s

/-- READ QUEUE (R56). -/
def execReadQueue (tag : Byte) (first : Byte) (s : State) : Result :=
  command { kind := Config.kindReadQueue, tag := tag, fields := [first] } (serveReadQueue first) s

/-- PLACE CALL (R66). -/
def execPlaceCall (tag : Byte) (mask : ChanSet) (s : State) : Result :=
  command { kind := Config.kindPlaceCall, tag := tag, fields := wordBytes mask } (servePlaceCall mask) s

/-- SET DETECTOR (R100). -/
def execSetDetector (tag : Byte) (f : DetectorFields) (s : State) : Result :=
  command { kind := Config.kindSetDetector, tag := tag, fields := f.bytes } (serveSetDetector f) s

/-- READ DETECTORS (R94). -/
def execReadDetectors (tag : Byte) (first count clear : Byte) (s : State) : Result :=
  command { kind := Config.kindReadDetectors, tag := tag, fields := [first, count, clear] }
    (serveReadDetectors first count clear) s

/-- SET PREEMPT (R103). -/
def execSetPreempt (tag : Byte) (f : PreemptFields) (s : State) : Result :=
  command { kind := Config.kindSetPreempt, tag := tag, fields := f.bytes } (serveSetPreempt f) s

/-- READ PREEMPT (R117). -/
def execReadPreempt (tag : Byte) (preempt : Byte) (s : State) : Result :=
  command { kind := Config.kindReadPreempt, tag := tag, fields := [preempt] } (serveReadPreempt preempt) s

/-- READ FAULT (R133). -/
def execReadFault (tag : Byte) (s : State) : Result :=
  command { kind := Config.kindReadFault, tag := tag, fields := [] } serveReadFault s

/-- ENTER CONTROL (R140). -/
def execEnterControl (tag : Byte) (s : State) : Result :=
  command { kind := Config.kindEnterControl, tag := tag, fields := [] } serveEnterControl s

/-- ENTER FLASH (R142). -/
def execEnterFlash (tag : Byte) (s : State) : Result :=
  command { kind := Config.kindEnterFlash, tag := tag, fields := [] } serveEnterFlash s

/-- RESET FAULT (R146). -/
def execResetFault (tag : Byte) (s : State) : Result :=
  command { kind := Config.kindResetFault, tag := tag, fields := [] } serveResetFault s

/-- SET START (R150). -/
def execSetStart (tag : Byte) (startFlash entryRed shortOutage redFailTime : Byte) (s : State) : Result :=
  command { kind := Config.kindSetStart, tag := tag, fields := [startFlash, entryRed, shortOutage, redFailTime] }
    (serveSetStart startFlash entryRed shortOutage redFailTime) s

/-- SET TIMEBASE (R160). -/
def execSetTimebase (tag : Byte) (nominal : Byte) (s : State) : Result :=
  command { kind := Config.kindSetTimebase, tag := tag, fields := [nominal] } (serveSetTimebase nominal) s

/-- SET SUPPLY (R161). -/
def execSetSupply (tag : Byte) (dropout sag high : Byte) (s : State) : Result :=
  command { kind := Config.kindSetSupply, tag := tag, fields := [dropout, sag, high] }
    (serveSetSupply dropout sag high) s

/-- SET TONE (R164). -/
def execSetTone (tag : Byte) (f : ToneFields) (s : State) : Result :=
  command { kind := Config.kindSetTone, tag := tag, fields := f.bytes } (serveSetTone f) s

/-- SET SIGN CHAIN (R177). -/
def execSetSignChain (tag : Byte) (count period gap : Byte) (s : State) : Result :=
  command { kind := Config.kindSetSignChain, tag := tag, fields := [count, period, gap] }
    (serveSetSignChain count period gap) s

/-- SET SIGN (R172). -/
def execSetSign (tag : Byte) (f : SignFields) (s : State) : Result :=
  command { kind := Config.kindSetSign, tag := tag, fields := f.bytes } (serveSetSign f) s

/-- READ SIGNS (R179). -/
def execReadSigns (tag : Byte) (s : State) : Result :=
  command { kind := Config.kindReadSigns, tag := tag, fields := [] } serveReadSigns s

end Sys2Proof.Machine
end

