-- ==== Sys2Proof/Machine/Dispatch.lean ====
section
/-! DEFINITION. Machine/Dispatch.lean: one arm for each command. -/

namespace Sys2Proof.Machine

def exec (i : Instr) (s : State) : Host.Outcome State Fault Refusal :=
  match i with
  | .hardwareReset straps => Sys2Proof.Machine.execHardwareReset straps s
  | .millisecond => Sys2Proof.Machine.execMillisecond s
  | .scanTick detInputs preInputs mfs => Sys2Proof.Machine.execScanTick detInputs preInputs mfs s
  | .crystalTenth => Sys2Proof.Machine.execCrystalTenth s
  | .mainsTenth => Sys2Proof.Machine.execMainsTenth s
  | .realCrossingEvent moment => Sys2Proof.Machine.execRealCrossingEvent moment s
  | .syntheticCrossingEvent => Sys2Proof.Machine.execSyntheticCrossingEvent s
  | .monitorSample sense => Sys2Proof.Machine.execMonitorSample sense s
  | .supplySample reading => Sys2Proof.Machine.execSupplySample reading s
  | .plugReadComplete cells => Sys2Proof.Machine.execPlugReadComplete cells s
  | .amberExpiry c => Sys2Proof.Machine.execAmberExpiry c s
  | .redClearanceExpiry c => Sys2Proof.Machine.execRedClearanceExpiry c s
  | .walkExpiry c => Sys2Proof.Machine.execWalkExpiry c s
  | .pedClearExpiry c => Sys2Proof.Machine.execPedClearExpiry c s
  | .stepTimerExpiry => Sys2Proof.Machine.execStepTimerExpiry s
  | .initialGreenRunOut c => Sys2Proof.Machine.execInitialGreenRunOut c s
  | .gapOut c => Sys2Proof.Machine.execGapOut c s
  | .maxOut c => Sys2Proof.Machine.execMaxOut c s
  | .detectorLevelChange d => Sys2Proof.Machine.execDetectorLevelChange d s
  | .delayReached d => Sys2Proof.Machine.execDelayReached d s
  | .stuckOn d => Sys2Proof.Machine.execStuckOn d s
  | .noActivity d => Sys2Proof.Machine.execNoActivity d s
  | .chatter d => Sys2Proof.Machine.execChatter d s
  | .chatterWindowEnd => Sys2Proof.Machine.execChatterWindowEnd s
  | .preemptInputLevelChange p => Sys2Proof.Machine.execPreemptInputLevelChange p s
  | .preemptStuck p => Sys2Proof.Machine.execPreemptStuck p s
  | .preemptDelayExpiry p => Sys2Proof.Machine.execPreemptDelayExpiry p s
  | .trackEnd => Sys2Proof.Machine.execTrackEnd s
  | .dwellEnd => Sys2Proof.Machine.execDwellEnd s
  | .redFail c => Sys2Proof.Machine.execRedFail c s
  | .startFlashTimerExpiry => Sys2Proof.Machine.execStartFlashTimerExpiry s
  | .entryRedEnd => Sys2Proof.Machine.execEntryRedEnd s
  | .manualFlashSwitchEdge => Sys2Proof.Machine.execManualFlashSwitchEdge s
  | .locatorTick l => Sys2Proof.Machine.execLocatorTick l s
  | .walkTick l => Sys2Proof.Machine.execWalkTick l s
  | .confirmEnd l => Sys2Proof.Machine.execConfirmEnd l s
  | .signPeriodExpiry => Sys2Proof.Machine.execSignPeriodExpiry s
  | .signExchangeStart => Sys2Proof.Machine.execSignExchangeStart s
  | .signExchangeEnd received => Sys2Proof.Machine.execSignExchangeEnd received s
  | .receiveCharacter data parity stop => Sys2Proof.Machine.execReceiveCharacter data parity stop s
  | .gapError => Sys2Proof.Machine.execGapError s
  | .unknownKind kind tag fields => Sys2Proof.Machine.execUnknownKind kind tag fields s
  | .frameSent => Sys2Proof.Machine.execFrameSent s
  | .sendReport => Sys2Proof.Machine.execSendReport s
  | .statusTimerExpiry => Sys2Proof.Machine.execStatusTimerExpiry s
  | .supervisionExpiry => Sys2Proof.Machine.execSupervisionExpiry s
  | .identify tag => Sys2Proof.Machine.execIdentify tag s
  | .status tag => Sys2Proof.Machine.execStatus tag s
  | .setLink tag supervision enable period => Sys2Proof.Machine.execSetLink tag supervision enable period s
  | .setChannel tag channel typeCode flags recallCode timing => Sys2Proof.Machine.execSetChannel tag channel typeCode flags recallCode timing s
  | .readChannel tag channel => Sys2Proof.Machine.execReadChannel tag channel s
  | .setDimming tag on k => Sys2Proof.Machine.execSetDimming tag on k s
  | .loadCompatibility tag rows => Sys2Proof.Machine.execLoadCompatibility tag rows s
  | .readCompatibility tag => Sys2Proof.Machine.execReadCompatibility tag s
  | .queueStep tag mode skip greenSet stepTime => Sys2Proof.Machine.execQueueStep tag mode skip greenSet stepTime s
  | .clearQueue tag => Sys2Proof.Machine.execClearQueue tag s
  | .setQueueMode tag mode => Sys2Proof.Machine.execSetQueueMode tag mode s
  | .hold tag on => Sys2Proof.Machine.execHold tag on s
  | .forceEnd tag => Sys2Proof.Machine.execForceEnd tag s
  | .readQueue tag first => Sys2Proof.Machine.execReadQueue tag first s
  | .placeCall tag mask => Sys2Proof.Machine.execPlaceCall tag mask s
  | .setDetector tag f => Sys2Proof.Machine.execSetDetector tag f s
  | .readDetectors tag first count clear => Sys2Proof.Machine.execReadDetectors tag first count clear s
  | .setPreempt tag f => Sys2Proof.Machine.execSetPreempt tag f s
  | .readPreempt tag preempt => Sys2Proof.Machine.execReadPreempt tag preempt s
  | .readFault tag => Sys2Proof.Machine.execReadFault tag s
  | .enterControl tag => Sys2Proof.Machine.execEnterControl tag s
  | .enterFlash tag => Sys2Proof.Machine.execEnterFlash tag s
  | .resetFault tag => Sys2Proof.Machine.execResetFault tag s
  | .setStart tag startFlash entryRed shortOutage redFailTime => Sys2Proof.Machine.execSetStart tag startFlash entryRed shortOutage redFailTime s
  | .setTimebase tag nominal => Sys2Proof.Machine.execSetTimebase tag nominal s
  | .setSupply tag dropout sag high => Sys2Proof.Machine.execSetSupply tag dropout sag high s
  | .setTone tag f => Sys2Proof.Machine.execSetTone tag f s
  | .setSignChain tag count period gap => Sys2Proof.Machine.execSetSignChain tag count period gap s
  | .setSign tag f => Sys2Proof.Machine.execSetSign tag f s
  | .readSigns tag => Sys2Proof.Machine.execReadSigns tag s

end Sys2Proof.Machine
end

