-- ==== Sys2Proof/Safety.lean ====
section
/-! DEFINITION. Safety.lean: the terms in which the statements about the FJ416 are made: when its link is free to
answer, what an answered state is, and the properties of a state that every step keeps. -/

namespace Sys2Proof.Machine

/-! ### The link of a command that is answered at once -/

/-- Both slots of the link are empty and its transmitter is IDLE (R183 to R185). -/
def State.linkFree (s : State) : Prop := s.link.held = none ∧ s.link.reply = none ∧ s.link.sending = none

/-- A state whose transmitter has just begun a reply, with the reply slot empty (R185). -/
def answered (s : State) (reply : Frame) : State :=
  { s with link := { s.link with sending := some reply, reply := none } }

/-! ### Released indications (R44) -/

/-- A released indication: GREEN, AMBER or PED_CLEAR (R44). -/
def Indication.released : Indication → Bool
  | .green | .amber | .pedClear => true
  | .dark | .red | .redClear | .flash => false

/-- Whether an indication that may be absent is a released one. -/
def heldReleased (i : Option Indication) : Bool := (i.map Indication.released).getD false

/-- No two channels that the in-use table marks incompatible are both released, now or, through an outage that owes no
Compatibility notice, at the resume; outside the control modes nothing is released (R44, R29). -/
structure State.ReleaseSafe (s : State) : Prop where
  controlOnly : s.unit.mode.isControl = false → ∀ c, (s.chan c).ind.released = false
  pairs : ∀ i j, compatible s.compat.inUse i j = false → ¬ ((s.chan i).ind.released = true ∧ (s.chan j).ind.released = true)
  heldOnly : s.unit.mode = .powerOut → s.standingMode.isControl = false → ∀ c, heldReleased (s.chan c).held = false
  heldPairs : s.unit.mode = .powerOut → s.compat.owed = none → ∀ i j, compatible s.compat.inUse i j = false →
    ¬ (heldReleased (s.chan i).held = true ∧ heldReleased (s.chan j).held = true)

/-! ### Dark modes and the relay (R12, R136) -/

/-- FTR is energised exactly in the four modes of R136. -/
def State.RelaySafe (s : State) : Prop := s.unit.ftr = s.unit.mode.relay

/-- While the external flasher holds the heads every drive is low and every channel is DARK with no lamp staged or
applied, and an outage that remembers such a mode holds no other indication (R12, R136, R10, R20). -/
structure State.DarkSafe (s : State) : Prop where
  drives : s.unit.mode.relay = false → s.lamps.drives = 0
  chans : s.unit.mode.relay = false → ∀ c,
    (s.chan c).ind = .dark ∧ (s.chan c).staged = Pattern.dark ∧ (s.chan c).applied = Pattern.dark
  held : s.unit.mode = .powerOut → s.standingMode.relay = false → ∀ c, (s.chan c).held.getD .dark = .dark

/-! ### The outage (R147, R148) -/

/-- The unit is in POWER_OUT exactly while the supply category is DROPOUT, and remembers a mode exactly then (R147,
R148, R135). -/
structure State.OutageSafe (s : State) : Prop where
  category : s.unit.mode = .powerOut ↔ s.time.category = .dropout
  remembers : s.unit.mode = .powerOut → ∃ m, s.unit.remembered = some m ∧ m ≠ .powerOut
  forgets : s.unit.mode ≠ .powerOut → s.unit.remembered = none

/-! ### The queue (R36) -/

/-- At most 16 records, each green set of used channels pairwise compatible under the in-use table (R36, R35). -/
def State.QueueSafe (s : State) : Prop :=
  s.seq.queue.length ≤ Config.queueCapacity ∧
    ∀ r ∈ s.seq.queue, pairwiseCompatible s.compat.inUse r.greenSet = true ∧ r.greenSet &&& ~~~ s.usedMask = 0

/-! ### Preemption (R106) -/

/-- Only the slot holder is in ENTRY, TRACK, DWELL or EXIT (R106). -/
def State.SlotSafe (s : State) : Prop := ∀ p, (s.pre p).serving = true → s.arb.holder = some p

/-! ### Calls (R62) -/

/-- The call latch of an UNUSED channel is clear (R62). -/
def State.LatchSafe (s : State) : Prop := ∀ c, (s.chan c).kind = .unused → (s.green c).latch = false

/-! ### Timing sets (R2) -/

/-- Every field in its range of Table 1-2, with the three relations that the steps of R2 leave. -/
structure Timing.InRange (t : Timing) : Prop where
  minGreen : 10 ≤ t.minGreen ∧ t.minGreen ≤ 2550
  addedInitial : t.addedInitial ≤ 255
  maxInitial : t.maxInitial ≤ 2550
  maxGap : t.maxGap ≤ 99
  minGap : t.minGap ≤ 99
  tbr : t.tbr ≤ 2550
  ttr : t.ttr ≤ 2550
  maxGreen : 10 ≤ t.maxGreen ∧ t.maxGreen ≤ 2550
  amber : 30 ≤ t.amber ∧ t.amber ≤ 100
  redClear : t.redClear ≤ 60
  walk : 10 ≤ t.walk ∧ t.walk ≤ 2550
  pedClear : 30 ≤ t.pedClear ∧ t.pedClear ≤ 2550
  greens : t.minGreen ≤ t.maxGreen
  initials : t.maxInitial ≤ t.maxGreen
  gaps : t.minGap ≤ t.maxGap

/-- Both timing sets of every channel in range (R2). -/
def State.TimingSafe (s : State) : Prop := ∀ c, (s.chan c).pendingSet.InRange ∧ (s.chan c).activeSet.InRange

/-! ### Settings (R15, R36, R100, R103, R150, R161, R164, R172, R177, R189) -/

/-- The step time of a record suits its termination mode (R36). -/
def StepRecord.timeSafe (r : StepRecord) : Prop :=
  match r.termination with
  | .fixed => ∃ n, r.stepTime = some n ∧ 10 ≤ n ∧ n ≤ 6000
  | .actuated => r.stepTime = none

/-- Every stored setting lies in its range. -/
structure State.SettingsSafe (s : State) : Prop where
  timing : s.TimingSafe
  dim : 4 ≤ s.lamps.dimLevel ∧ s.lamps.dimLevel ≤ 8
  steps : ∀ r ∈ s.seq.queue, r.timeSafe ∧ 1 ≤ r.serial ∧ r.serial ≤ 65535
  serial : 1 ≤ s.seq.nextSerial ∧ s.seq.nextSerial ≤ 65535
  chatter : ∀ d, 2 ≤ (s.det d).chatterLimit ∧ (s.det d).chatterLimit ≤ 50
  detectors : ∀ d, (s.det d).delay ≤ 255 ∧ (s.det d).maxPresence ≤ 255 ∧ (s.det d).maxAbsence ≤ 255
  preempts : ∀ p, (s.pre p).cfg.priority ≤ 3 ∧ (s.pre p).cfg.trackTime ≤ 2550 ∧ 10 ≤ (s.pre p).cfg.dwellMin ∧
    (s.pre p).cfg.dwellMin ≤ 2550 ∧ 1 ≤ (s.pre p).cfg.maxPresence ∧ (s.pre p).cfg.maxPresence ≤ 255
  limits : ∀ p, (s.pre p).cfg.delay ≤ 255 ∧ (s.pre p).cfg.minGreen ≤ 255 ∧ (s.pre p).cfg.pedClear ≤ 255
  redFail : 10 ≤ s.mon.redFailTime ∧ s.mon.redFailTime ≤ 25
  start : 30 ≤ s.unit.startFlashTime ∧ s.unit.startFlashTime ≤ 255 ∧ 20 ≤ s.unit.entryRedTime ∧
    s.unit.entryRedTime ≤ 255 ∧ s.unit.shortOutage ≤ 20
  supply : 60 ≤ s.time.dropout ∧ s.time.dropout + 10 ≤ s.time.sag ∧ 120 ≤ s.time.sag ∧ s.time.sag ≤ 195 ∧
    205 ≤ s.time.high ∧ s.time.high ≤ 250
  tones : ∀ i, (s.line i).frequency ≤ 7 ∧ (s.line i).dayVolume ≤ 7 ∧ (s.line i).nightVolume ≤ 7
  chain : s.signs.count ≤ 8 ∧ 2 ≤ s.signs.period ∧ s.signs.period ≤ 255 ∧
    s.signs.gap ∈ [0, 1, 2, 4, 8, 16, 32, 64]
  supervision : 5 ≤ s.link.supervisionTime ∧ s.link.supervisionTime ≤ 255

/-! ### The sign chain (R171, R175, R177) -/

/-- A chain of no modules makes no exchange and its three outputs stay low (R171). -/
def State.ChainSafe (s : State) : Prop :=
  s.signs.count = 0 →
    s.signs.shifting = false ∧ s.signs.sck = false ∧ s.signs.sdo = false ∧ s.signs.slat = false

/-! ### Tenth ticks and detector edges (R152, R157, R84) -/

/-- A row that is a tenth tick in this state: a crystal tenth while the mains does not pace the tenths, or the mains tenth
of a count that the next real crossing ends (R152, R157; a mains tenth as a row of its own is log entry 5). -/
def State.takesTenth (s : State) (c : Instr) : Prop :=
  (c = .crystalTenth ∧ (s.time.lock = .locked → s.time.mainsPaced = false)) ∨
    (c = .mainsTenth ∧ s.time.lock = .locked ∧ s.time.mainsPaced = true ∧ s.time.tenthGiven = false ∧
      s.time.mainsCount + 1 = (if s.time.sixty then 12 else 10))

/-- A real crossing at a moment measures a period outside the good band (R153, Table 9-2). -/
def Timebase.offBand (t : Timebase) (m : Nat) : Prop :=
  t.synthetic = false ∧ ∃ m0, t.lastReal = some m0 ∧
    ¬ (if t.sixty then 8166 ≤ m - m0 ∧ m - m0 ≤ 8500 else 9800 ≤ m - m0 ∧ m - m0 ≤ 10200)

/-- Whether a row changes the filtered level of a detector: the third differing sample in a row (R84). -/
def State.turns (s : State) (c : Instr) (d : Det) : Bool :=
  match c with
  | .scanTick inputs _ _ => has inputs d != (s.det d).level && 2 ≤ (s.det d).run
  | .detectorLevelChange e => e == d && (s.det d).run == 2
  | _ => false

/-- No preempt asks for service or holds it: the slot is free and every preempt is IDLE with its input inactive. -/
def State.preemptsQuiet (s : State) : Prop :=
  s.arb.holder = none ∧ ∀ p, (s.pre p).state = .idle ∧ (s.pre p).active = false

/-! ### The handover (R41 to R43) -/

/-- The record `n` at an index of the queue of `s` has become the current step in `t`: in CYCLE mode the position moves to it,
in SINGLE mode it stands at the head, the records before it keeping their order behind it, without the outgoing head when
`drop` is set; a transition to its green set begins, with its classes of Table 3-3, that ends the GREEN vehicle channels outside
the set and touches no other channel (R40 to R43, R112). -/
structure State.HandsOver (s t : State) (i : Nat) (n : StepRecord) (drop : Bool) : Prop where
  step : t.seq.current = true ∧ t.record = some n ∧ t.seq.phase = .transition ∧ t.seq.stepTimer = 0 ∧
    t.seq.force = false ∧ t.seq.hold = s.seq.hold ∧ t.seq.mode = s.seq.mode
  cycle : s.seq.mode = .cycle → t.seq.queue = s.seq.queue ∧ t.seq.position = i
  single : s.seq.mode = .single → t.seq.position = 0 ∧
    t.seq.queue = n :: ((s.seq.queue.take i).drop (if drop then 1 else 0) ++ s.seq.queue.drop (i + 1))
  classes : ∃ x, t.seq.transition = some x ∧ x.target = n.greenSet ∧ x.owner = .step ∧ ∀ c,
    (has n.greenSet c = true → x.classes.get c = if (s.chan c).ind = .green then .continuing else .waiting) ∧
    (has n.greenSet c = false → (s.chan c).ind ≠ .green → x.classes.get c = .outside) ∧
    (has n.greenSet c = false → (s.chan c).ind = .green → (s.chan c).kind = .vehicle → x.classes.get c = .terminated) ∧
    (has n.greenSet c = false → (s.chan c).ind = .green → (s.chan c).kind = .pedestrian →
      x.classes.get c = .runningOut)
  ended : ∀ c, has n.greenSet c = false → (s.chan c).kind = .vehicle → (s.chan c).ind = .green →
    (t.chan c).ind = .amber ∧ (t.chan c).timer = (s.chan c).pendingSet.amber
  kept : ∀ c, has n.greenSet c = true ∨ (s.chan c).kind ≠ .vehicle ∨ (s.chan c).ind ≠ .green →
    t.chan c = s.chan c ∧ t.green c = s.green c

/-! ### FAULT_FLASH (R145) -/

/-- What every entry into FAULT_FLASH leaves (R145, R10, R12, R59, R81, R114, R166). -/
structure State.InFaultFlash (s : State) : Prop where
  mode : s.unit.mode = .faultFlash ∧ s.unit.ftr = false ∧ s.unit.cause = .none
  drives : s.lamps.drives = 0
  chans : ∀ c, (s.chan c).ind = .dark ∧ (s.chan c).timer = 0 ∧ (s.chan c).applied = Pattern.dark
  step : s.seq.current = false ∧ s.seq.phase = .none ∧ s.seq.transition = none ∧ s.seq.position = 0 ∧ s.seq.force = false
  greens : ∀ c, s.green c = (s.green c).idle
  slot : s.arb.holder = none ∧ s.arb.interrupted = false ∧ ∀ p, (s.pre p).serving = false
  silent : ∀ i, (s.line i).sounding = .none
  record : s.mon.record ≠ none

/-! ### Compatibility (R31) -/

/-- The match flag says whether the host copy is present and equals the in-use table (R31). -/
def State.MatchSafe (s : State) : Prop := s.compat.isMatch = (s.compat.hostCopy == some s.compat.inUse)

/-! ### The link's slots (R184, R185) -/

/-- A frame is held only while a reply waits, and a reply waits only while the transmitter sends (R184, R185). -/
def State.SlotsDrain (s : State) : Prop :=
  (s.link.held ≠ none → s.link.reply ≠ none) ∧ (s.link.reply ≠ none → s.link.sending ≠ none)

end Sys2Proof.Machine
end

