-- ==== Sys2Proof/Certificates/Slice0/Obligations.lean ====
section
/-! DEFINITION. Obligations.lean: the statements about the FJ416 that the provers are given, in the order of
OBLIGATIONS.json. Where a host command is answered at once, `heard s` is the state after its frame passed its check
(O5) and `answered t f` is `t` with the reply `f` begun. `settle s t` is everything that follows at the same moment
from the change of `s` to `t` (log entry 6). -/

open Sys2Proof Sys2Proof.Machine

/-! ### The machine as a whole -/

/-- O1. A step takes the command at the front of the queue and runs it on the rest; that an empty queue idles is the
model's choice (log entry 2). -/
def Obligations.StepRunsFront : Prop :=
  (∀ c rest s, s.pending = c :: rest → step s = exec c { s with pending := rest }) ∧
    (∀ s, s.pending = [] → step s = .next s)

/-- O2. What hardware reset leaves, by the state tables of the chapters (Tables 1-1, 1-2, 2-1, 3-1, 4-1, 5-1, 6-1, 7-1,
8-1, 9-1, 10-1, 11-1, 11-2, 12-1). -/
def Obligations.ResetValues : Prop :=
  (∀ c : Chan,
    (State.reset.chan c).kind = .unused ∧ (State.reset.chan c).flashColour = .red ∧
    (State.reset.chan c).redMonitor = true ∧ (State.reset.chan c).ind = .dark ∧
    (State.reset.chan c).pendingSet = (State.reset.chan c).activeSet ∧
    (State.reset.chan c).activeSet =
      { minGreen := 50, addedInitial := 0, maxInitial := 0, maxGap := 30, minGap := 30, tbr := 0, ttr := 0,
        maxGreen := 300, amber := 30, redClear := 20, walk := 70, pedClear := 100 } ∧
    (State.reset.green c).latch = false ∧ (State.reset.green c).actCount = 0) ∧
  State.reset.lamps.drives = 0 ∧ State.reset.lamps.dimOn = false ∧ State.reset.lamps.dimLevel = 6 ∧
  State.reset.compat.inUse = 0 ∧ State.reset.compat.hostCopy = none ∧ State.reset.compat.status = .none ∧
  State.reset.compat.isMatch = false ∧ State.reset.compat.reading = some 0 ∧
  State.reset.seq.queue = [] ∧ State.reset.seq.mode = .single ∧ State.reset.seq.current = false ∧
  State.reset.seq.nextSerial = 1 ∧
  (∀ d : Det, (State.reset.det d).mode = .off ∧ (State.reset.det d).chatterLimit = 10 ∧
    (State.reset.det d).fault = .ok ∧ (State.reset.det d).failAction = .placeRecall) ∧
  (∀ p : Pre, (State.reset.pre p).state = .idle ∧ (State.reset.pre p).cfg.enable = false ∧
    (State.reset.pre p).cfg.minGreen = 50 ∧ (State.reset.pre p).cfg.dwellMin = 100 ∧
    (State.reset.pre p).cfg.maxPresence = 30) ∧
  State.reset.arb.holder = none ∧ State.reset.mon.record = none ∧ State.reset.mon.redFailTime = 15 ∧
  State.reset.unit.mode = .startFlash ∧ State.reset.unit.ftr = false ∧ State.reset.unit.startFlashTimer = 60 ∧
  State.reset.unit.entryRedTime = 30 ∧ State.reset.unit.shortOutage = 5 ∧
  State.reset.time.tenth = 0 ∧ State.reset.time.nominal = .auto ∧ State.reset.time.lock = .free ∧
  State.reset.time.category = .unknown ∧ State.reset.time.dropout = 100 ∧ State.reset.time.sag = 170 ∧
  State.reset.time.high = 230 ∧
  (∀ i : Line, (State.reset.line i).channel = none ∧ (State.reset.line i).frequency = 2 ∧
    (State.reset.line i).dayVolume = 4 ∧ (State.reset.line i).nightVolume = 2) ∧
  State.reset.signs.count = 0 ∧ State.reset.signs.period = 5 ∧ State.reset.signs.shifting = false ∧
  State.reset.signs.sck = false ∧ State.reset.signs.sdo = false ∧ State.reset.signs.slat = false ∧
  State.reset.link.receiver = .hunt ∧ State.reset.link.flags = 0b100000001#9 ∧
  State.reset.link.enable = 0b111111111#9 ∧ State.reset.link.statusTimer = 100 ∧
  State.reset.link.supervision = 20 ∧ State.reset.link.lost = false

/-- O3. HARDWARE_RESET gives every block its hardware reset values, with the link rate of the straps, and TXD is high after
it, a frame on it stopped (R185); that the sender's waiting commands stay is the model's choice (log entry 9). -/
def Obligations.HardwareReset : Prop :=
  ∀ (straps : BitVec 2) (s : State),
    exec (.hardwareReset straps) s = .next
      { State.reset with
        link := { State.reset.link with
          rate := if straps = 0 then .b9600 else if straps = 1 then .b19200 else if straps = 2 then .b38400
            else .b57600 }
        pending := s.pending } ∧
    ∀ t time, exec (.hardwareReset straps) s = .next t → t.link.txd time = true

/-- O4. The state after hardware reset has every property that the invariants below carry on. -/
def Obligations.ResetIsSafe : Prop :=
  State.reset.RelaySafe ∧ State.reset.DarkSafe ∧ State.reset.OutageSafe ∧ State.reset.QueueSafe ∧
    State.reset.SlotSafe ∧ State.reset.LatchSafe ∧ State.reset.SettingsSafe ∧ State.reset.ReleaseSafe ∧
    State.reset.MatchSafe ∧ State.reset.SlotsDrain ∧ State.reset.ChainSafe

/-! ### The cabinet link -/

/-- O5. A frame that passes its check reloads supervision, makes a LOST link OK with the STATUS flag, and clears an owed
link loss; nothing else changes (R187, R144). -/
def Obligations.FrameHeard : Prop :=
  ∀ s : State, heard s =
    { s with
      link := { s.link with
        supervision := s.link.supervisionTime, lost := false
        flags := if s.link.lost then s.link.flags ||| 0b100000000#9 else s.link.flags }
      unit := { s.unit with owedLinkLoss := false } }

/-- O6. The frame of every host command is read back as that command, and the frame of an UNKNOWN_KIND as no command
(Tables 13-1 to 13-6). -/
def Obligations.FrameRoundTrip : Prop :=
  (∀ c f, frameOf c = some f → (∀ k t fs, c ≠ .unknownKind k t fs) → parseFrame f = .command c) ∧
    (∀ k t fs, (Instr.unknownKind k t fs).wellFormed = true → parseFrame ⟨k, t, fs⟩ = .unknown)

/-- O7. The characters of a frame, each with even parity and a high stop bit, taken one after another from HUNT, give
exactly the arrival of that frame (R181, R182, Table 13-1). -/
def Obligations.ReceptionRoundTrip : Prop :=
  ∀ (f : Frame) (s : State), s.link.receiver = .hunt → f.fields.length ≤ 59 →
    (0x7E#8 :: f.bytes).foldl (fun t b => receive b (ones b % 2 == 1) true t) s =
      arrive f { s with link := { s.link with receiver := .hunt, length := 0, assembly := [] } }

/-- O8. A host row is the arrival of its frame: the command of every frame that the receiver passes is executed by the
same rules (R183, R184; that a row stands for its whole frame is log entry 4). -/
def Obligations.RowIsArrival : Prop :=
  ∀ c f s, frameOf c = some f → c.wellFormed = true → exec c s = .next (arrive f s)

/-- O9. A frame that passes its check while the held slot is full is lost as OVERRUN with no reply; one that finds only
the reply slot full waits in the held slot, not executed (R183, R184). -/
def Obligations.BusySlots : Prop :=
  ∀ c f s, frameOf c = some f → c.wellFormed = true →
    (∀ g, s.link.held = some g → ∃ t, exec c s = .next t ∧
      t = { heard s with
        link := { (heard s).link with
          lastError := .overrun, errors := s.link.errors + 1, flags := (heard s).link.flags ||| 0b100000000#9 } }) ∧
    (∀ g, s.link.held = none → s.link.reply = some g →
      exec c s = .next { heard s with link := { (heard s).link with held := some f } })

/-- O10. RECEIVE_CHARACTER in each state of the receiver (R182, R181): the marker, a length, a byte of a body, and the
errors. -/
def Obligations.ReceiveCharacter : Prop :=
  ∀ (b : Byte) (p stop : Bool) (s : State), ∃ t, exec (.receiveCharacter b p stop) s = .next t ∧
    (s.link.receiver = .hunt → parityError b p = false → stop = true → b = 0x7E#8 →
      t = { s with link := { s.link with receiver := .length, length := 0, assembly := [] } }) ∧
    (s.link.receiver = .hunt → (parityError b p = true ∨ stop = false ∨ b ≠ 0x7E#8) → t = s) ∧
    (s.link.receiver = .length → parityError b p = false → stop = true → 3 ≤ b.toNat → b.toNat ≤ 62 →
      t = { s with link := { s.link with receiver := .body, length := b.toNat, assembly := [] } }) ∧
    (s.link.receiver = .body → parityError b p = false → stop = true → s.link.assembly.length + 1 < s.link.length →
      t = { s with link := { s.link with assembly := s.link.assembly ++ [b] } }) ∧
    (s.link.receiver ≠ .hunt → (parityError b p = true ∨ stop = false) →
      t = { s with
        link := { s.link with
          receiver := .hunt, length := 0, assembly := [],
          lastError := if parityError b p then .parity else .framing
          errors := s.link.errors + 1, flags := s.link.flags ||| 0b100000000#9 } }) ∧
    (s.link.receiver = .length → parityError b p = false → stop = true → (b.toNat < 3 ∨ 62 < b.toNat) →
      t = { s with
        link := { s.link with
          receiver := .hunt, length := 0, assembly := [], lastError := .length
          errors := s.link.errors + 1, flags := s.link.flags ||| 0b100000000#9 } }) ∧
    (s.link.receiver = .body → parityError b p = false → stop = true → s.link.length ≤ s.link.assembly.length + 1 →
      u8 s.link.length + byteSum (s.link.assembly ++ [b]) ≠ 0 →
      t = { s with
        link := { s.link with
          receiver := .hunt, length := 0, assembly := [], lastError := .check
          errors := s.link.errors + 1, flags := s.link.flags ||| 0b100000000#9 } })

/-- O11. GAP_ERROR discards a frame in assembly and is recorded; that it changes nothing in HUNT, where nothing is timed,
is the model's choice (log entry 13). UNKNOWN_KIND on a free link is answered with kind 0xFF (R182, R184). -/
def Obligations.GapAndUnknownKind : Prop :=
  (∀ s, s.link.receiver ≠ .hunt → exec .gapError s = .next
    { s with
      link := { s.link with
        receiver := .hunt, length := 0, assembly := [], lastError := .gap, errors := s.link.errors + 1
        flags := s.link.flags ||| 0b100000000#9 } }) ∧
  (∀ s, s.link.receiver = .hunt → exec .gapError s = .next s) ∧
  (∀ k t fs s, s.linkFree → (Instr.unknownKind k t fs).wellFormed = true →
    exec (.unknownKind k t fs) s = .next (answered (heard s) ⟨0xFF#8, t, [2, k]⟩))

/-- O12. The end of a frame and the start of a report: a reply that waits goes first and makes room for a held frame,
then the first enabled flagged report in the order of R185, then IDLE (R184, R185). While a frame is sent TXD gives its
characters back to back, each with a low start bit, the data bits least significant first, an even parity bit and a high
stop bit, and it is high after them and while nothing is sent (R181). The bodies of the nine reports, field by field (Tables
13-8, 13-5 and 13-7; R60, R99, R118, R130, R131, R137, R162, R176). That an idle transmitter starts its
report in a row of its own, SEND_REPORT, and that no flag is set again by the taking of a report's content are the model's
choices (log entries 10 and 11). The order of the bytes of the output mask and of the detector masks, the eligible serial 0 of
the STAGE report with no current step, and the bytes sent as 0 for an empty fault record and for a module without a status are
read from the book by inference (log entries 20, 21 and 59). -/
def Obligations.Transmitter : Prop :=
  (∀ s, reportBytes s .mode = [s.unit.mode.code, s.unit.cause.code,
      match s.unit.remembered with
      | some m => m.code
      | none => 7,
      flagByte s.unit.switchLevel] ++ u16 s.unit.outageTimer) ∧
  (∀ s, reportBytes s .fault = match s.mon.record with
    | none => [0, 0, 0, 0, 0, 0, 0, 0, 0]
    | some r => [if r.additional then 0x81#8 else 1, r.cause.code, u8 r.first, u8 r.second] ++ u32 r.tenth.toNat ++
        [r.mode.code]) ∧
  (∀ s, reportBytes s .preempt = (List.finRange 4).flatMap (fun p : Pre =>
      [match (s.pre p).state with
        | .idle => 0
        | .delaying => 1
        | .pending => 2
        | .entry => 3
        | .track => 4
        | .dwell => 5
        | .exit => if (s.pre p).pendingAtExit then 7 else 6,
      flagByte (s.pre p).cfg.enable ||| (flagByte (s.pre p).stuck <<< 1)]) ++
    [match s.arb.holder with
      | some p => u8 (p.val + 1)
      | none => 0] ++
    u16 (if s.arb.interrupted then (s.seq.queue[s.seq.position]?.map (·.serial)).getD 0 else 0) ++
    [s.arb.disabled.setWidth 8]) ∧
  (∀ s, reportBytes s .stage =
    [s.unit.mode.code] ++
      u16 (if s.seq.current then (s.seq.queue[s.seq.position]?.map (·.serial)).getD 0 else 0) ++ [s.seq.phase.code] ++
      wordBytes (if s.seq.current then (s.seq.queue[s.seq.position]?.map (·.greenSet)).getD 0 else 0) ++
      [s.seq.mode.code, u8 s.seq.queue.length, if s.seq.queue = [] then 0 else u8 (s.seq.position + 1)] ++
      u16 (if s.seq.current then ((s.eligible.bind (fun i => s.seq.queue[i]?)).map (·.serial)).getD 0 else 0) ++
      [flagByte s.seq.hold ||| (flagByte s.seq.force <<< 1) ||| (flagByte s.arb.holder.isSome <<< 2) |||
        (flagByte s.seq.pruned <<< 3)]) ∧
  (∀ s, (reportBytes s .lamp).length = 18 ∧
    (∀ o : Fin 48, ((reportBytes s .lamp).getD (o.val / 4) 0).extractLsb' (2 * (o.val % 4)) 2 =
      (s.mon.lamps.get o).status.code.setWidth 2) ∧
    ∀ k, k < 6 → (reportBytes s .lamp)[12 + k]? = some (s.mon.changed.extractLsb' (40 - 8 * k) 8)) ∧
  (∀ s, (reportBytes s .detector).length = 12 ∧
    (∀ d : Det, ((reportBytes s .detector).getD (d.val / 4) 0).extractLsb' (2 * (d.val % 4)) 2 =
      (s.det d).fault.code.setWidth 2) ∧
    ∀ k, k < 3 → (reportBytes s .detector)[6 + k]? = some (s.detMasks.changed.extractLsb' (16 - 8 * k) 8) ∧
      (reportBytes s .detector)[9 + k]? = some (s.detMasks.wrongWay.extractLsb' (16 - 8 * k) 8)) ∧
  (∀ s, reportBytes s .supply = [s.time.category.code, u8 s.time.reading, s.time.lock.code, s.time.nominal.code,
    match s.time.decided with
    | none => 0
    | some .hz50 => 50
    | some .hz60 => 60]) ∧
  (∀ s, reportBytes s .sign = [u8 s.signs.count, flagByte s.signs.chainError] ++
    ((List.finRange 8).filter (fun k => k.val < s.signs.count)).flatMap (fun k =>
      let m := s.signs.modules.get k
      [match m.status with
        | none => 0
        | some x => x.shown.setWidth 8,
      flagByte m.latched.isSome ||| (flagByte m.status.isSome <<< 1) ||| (flagByte (m.status.any (·.displayFault)) <<< 2) |||
        (flagByte m.mismatch <<< 3) ||| (u8 m.mismatchRun <<< 4)])) ∧
  (∀ s, reportBytes s .status = [s.unit.mode.code] ++ wordBytes (s.link.flags.setWidth 16) ++
    wordBytes (s.link.enable.setWidth 16) ++ [flagByte s.link.lost, s.link.lastError.code] ++ wordBytes s.link.errors ++
    u32 s.time.tenth.toNat ++ [s.time.lock.code, s.time.category.code, s.compat.status.code, flagByte s.compat.isMatch,
      flagByte s.mon.record.isSome]) ∧
  (∀ s, s.link.sending = none → exec .frameSent s = .next s) ∧
  (∀ s f g, s.link.sending = some f → s.link.reply = some g → s.link.held = none →
    exec .frameSent s = .next (answered s g)) ∧
  (∀ s f g h, s.link.sending = some f → s.link.reply = some g → s.link.held = some h → ∃ t, exec .frameSent s = .next t ∧
    t = placeReply (handle h { answered s g with link := { (answered s g).link with held := none } })) ∧
  (∀ s f, s.link.sending = some f → s.link.reply = none → s.link.flags &&& s.link.enable = 0 →
    exec .frameSent s = .next { s with link := { s.link with sending := none } }) ∧
  (∀ c s (r : Report), (c = .sendReport ∧ s.link.sending = none) ∨ (c = .frameSent ∧ s.link.sending ≠ none) →
    s.link.reply = none → has (s.link.flags &&& s.link.enable) r.index = true →
    (∀ q : Report, q.index < r.index → has (s.link.flags &&& s.link.enable) q.index = false) →
    ∃ t, exec c s = .next t ∧
      t.link = { s.link with
        flags := eraseBit s.link.flags r.index
        sequence := s.link.sequence + 1
        sending := some ⟨r.kind, s.link.sequence,
          reportBytes { s with link := { s.link with flags := eraseBit s.link.flags r.index } } r⟩ } ∧
      t.chans = s.chans ∧ t.lamps = s.lamps ∧ t.compat = s.compat ∧ t.greens = s.greens ∧ t.dets = s.dets ∧
      t.pres = s.pres ∧ t.unit = s.unit ∧ t.time = s.time ∧ t.tones = s.tones ∧ t.signs = s.signs ∧
      t.seq = (if r = .stage then { s.seq with pruned := false } else s.seq) ∧
      t.arb = (if r = .preempt then { s.arb with disabled := 0 } else s.arb) ∧
      t.mon = (if r = .lamp then { s.mon with changed := 0 } else s.mon) ∧
      t.detMasks = (if r = .detector then { changed := 0, wrongWay := 0 } else s.detMasks)) ∧
  (∀ l : Link, l.sending = none → ∀ time, l.txd time = true) ∧
  (∀ (l : Link) (f : Frame), l.sending = some f →
    (∀ time, 11 * (f.bytes.length + 1) ≤ time → l.txd time = true) ∧
    (∀ k b, (0x7E#8 :: f.bytes)[k]? = some b →
      l.txd (11 * k) = false ∧ (∀ i, i < 8 → l.txd (11 * k + 1 + i) = b.getLsbD i) ∧
        parityError b (l.txd (11 * k + 9)) = false ∧ l.txd (11 * k + 10) = true))

/-- O13. STATUS_TIMER_EXPIRY sets the STATUS flag and reloads the timer; SUPERVISION_EXPIRY makes the link LOST, and in
ENTRY_RED or CONTROLLED begins an orderly flash with cause LINK_LOST (R186, R187, R144). That each is a row of its own,
taken at the timer's last tenth, is the model's choice (log entry 5). -/
def Obligations.LinkTimers : Prop :=
  (∀ s, 0 < s.link.statusPeriod → s.link.statusTimer ≤ 1 → exec .statusTimerExpiry s = .next
    { s with
      link := { s.link with
        statusTimer := s.link.statusPeriod * 10, flags := s.link.flags ||| 0b100000000#9 } }) ∧
  (∀ s, s.link.supervision = 1 → ∃ t, exec .supervisionExpiry s = .next t ∧
    t.link.supervision = 0 ∧ t.link.lost = true ∧ (s.link.lost = false → has t.link.flags Report.status.index = true) ∧
    ((s.unit.mode = .entryRed ∨ s.unit.mode = .controlled) →
      t.unit.cause = .linkLost ∧ (t.unit.mode = .clearingToFlash ∨ t.unit.mode = .localFlash)) ∧
    (s.unit.mode = .powerOut → (s.unit.remembered = some .entryRed ∨ s.unit.remembered = some .controlled) →
      t.unit.mode = .powerOut ∧ t.unit.owedLinkLoss = true))

/-- O14. The slots of the link drain at once: a frame is held only while a reply waits, and a reply waits only while the
transmitter sends; every step keeps this (R184, R185). -/
def Obligations.SlotsDrainKept : Prop :=
  ∀ c s t, s.SlotsDrain → exec c s = .next t → t.SlotsDrain


/-! ### The events of the crystal and the mains -/

/-- O15. MILLISECOND: the cycles, the confirm timer, the sounding item and the envelope of every active tone line; no
other line and no other block changes (R165 to R170). The clock of the model is log entry 8. -/
def Obligations.Millisecond : Prop :=
  ∀ s : State, ∃ t, exec .millisecond s = .next t ∧
    t = { s with
      tones := t.tones
      time := { s.time with millis := s.time.millis + 1, clock := max s.time.clock ((s.time.millis + 1) * 1000) } } ∧
    (∀ i, s.lineActive i = false → t.line i = s.line i) ∧
    (∀ i, s.lineActive i = true →
      (∃ k w n o x v a, t.line i = { s.line i with
        locatorCycle := k, walkCycle := w, confirmTimer := n, tickOpen := o, sounding := x, level := v, age := a }) ∧
      (t.line i).locatorCycle = (s.line i).locatorCycle.map (fun n => if n + 1 < 1000 then n + 1 else 0) ∧
      (t.line i).walkCycle = (s.line i).walkCycle.map (fun n => if n + 1 < 100 then n + 1 else 0) ∧
      (t.line i).confirmTimer = (s.line i).confirmTimer - 1 ∧
      (t.line i).tickOpen =
        (if (t.line i).locatorCycle = some 0 then decide ((t.line i).confirmTimer = 0) else (s.line i).tickOpen) ∧
      (t.line i).sounding =
        (if (t.line i).walkCycle.any (fun n => n < 30) then .walk
          else if 0 < (t.line i).confirmTimer then .confirm
          else if (t.line i).locatorCycle.any (fun n => n < 40) && (t.line i).tickOpen then .locator
          else .none) ∧
      ((t.line i).sounding ≠ .none → (t.line i).sounding ≠ (s.line i).sounding →
        (t.line i).age = 0 ∧
          (t.line i).level = if s.lamps.dimOn then (s.line i).nightVolume else (s.line i).dayVolume) ∧
      ((t.line i).sounding ≠ .none → (t.line i).sounding = (s.line i).sounding → (s.line i).age < 250 →
        (t.line i).age = (s.line i).age + 1 ∧
          (t.line i).level =
            if (s.line i).envelope = true ∧ ((s.line i).age + 1) % 5 = 0 then (s.line i).level - 1
            else (s.line i).level))

/-- O16. SCAN_TICK: a detector or preemption level changes at the third differing sample in a row and the switch level
at the tenth; a volume counts each on-edge; a preemption off-edge clears the stuck flag; an on-edge of the switch in
ENTRY_RED or CONTROLLED begins the orderly flash with cause MANUAL (R84, R93, R104, R139). -/
def Obligations.ScanTick : Prop :=
  ∀ (dets : BitVec 24) (pres : BitVec 4) (mfs : Bool) (s : State), ∃ t, exec (.scanTick dets pres mfs) s = .next t ∧
    (∀ d,
      (t.det d).run = (if has dets d = (s.det d).level ∨ 2 ≤ (s.det d).run then 0 else (s.det d).run + 1) ∧
      (t.det d).level = (if 2 ≤ (s.det d).run then has dets d else (s.det d).level) ∧
      (t.det d).volume =
        (if (s.det d).mode ≠ .off ∧ (s.det d).level = false ∧ (t.det d).level = true then (s.det d).volume + 1
          else (s.det d).volume)) ∧
    (∀ p,
      (t.pre p).run = (if has pres p = (s.pre p).level ∨ 2 ≤ (s.pre p).run then 0 else (s.pre p).run + 1) ∧
      (t.pre p).level = (if 2 ≤ (s.pre p).run then has pres p else (s.pre p).level) ∧
      (t.pre p).presence = (if (t.pre p).level = (s.pre p).level then (s.pre p).presence else 0) ∧
      (t.pre p).stuck =
        (if (s.pre p).level = true ∧ (t.pre p).level = false then false else (s.pre p).stuck)) ∧
    t.unit.switchRun = (if mfs = s.unit.switchLevel ∨ 9 ≤ s.unit.switchRun then 0 else s.unit.switchRun + 1) ∧
    t.unit.switchLevel = (if 9 ≤ s.unit.switchRun then mfs else s.unit.switchLevel) ∧
    (s.unit.switchLevel = false → t.unit.switchLevel = true →
      (s.unit.mode = .entryRed ∨ s.unit.mode = .controlled) →
        t.unit.cause = .manual ∧ (t.unit.mode = .clearingToFlash ∨ t.unit.mode = .localFlash)) ∧
    t.time = { s.time with scans := s.time.scans + 1, clock := max s.time.clock ((s.time.scans + 1) * 10000) }

/-- O17. A tenth tick, from the crystal or from the mains: the tenth counter, the switchover, the plug read, and the
timers of the unit mode, of the sign chain and of the link. The crystal gives none while the mains paces the tenths, and
the mains gives one at its 10th or 12th crossing only (R152, R157, R22, R138, R141, R147, R175, R186, R187). The clock, a
mains tenth as a row of its own before its crossing, and the fields that hold the pacing are the model's choices (log
entries 8, 5 and 31). What the tick does in the other blocks is in O18, O27, O28 and O32. -/
def Obligations.TenthTick : Prop :=
  (∀ s, s.time.lock = .locked → s.time.mainsPaced = true → exec .crystalTenth s = .next s) ∧
  (∀ s, s.time.lock ≠ .locked ∨ s.time.mainsPaced = false ∨ s.time.tenthGiven = true ∨
      s.time.mainsCount + 1 ≠ (if s.time.sixty then 12 else 10) →
    exec .mainsTenth s = .next s) ∧
  (∀ c s, s.takesTenth c →
    ∃ t, exec c s = .next t ∧
      t.time = { s.time with
        tenth := s.time.tenth + 1
        lastTenth := if c = .crystalTenth then s.time.lastTenth + 100000 else s.time.clock
        clock := if c = .crystalTenth then max s.time.clock (s.time.lastTenth + 100000) else s.time.clock
        mainsPaced := if s.time.lock = .locked then true else s.time.mainsPaced
        mainsCount := if c = .crystalTenth ∧ s.time.lock = .locked then 0 else s.time.mainsCount
        tenthGiven := if c = .mainsTenth then true else s.time.tenthGiven } ∧
      t.compat.reading = (if (s.time.tenth + 1).toNat % 10 = 0 then some 0 else s.compat.reading) ∧
      t.compat.readStart = (if (s.time.tenth + 1).toNat % 10 = 0 then t.time.lastTenth else s.compat.readStart) ∧
      t.unit.startFlashTimer =
        (if s.unit.mode = .startFlash then s.unit.startFlashTimer - 1 else s.unit.startFlashTimer) ∧
      t.unit.entryRedTimer = (if s.unit.mode = .entryRed then s.unit.entryRedTimer - 1 else s.unit.entryRedTimer) ∧
      t.unit.outageTimer =
        (if s.unit.mode = .powerOut then min 65535 (s.unit.outageTimer + 1) else s.unit.outageTimer) ∧
      t.signs.timer =
        (if 0 < s.signs.count ∧ s.unit.mode ≠ .powerOut then
          if 1 < s.signs.timer then s.signs.timer - 1 else s.signs.period
        else s.signs.timer) ∧
      (0 < s.signs.count → s.unit.mode ≠ .powerOut → s.signs.timer ≤ 1 → t.signs.pendingExchange = true) ∧
      t.link.statusTimer =
        (if s.link.statusPeriod = 0 then s.link.statusTimer
          else if 1 < s.link.statusTimer then s.link.statusTimer - 1 else s.link.statusPeriod * 10) ∧
      (0 < s.link.statusPeriod → s.link.statusTimer ≤ 1 → has t.link.flags Report.status.index = true) ∧
      t.link.supervision = s.link.supervision - 1 ∧
      t.link.lost = (s.link.lost || s.link.supervision == 1))

/-- O18. What a tenth tick, of the crystal or of the mains, does to the detectors and to the preemption inputs: presence,
absence, occupancy and delay timers, STUCK_ON, NO_ACTIVITY and the stuck flag at their limits, and the chatter windows
(R90, R93, R95, R96, R97, R104). A mains tenth as a row of its own (log entry 5), a detector that its window end clears
judged for the timed faults at the next tick (log entry 38), and the stuck flag of a lowered limit set at the next tick (log
entry 40) are the model's choices. -/
def Obligations.TenthTickInputs : Prop :=
  ∀ c s, s.takesTenth c → ∃ t, exec c s = .next t ∧
    (∀ d, (s.det d).mode = .off → t.det d = s.det d) ∧
    (∀ d, (s.det d).mode ≠ .off →
      (∃ e p a w k f o, t.det d = { s.det d with
        delayTimer := e, presence := p, absence := a, window := w, cleanRun := k, fault := f, occupancy := o }) ∧
      (t.det d).presence = (if (s.det d).level then min 153001 ((s.det d).presence + 1) else (s.det d).presence) ∧
      (t.det d).absence = (if (s.det d).level then (s.det d).absence else min 153001 ((s.det d).absence + 1)) ∧
      (t.det d).occupancy = (if (s.det d).level then (s.det d).occupancy + 1 else (s.det d).occupancy) ∧
      (t.det d).delayTimer =
        (if s.detOccupied d then min 255 ((s.det d).delayTimer + 1) else (s.det d).delayTimer) ∧
      ((s.det d).fault = .ok →
        (t.det d).fault =
          if (s.det d).level = true ∧ (s.det d).maxPresence ≠ 0 ∧ (s.det d).maxPresence * 600 < (t.det d).presence then
            .stuckOn
          else if (s.det d).level = false ∧ (s.det d).maxAbsence ≠ 0 ∧
              (s.det d).maxAbsence * 600 < (t.det d).absence then .noActivity
          else .ok) ∧
      ((s.time.tenth + 1).toNat % 10 ≠ 0 →
        (t.det d).window = (s.det d).window ∧ (t.det d).cleanRun = (s.det d).cleanRun ∧
          ((s.det d).fault ≠ .ok → (t.det d).fault = (s.det d).fault)) ∧
      ((s.time.tenth + 1).toNat % 10 = 0 → (t.det d).window = 0) ∧
      ((s.time.tenth + 1).toNat % 10 = 0 → (s.det d).fault = .chatter → (s.det d).chatterLimit ≤ (s.det d).window →
        (t.det d).fault = .chatter ∧ (t.det d).cleanRun = 0) ∧
      ((s.time.tenth + 1).toNat % 10 = 0 → (s.det d).fault = .chatter → (s.det d).window < (s.det d).chatterLimit →
        if (s.det d).cleanRun = 9 then (t.det d).fault = .ok ∧ (t.det d).cleanRun = 0
        else (t.det d).fault = .chatter ∧ (t.det d).cleanRun = (s.det d).cleanRun + 1)) ∧
    (∀ p,
      (t.pre p).level = (s.pre p).level ∧
      (t.pre p).presence = (if (s.pre p).level then min 153001 ((s.pre p).presence + 1) else (s.pre p).presence) ∧
      (t.pre p).stuck = ((s.pre p).stuck ||
        ((s.pre p).level && decide ((s.pre p).cfg.maxPresence * 600 < (t.pre p).presence))))

/-- O19. A crossing event, real or synthetic: every channel's staged pattern is applied, each output is driven, dim-skipped
or off by its lamp, the flash clock, the dim state and the half-cycle count, and the report of the half-cycle waits for
the Monitor's sample, in every lock state. While LOCKED each real crossing raises the mains tenth count, and the 10th or
12th ends it with a tenth tick, unless the row MAINS_TENTH has given it (log entry 5). A real edge inside the blanking is
ignored (R12 to R16, R120, R153, R154, R157). The moment of a synthetic crossing that a SET TIMEBASE has made overdue is the
model's choice (log entry 56). -/
def Obligations.CrossingEvent : Prop :=
  (∀ m m0 s, s.time.synthetic = false → s.time.lastReal = some m0 →
    m < m0 + (if s.time.sixty then 2083 else 2500) → exec (.realCrossingEvent m) s = .next s) ∧
  (∀ m s, (s.time.synthetic = true ∨ ∀ m0, s.time.lastReal = some m0 →
      m0 + (if s.time.sixty then 2083 else 2500) ≤ m) → ∃ t, exec (.realCrossingEvent m) s = .next t ∧
    t.time.lastReal = some m ∧ t.time.lastCrossing = m ∧ t.time.synthetic = false ∧ t.time.sampleDue = true ∧
    t.lamps.crossings = (s.lamps.crossings + 1) % 8) ∧
  (∀ s, ∃ t, exec .syntheticCrossingEvent s = .next t ∧
    t.time.lastReal = s.time.lastReal ∧ t.time.synthetic = true ∧ t.time.sampleDue = true ∧
    t.time.lastCrossing = s.time.lastCrossing +
      (if s.time.synthetic then if s.time.sixty then 8333 else 10000 else if s.time.sixty then 12500 else 15000) ∧
    t.lamps.crossings = (s.lamps.crossings + 1) % 8) ∧
  (∀ m s t, s.time.takes m = true → s.time.lock = .locked → s.time.mainsPaced = true → ¬ s.time.offBand m →
    (s.time.nominal = .auto → s.time.decided ≠ none) → exec (.realCrossingEvent m) s = .next t →
    let last := s.time.mainsCount + 1 = if s.time.sixty then 12 else 10
    t.time.lock = .locked ∧
    (s.time.mainsCount + 1 < (if s.time.sixty then 12 else 10) →
      t.time.mainsCount = s.time.mainsCount + 1 ∧ t.time.tenth = s.time.tenth) ∧
    (last → t.time.mainsCount = 0 ∧ t.time.tenthGiven = false ∧ t.time.lastTenth = m ∧
      t.time.tenth = if s.time.tenthGiven then s.time.tenth else s.time.tenth + 1)) ∧
  (∀ c m s t,
    (c = .syntheticCrossingEvent ∧
      (s.time.lock = .locked → s.time.synthetic = false → s.time.syntheticDue < s.time.lastTenth + 100000)) ∨
    (c = .realCrossingEvent m ∧ s.time.takes m = true ∧ (s.time.lock = .locked →
      (s.time.nominal = .auto → s.time.decided ≠ none) ∧
      (s.time.offBand m → m < s.time.lastTenth + 100000) ∧
      (¬ s.time.offBand m → s.time.mainsPaced = false ∨ s.time.tenthGiven = true ∨
        s.time.mainsCount + 1 < (if s.time.sixty then 12 else 10)))) →
    exec c s = .next t →
    (∀ n, t.chan n = { s.chan n with applied := (s.chan n).staged }) ∧
    (∃ report, t.mon = { s.mon with awaiting := some report, beside := none } ∧
      (∀ o, has t.lamps.drives o = (report.get o == .conduct)) ∧
      (∀ o, report.get o =
        match (s.chan (outputChan o)).staged.lamp (outputColour o) with
        | .unlit => .off
        | .steady =>
          if s.lamps.dimOn = true ∧ s.time.category ≠ .sag ∧ s.time.category ≠ .dropout ∧
            (s.chan (outputChan o)).dimEnable = true ∧ outputColour o ≠ 1 ∧
            (s.lamps.crossings + 1) * s.lamps.dimLevel / 8 ≤ s.lamps.crossings * s.lamps.dimLevel / 8 then .skipped
          else .conduct
        | .flashA => if s.time.tenth.toNat % 10 < 5 then .conduct else .off
        | .flashB => if s.time.tenth.toNat % 10 < 5 then .off else .conduct)) ∧
    t.compat = s.compat ∧ t.seq = s.seq ∧ t.greens = s.greens ∧ t.dets = s.dets ∧ t.pres = s.pres ∧ t.arb = s.arb ∧
      t.unit = s.unit ∧ t.tones = s.tones ∧ t.signs = s.signs ∧ t.time.tenth = s.time.tenth)

/-- O20. The lock machine and the AUTO decision: the first crossing leaves FREE, 32 good periods in a row lock, a bad
period or a missing crossing goes back to ACQUIRING with count 0, 8 good periods of one frequency decide it, and SET
TIMEBASE starts the lock again (R155, R156, R160, Figure 9-1). -/
def Obligations.MainsLock : Prop :=
  (∀ m s t, s.time.takes m = true → exec (.realCrossingEvent m) s = .next t →
    (s.time.lock = .free → t.time.lock = .acquiring ∧ t.time.goodCount = 0) ∧
    (s.time.lock ≠ .free → (s.time.synthetic = true ∨ s.time.lastReal = none) →
      t.time.lock = s.time.lock ∧ t.time.goodCount = s.time.goodCount) ∧
    (∀ m0, s.time.lock ≠ .free → s.time.synthetic = false → s.time.lastReal = some m0 →
      (if s.time.sixty then 8166 ≤ m - m0 ∧ m - m0 ≤ 8500 else 9800 ≤ m - m0 ∧ m - m0 ≤ 10200) →
      (s.time.lock = .locked → t.time.lock = .locked) ∧
      (s.time.lock = .acquiring → s.time.category = .dropout ∨ (s.time.nominal = .auto ∧ s.time.decided = none) →
        t.time.lock = .acquiring ∧ t.time.goodCount = s.time.goodCount) ∧
      (s.time.lock = .acquiring → s.time.category ≠ .dropout → (s.time.nominal = .auto → s.time.decided ≠ none) →
        if s.time.goodCount + 1 < 32 then t.time.lock = .acquiring ∧ t.time.goodCount = s.time.goodCount + 1
        else t.time.lock = .locked ∧ has t.link.flags Report.supply.index = true)) ∧
    (∀ m0, s.time.lock ≠ .free → s.time.synthetic = false → s.time.lastReal = some m0 →
      ¬ (if s.time.sixty then 8166 ≤ m - m0 ∧ m - m0 ≤ 8500 else 9800 ≤ m - m0 ∧ m - m0 ≤ 10200) →
      t.time.lock = .acquiring ∧ t.time.goodCount = 0 ∧
        (s.time.lock = .locked → has t.link.flags Report.supply.index = true)) ∧
    (∀ m0, s.time.lock ≠ .free → s.time.synthetic = false → s.time.lastReal = some m0 → s.time.nominal = .auto →
      s.time.decided = none → ∀ f : Freq,
      (f = .hz50 → 9800 ≤ m - m0 ∧ m - m0 ≤ 10200) → (f = .hz60 → 8166 ≤ m - m0 ∧ m - m0 ≤ 8500) →
      (s.time.candidate = some f → 8 ≤ s.time.decisionRun + 1 →
        t.time.decided = some f ∧ t.time.decisionRun = 0 ∧ has t.link.flags Report.supply.index = true) ∧
      (s.time.candidate = some f → s.time.decisionRun + 1 < 8 →
        t.time.decided = none ∧ t.time.decisionRun = s.time.decisionRun + 1) ∧
      (s.time.candidate ≠ some f →
        t.time.decided = none ∧ t.time.decisionRun = 1 ∧ t.time.candidate = some f))) ∧
  (∀ s t, exec .syntheticCrossingEvent s = .next t →
    (s.time.synthetic = true ∨ s.time.lock = .free → t.time.lock = s.time.lock) ∧
    (s.time.synthetic = false → s.time.lock ≠ .free → t.time.lock = .acquiring ∧ t.time.goodCount = 0) ∧
    (s.time.synthetic = false → s.time.nominal = .auto → s.time.decided = none →
      t.time.decisionRun = 0 ∧ t.time.candidate = none)) ∧
  (∀ tag s, ∀ n : Byte, s.linkFree → (n = 0 ∨ n = 50 ∨ n = 60) → ∃ t, exec (.setTimebase tag n) s = .next t ∧
    t.time.lock = .acquiring ∧ t.time.goodCount = 0 ∧
    t.time.nominal = (if n = 50 then .hz50 else if n = 60 then .hz60 else .auto) ∧
    (n = 0 → t.time.decided = none ∧ t.time.decisionRun = 0) ∧
    (s.time.lock ≠ .acquiring → has t.link.flags Report.supply.index = true) ∧
    t.link.sending = some ⟨0xD0#8, tag, [0, n, 1]⟩)

/-! ### The Monitor, the supply and the plug -/

/-- O21. MONITOR_SAMPLE on the lamp statuses: eight half-cycles of one kind of evidence in a row change a status, with
the runs, the changed mask and the LAMP flag; none is judged in POWER_OUT (R120, R129, R130, R134, Table 7-2). That a
sample with no half-cycle waiting changes nothing and that POWER_OUT drops the report is the model's choice (log entry 3),
and so is the clock (log entry 8). -/
def Obligations.LampStatusSample : Prop :=
  (∀ sense s, s.mon.awaiting = none → exec (.monitorSample sense) s = .next s) ∧
  (∀ sense s report, s.mon.awaiting = some report → s.unit.mode = .powerOut → exec (.monitorSample sense) s = .next
    { s with
      mon := { s.mon with awaiting := none }
      time := { s.time with clock := max s.time.clock (s.time.lastCrossing + 3000) } }) ∧
  (∀ sense s report, s.mon.awaiting = some report → s.unit.mode ≠ .powerOut →
    ∃ t, exec (.monitorSample sense) s = .next t ∧ t.mon.awaiting = none ∧
    (∀ o, has t.mon.changed o =
      (has s.mon.changed o || (t.mon.lamps.get o).status != (s.mon.lamps.get o).status)) ∧
    ((∃ o, (t.mon.lamps.get o).status ≠ (s.mon.lamps.get o).status) → has t.link.flags Report.lamp.index = true) ∧
    ∀ o,
      let full := s.unit.mode ≠ .startFlash ∧ s.unit.mode ≠ .faultFlash
      let on := report.get o = .conduct
      let lit := has sense o = true
      let w := s.mon.lamps.get o
      (w.status = .ok → (t.mon.lamps.get o).status =
        if full ∧ on ∧ ¬ lit ∧ 8 ≤ w.outRun + 1 then .lampOut
        else if ¬ on ∧ lit ∧ 8 ≤ w.onRun + 1 then .switchOn else .ok) ∧
      (w.status = .lampOut → (t.mon.lamps.get o).status =
        if full ∧ on ∧ lit ∧ 8 ≤ w.clearRun + 1 then .ok else .lampOut) ∧
      (w.status = .switchOn → (t.mon.lamps.get o).status =
        if ¬ on ∧ ¬ lit ∧ 8 ≤ w.clearRun + 1 then .ok else .switchOn) ∧
      (t.unit.mode = s.unit.mode → w.status = .ok → (t.mon.lamps.get o).status = .ok →
        (t.mon.lamps.get o).outRun = (if full ∧ on then if lit then 0 else w.outRun + 1 else w.outRun) ∧
        (t.mon.lamps.get o).onRun = (if on then w.onRun else if lit then w.onRun + 1 else 0)))

/-- O22. MONITOR_SAMPLE on the counts of the safety checks, in a control mode that the sample does not end: the conflict
count of every incompatible pair, the red judgments, and the clearance state of every vehicle channel (R122, R125,
R127, Figure 7-1). -/
def Obligations.SafetyCheckSample : Prop :=
  ∀ sense s report t, s.mon.awaiting = some report → s.unit.mode.isControl = true →
    exec (.monitorSample sense) s = .next t → t.unit.mode.isControl = true →
    (∀ n : Fin 120,
      let i := (pairTable.get n).1
      let j := (pairTable.get n).2
      let release := fun c : Chan => has sense (outputOf c 2) = true ∨
        ((s.chan c).kind ≠ .pedestrian ∧ has sense (outputOf c 1) = true)
      let dimHeld := fun c : Chan => report.get (outputOf c 2) = .skipped ∨
        ((s.chan c).kind ≠ .pedestrian ∧ report.get (outputOf c 1) = .skipped)
      (compatible s.compat.inUse i j = true → t.mon.conflicts.get n = s.mon.conflicts.get n) ∧
      (compatible s.compat.inUse i j = false → release i ∧ release j →
        t.mon.conflicts.get n = min 24 (s.mon.conflicts.get n + 1)) ∧
      (compatible s.compat.inUse i j = false →
        (¬ release i ∧ ¬ dimHeld i) ∨ (¬ release j ∧ ¬ dimHeld j) → t.mon.conflicts.get n = 0) ∧
      (compatible s.compat.inUse i j = false → ¬ (release i ∧ release j) → (release i ∨ dimHeld i) →
        (release j ∨ dimHeld j) → t.mon.conflicts.get n = s.mon.conflicts.get n)) ∧
    (∀ c : Chan,
      let old := s.mon.channels.get c
      let new := t.mon.channels.get c
      let lit := has sense (outputOf c 0) = true ∨ has sense (outputOf c 1) = true ∨ has sense (outputOf c 2) = true
      let driven := report.get (outputOf c 0) = .conduct ∨ report.get (outputOf c 1) = .conduct ∨
        report.get (outputOf c 2) = .conduct
      ((s.chan c).used = true → (s.chan c).redMonitor = true →
        (lit → new.lastRed = .lit ∧ new.redTimer = 0) ∧
        (¬ lit → driven → new.lastRed = .dark ∧ new.redTimer = old.redTimer) ∧
        (¬ lit → ¬ driven → new.lastRed = old.lastRed ∧ new.redTimer = old.redTimer)) ∧
      ((s.chan c).kind ≠ .vehicle → new.clearance = old.clearance ∧ new.amberCount = old.amberCount) ∧
      ((s.chan c).kind = .vehicle →
        (has sense (outputOf c 2) = true → new.clearance = .greenSeen ∧ new.amberCount = 0) ∧
        (has sense (outputOf c 2) = false → has sense (outputOf c 1) = true →
          (old.clearance = .greenSeen → new.clearance = .amberRun ∧ new.amberCount = 1) ∧
          (old.clearance = .amberRun →
            new.clearance = .amberRun ∧ new.amberCount = min 65535 (old.amberCount + 1)) ∧
          (old.clearance = .idle → new.clearance = .idle)) ∧
        (has sense (outputOf c 2) = false → has sense (outputOf c 1) = false → has sense (outputOf c 0) = true →
          new.clearance = .idle) ∧
        (¬ lit → new.clearance = old.clearance ∧ new.amberCount = old.amberCount)))

/-- O23. A fault found by MONITOR_SAMPLE takes the unit to FAULT_FLASH: a 24th half-cycle of release current on two
incompatible channels, a red with no amber or with too short an amber before it, and a 24th half-cycle of green
current in LOCAL_FLASH; an empty record takes the cause, the tenth counter and the mode (R123, R124, R128, R131,
R132, R145). A finding and a Compatibility notice of one moment set the additional-fault flag in either order; the moment
of a read's completion and what is one moment are the model's choices (log entries 34 and 35). -/
def Obligations.MonitorFault : Prop :=
  (∀ sense s report (n : Fin 120), s.mon.awaiting = some report → s.unit.mode.isControl = true →
    compatible s.compat.inUse (pairTable.get n).1 (pairTable.get n).2 = false → s.mon.conflicts.get n = 23 →
    has sense (outputOf (pairTable.get n).1 2) = true → has sense (outputOf (pairTable.get n).2 2) = true →
    ∃ t, exec (.monitorSample sense) s = .next t ∧ t.InFaultFlash ∧
      (s.mon.record = none → ∃ r, t.mon.record = some r ∧ r.cause = .conflict ∧ r.tenth = s.time.tenth ∧
        r.mode = s.unit.mode)) ∧
  (∀ sense s report (c : Chan), s.mon.awaiting = some report → s.unit.mode.isControl = true →
    (s.chan c).kind = .vehicle → has sense (outputOf c 2) = false → has sense (outputOf c 1) = false →
    has sense (outputOf c 0) = true →
    ((s.mon.channels.get c).clearance = .greenSeen ∨
      ((s.mon.channels.get c).clearance = .amberRun ∧
        (s.mon.channels.get c).amberCount < if s.time.sixty then 324 else 270)) →
    ∃ t, exec (.monitorSample sense) s = .next t ∧ t.InFaultFlash ∧
      (s.mon.record = none → ∃ r, t.mon.record = some r ∧ (r.cause = .conflict ∨ r.cause = .clearance) ∧
        r.tenth = s.time.tenth ∧ r.mode = s.unit.mode)) ∧
  (∀ sense s report (c : Chan), s.mon.awaiting = some report → s.unit.mode = .localFlash →
    has sense (outputOf c 2) = true → (s.mon.channels.get c).flashGreen = 23 →
    ∃ t, exec (.monitorSample sense) s = .next t ∧ t.InFaultFlash ∧
      (s.mon.record = none → ∃ r, t.mon.record = some r ∧ r.cause = .flashGreen ∧ r.first ≤ number c ∧
        r.tenth = s.time.tenth ∧ r.mode = .localFlash)) ∧
  (∀ sense s report, s.mon.awaiting = some report → s.mon.beside = none →
    (s.unit.mode = .startFlash ∨ s.unit.mode = .faultFlash) →
    ∃ t, exec (.monitorSample sense) s = .next t ∧ t.unit.mode = s.unit.mode ∧ t.mon.record = s.mon.record) ∧
  (∀ sense (cells : BitVec 128) s report k old (c : Chan), s.mon.awaiting = some report → s.mon.record = none →
    s.unit.mode.isControl = true → s.compat.reading = some k → s.compat.previous = some old → old.coded = false →
    cells.extractLsb' 120 8 ≠ 0b01001101#8 → s.compat.status ≠ .absent →
    s.compat.readStart + 6400 = s.time.lastCrossing + 3000 → s.time.clock ≤ s.time.lastCrossing + 3000 →
    (s.chan c).kind = .vehicle → has sense (outputOf c 2) = false → has sense (outputOf c 1) = false →
    has sense (outputOf c 0) = true → (s.mon.channels.get c).clearance = .greenSeen →
    (∃ t u, exec (.plugReadComplete cells) s = .next t ∧ exec (.monitorSample sense) t = .next u ∧
      u.unit.mode = .faultFlash ∧ u.mon.record = some ⟨.plug, 0, 0, s.time.tenth, s.unit.mode, true⟩) ∧
    (∃ t u r, exec (.monitorSample sense) s = .next t ∧ exec (.plugReadComplete cells) t = .next u ∧
      t.mon.record = some r ∧ (r.cause = .conflict ∨ r.cause = .clearance) ∧
      u.unit.mode = .faultFlash ∧ u.mon.record = some { r with additional := true }))

/-- O24. SUPPLY_SAMPLE: fifteen samples are summed, the sixteenth completes the window, and the category moves as Table
9-3 gives, with the thresholds in their ranges (R158, R159). That a sample not due changes nothing is the model's choice
(log entry 3), and so are the clock (log entry 8) and the moment of a sample that a SET TIMEBASE has made overdue (log entry
56). -/
def Obligations.SupplySample : Prop :=
  (∀ r s, s.time.sampleDue = false → exec (.supplySample r) s = .next s) ∧
  (∀ (r : Byte) s, s.time.sampleDue = true → s.time.windowCount < 15 → exec (.supplySample r) s = .next
    { s with
      time := { s.time with
        sampleDue := false, windowCount := s.time.windowCount + 1, windowSum := s.time.windowSum + r.toNat
        clock := max s.time.clock (s.time.lastCrossing + if s.time.sixty then 4167 else 5000) } }) ∧
  (∀ (r : Byte) s, s.time.sampleDue = true → 15 ≤ s.time.windowCount → s.SettingsSafe →
    ∃ t, exec (.supplySample r) s = .next t ∧
      t.time.sampleDue = false ∧ t.time.windowCount = 0 ∧ t.time.windowSum = 0 ∧
      t.time.reading = (s.time.windowSum + r.toNat) / 16 ∧
      (t.time.category ≠ s.time.category → has t.link.flags Report.supply.index = true) ∧
      (t.time.category =
        let S := (s.time.windowSum + r.toNat) / 16
        if s.time.high < S then .high
        else if s.time.sag ≤ S then
          match s.time.category with
          | .unknown | .normal => .normal
          | .dropout | .sag => if S < s.time.sag + 6 then .sag else .normal
          | .high => if s.time.high - 6 ≤ S then .high else .normal
        else if s.time.dropout ≤ S then
          match s.time.category with
          | .dropout => if S < s.time.dropout + 6 then .dropout else .sag
          | .unknown | .normal | .sag | .high => .sag
        else .dropout))

/-- O25. The two ends of an outage, at the sixteenth sample: POWER_OUT remembers the mode and holds every used channel;
its end goes to FAULT_FLASH, to a short outage resume with what that mode owes, or to a restart (R147, R148, R149,
R20, R29, R134). A short outage resume gives every channel its held indication with its frozen interval timer and leaves the
Sequencer, the green timers and the Arbiter as the outage froze them; the judgments that follow at the moment, those of O58 to
O60 in CONTROLLED, leave an amber, a red clearance, and, with no preempt asking, a pedestrian clearance and a walk as restored
(R20, R59, R81, R115). That the interval timers stay also where the same moment takes a lock away with a tenth tick, that the
Unit Mode Machine acts at a resume before the other blocks judge, and the settling of the moment, are the model's choices (log
entries 45, 58 and 6). -/
def Obligations.Outage : Prop :=
  (∀ (r : Byte) s, s.time.sampleDue = true → 15 ≤ s.time.windowCount → s.unit.mode ≠ .powerOut →
    s.time.category ≠ .dropout → nextCategory s.time ((s.time.windowSum + r.toNat) / 16) = .dropout →
    ∃ t, exec (.supplySample r) s = .next t ∧
      t.unit.mode = .powerOut ∧ t.unit.remembered = some s.unit.mode ∧ t.unit.ftr = false ∧ t.lamps.drives = 0 ∧
      (∀ c, (t.chan c).ind = .dark ∧ (t.chan c).timer = (s.chan c).timer ∧
        (t.chan c).held = if (s.chan c).used then some (s.chan c).ind else none) ∧
      t.signs.shifting = false ∧ t.mon.record = s.mon.record ∧ t.mon.awaiting = none ∧
      (s.signs.shifting = true → t.signs.sck = false ∧ t.signs.sdo = false ∧ t.signs.slat = false) ∧
      (s.time.lock ≠ .locked → t.unit.outageTimer = 0 ∧ t.seq = s.seq ∧ t.greens = s.greens)) ∧
  (∀ (r : Byte) s m, s.time.sampleDue = true → 15 ≤ s.time.windowCount → s.unit.mode = .powerOut →
    s.time.category = .dropout → nextCategory s.time ((s.time.windowSum + r.toNat) / 16) ≠ .dropout →
    s.unit.remembered = some m → m ≠ .powerOut → ∃ t, exec (.supplySample r) s = .next t ∧
      t.unit.remembered = none ∧ t.unit.owedLinkLoss = false ∧
      (m = .faultFlash → t.unit.mode = .faultFlash ∧ t.unit.ftr = false ∧ t.mon.record = s.mon.record ∧
        ∀ c, (t.chan c).ind = .dark ∧ (t.chan c).held = none) ∧
      (m ≠ .faultFlash → s.unit.shortOutage < s.unit.outageTimer →
        t.unit.mode = .startFlash ∧ t.unit.ftr = false ∧ t.unit.startFlashTimer = s.unit.startFlashTime ∧
        t.unit.outageTimer = 0 ∧ t.compat.owed = none ∧ t.mon.record = s.mon.record ∧ t.seq.queue = s.seq.queue ∧
        t.mon.awaiting = s.mon.awaiting ∧
        t.seq.position = 0 ∧ t.seq.current = false ∧ t.seq.hold = false ∧
        (∀ c, (t.chan c).ind = .dark ∧ (t.chan c).held = none) ∧
        ∀ c, (t.green c).latch = (s.chan c).used ∧ (t.green c).actCount = 0) ∧
      (m ≠ .faultFlash → s.unit.outageTimer ≤ s.unit.shortOutage →
        (∀ k, m.isControl = true → s.compat.owed = some k → t.InFaultFlash ∧ t.compat.owed = none) ∧
        (s.compat.owed = none → (m = .entryRed ∨ m = .controlled) → s.unit.switchLevel = true →
          t.unit.cause = .manual ∧ (t.unit.mode = .clearingToFlash ∨ t.unit.mode = .localFlash)) ∧
        (s.compat.owed = none → (m = .entryRed ∨ m = .controlled) → s.unit.switchLevel = false →
          s.unit.owedLinkLoss = true →
          t.unit.cause = .linkLost ∧ (t.unit.mode = .clearingToFlash ∨ t.unit.mode = .localFlash)) ∧
        (s.compat.owed = none → (m = .entryRed ∨ m = .controlled) → s.unit.switchLevel = false →
          s.unit.owedLinkLoss = false → t.unit.mode = m ∧ t.unit.ftr = true) ∧
        (s.compat.owed = none → m = .clearingToFlash →
          (t.unit.mode = .clearingToFlash ∨ t.unit.mode = .localFlash) ∧ t.unit.ftr = true ∧
            t.unit.cause = s.unit.cause) ∧
        ((m = .startFlash ∨ m = .localFlash) →
          t.unit.mode = m ∧ t.unit.ftr = m.relay ∧
            ∀ c, (t.chan c).ind = (s.chan c).held.getD .dark ∧ (t.chan c).held = none) ∧
        ((m.isControl = true → s.compat.owed = none) →
          (m = .entryRed ∨ m = .controlled → s.unit.switchLevel = false ∧ s.unit.owedLinkLoss = false) →
          ∃ u, t = settle s u ∧
            (∀ c, (u.chan c).ind = (s.chan c).held.getD .dark ∧ (u.chan c).timer = (s.chan c).timer ∧
              (u.chan c).held = none) ∧
            u.seq = s.seq ∧ u.greens = s.greens ∧ u.arb = s.arb ∧ u.pres = s.pres ∧ u.dets = s.dets ∧
            u.unit = { s.unit with mode := m, ftr := m.relay, remembered := none, owedLinkLoss := false }) ∧
        (s.compat.owed = none → m.isControl = true → ∀ c, (t.chan c).held = none ∧ ((s.chan c).used = true →
          let judged := m = .controlled ∧ ¬ s.preemptsQuiet
          ((s.chan c).held = some .amber → (t.chan c).ind = .amber ∧ (t.chan c).timer = (s.chan c).timer ∧
            (t.chan c).staged = ⟨.unlit, .steady, .unlit⟩) ∧
          ((s.chan c).held = some .redClear → (t.chan c).ind = .redClear ∧ (t.chan c).timer = (s.chan c).timer ∧
            (t.chan c).staged = ⟨.steady, .unlit, .unlit⟩) ∧
          ((s.chan c).held = some .pedClear → (t.chan c).ind = .pedClear ∧ (t.chan c).timer ≤ (s.chan c).timer ∧
            (¬ judged → (t.chan c).timer = (s.chan c).timer) ∧ (t.chan c).staged = ⟨.flashA, .unlit, .unlit⟩) ∧
          ((s.chan c).held = some .green → (s.chan c).kind = .pedestrian → ¬ judged →
            (t.chan c).ind = .green ∧ (t.chan c).timer = (s.chan c).timer) ∧
          ((s.chan c).held = some .green → (s.chan c).kind = .vehicle →
            ((t.chan c).ind = .green ∨ (t.chan c).ind = .amber) ∧ ((t.chan c).ind = .green → ∃ k r,
              t.green c = { s.green c with clock := k, initial := r } ∧ r ≤ (s.green c).initial ∧
              (¬ judged → r = (s.green c).initial) ∧
              ((s.green c).clock = none ∨ k = (s.green c).clock) ∧ (k = none ∨ k = some 0 ∨ k = (s.green c).clock))))) ∧
        (s.compat.owed = none → m = .entryRed → s.unit.switchLevel = false → s.unit.owedLinkLoss = false →
          t.unit.entryRedTimer = s.unit.entryRedTimer ∧ t.seq = s.seq ∧ t.arb = s.arb ∧
          ∀ c, (t.chan c).ind = (s.chan c).held.getD .dark ∧ (t.chan c).timer = (s.chan c).timer) ∧
        (s.compat.owed = none → m = .clearingToFlash →
          t.seq = { s.seq with owedEnds := t.seq.owedEnds } ∧ t.arb = s.arb) ∧
        (s.compat.owed = none → m = .controlled → s.unit.switchLevel = false → s.unit.owedLinkLoss = false →
          t.seq.mode = s.seq.mode ∧ t.seq.hold = s.seq.hold ∧ t.seq.nextSerial = s.seq.nextSerial ∧
          (∀ r, s.seq.current = true → (s.seq.phase = .fullGreen ∨ s.seq.phase = .resting) → s.seq.transition = none →
            s.record = some r → r.termination = .fixed → s.seq.force = false → 0 < s.seq.stepTimer → s.preemptsQuiet →
            t.seq.current = true ∧ t.seq.queue = s.seq.queue ∧ t.seq.position = s.seq.position ∧
              t.seq.stepTimer = s.seq.stepTimer ∧ t.arb = s.arb) ∧
          (∀ p, s.arb.holder = some p →
            ((s.pre p).state = .track ∨ ((s.pre p).state = .dwell ∧ s.seq.transition = none)) →
            0 < (s.pre p).serviceTimer → (∀ q, q ≠ p → (s.pre q).state = .idle ∧ (s.pre q).active = false) →
            t.arb = s.arb ∧ t.pre p = s.pre p))))

/-- O26. PLUG_READ_COMPLETE: the class of the read, the agreement with the previous one, the plug status, the
disagreement count, the replacement of the in-use table with the match, the prune of the queue and the check of the
preempts, and the notice: given in a control mode, owed in an outage that remembers one, dropped in START_FLASH and
LOCAL_FLASH (R22 to R29, R31, Figure 2-1). PLD, PCK and the cells taken in each PCK period of 50 µs of a read, PCK low before its
first edge and after its last. That the row changes nothing with no read in progress, and the level of PCK between its edges,
are the model's choices (log entries 3, 12 and 14). -/
def Obligations.PlugReadComplete : Prop :=
  (∀ (c : Compat) n r, r < 50 → let moment := c.readStart + 50 * n + r
    (c.pldAt moment = true ↔ n = 0) ∧ (c.pckAt moment false = true ↔ 1 ≤ n ∧ n ≤ 128) ∧ c.pckAt moment true = false ∧
      (c.reading = some 0 → n < 128 → c.cellsAt moment = some n)) ∧
  (∀ cells s, s.compat.reading = none → exec (.plugReadComplete cells) s = .next s) ∧
  (∀ (cells : BitVec 128) s k, s.compat.reading = some k → ∃ t, exec (.plugReadComplete cells) s = .next t ∧
    let coded := cells.extractLsb' 120 8 = 0b01001101#8
    let content : PairTable := cells.extractLsb' 0 120
    t.compat.reading = none ∧ t.compat.previous = some ⟨decide coded, content⟩ ∧
    (s.compat.previous = none →
      t.compat.status = s.compat.status ∧ t.compat.disagreements = s.compat.disagreements ∧
      t.compat.inUse = s.compat.inUse) ∧
    (∀ old, s.compat.previous = some old →
      (coded → old.coded = true → old.pairs = content →
        t.compat.status = .valid ∧ t.compat.disagreements = 0 ∧ t.compat.inUse = content ∧
        (content = s.compat.inUse → t.compat.isMatch = s.compat.isMatch) ∧
        (content ≠ s.compat.inUse →
          t.compat.isMatch = (s.compat.hostCopy == some content) ∧
          t.seq.queue = s.seq.queue.filter (fun r => pairwiseCompatible content r.greenSet) ∧
          (t.seq.queue.length < s.seq.queue.length → t.seq.pruned = true ∧ has t.link.flags Report.stage.index = true) ∧
          (∀ p, (t.pre p).cfg = { (s.pre p).cfg with
            enable := (s.pre p).cfg.enable && pairwiseCompatible content (s.pre p).cfg.trackSet &&
              pairwiseCompatible content (s.pre p).cfg.dwellSet }) ∧
          (s.unit.mode.isControl = true → t.InFaultFlash ∧
            (s.mon.record = none → ∃ r, t.mon.record = some r ∧ r.cause = .plugChanged ∧ r.first = 0 ∧ r.second = 0)))) ∧
      (¬ coded → old.coded = false →
        t.compat.status = .absent ∧ t.compat.disagreements = 0 ∧ t.compat.inUse = s.compat.inUse ∧
        (s.compat.status ≠ .absent → s.unit.mode.isControl = true → t.InFaultFlash ∧
          (s.mon.record = none → ∃ r, t.mon.record = some r ∧ r.cause = .plug))) ∧
      ((coded ∧ (old.coded = false ∨ old.pairs ≠ content)) ∨ (¬ coded ∧ old.coded = true) →
        t.compat.inUse = s.compat.inUse ∧
        t.compat.disagreements = (if s.compat.disagreements < 5 then s.compat.disagreements + 1
          else s.compat.disagreements) ∧
        t.compat.status = (if s.compat.disagreements = 4 then .unstable else s.compat.status) ∧
        (s.compat.disagreements = 4 → s.unit.mode.isControl = true → t.InFaultFlash ∧
          (s.mon.record = none → ∃ r, t.mon.record = some r ∧ r.cause = .plug)))) ∧
    (t.compat.status ≠ s.compat.status → has t.link.flags Report.status.index = true) ∧
    (s.unit.mode = .powerOut → s.standingMode.isControl = true →
      t.unit.mode = .powerOut ∧ t.mon.record = s.mon.record ∧
      ∀ old, s.compat.previous = some old →
        (coded → old.coded = true → old.pairs = content → t.compat.owed =
          if content = s.compat.inUse then s.compat.owed else s.compat.owed.or (some .plugChanged)) ∧
        (¬ coded → old.coded = false → t.compat.owed =
          if s.compat.status = .absent then s.compat.owed else s.compat.owed.or (some .plug)) ∧
        ((coded ∧ (old.coded = false ∨ old.pairs ≠ content)) ∨ (¬ coded ∧ old.coded = true) → t.compat.owed =
          if s.compat.disagreements = 4 then s.compat.owed.or (some .plug) else s.compat.owed)) ∧
    ((s.unit.mode = .startFlash ∨ s.unit.mode = .localFlash) →
      t.unit.mode = s.unit.mode ∧ t.mon.record = s.mon.record ∧ t.compat.owed = s.compat.owed))

/-! ### The events of one item at a tick or a sample (log entry 5) -/

/-- O27. The four interval expiries of a used channel in a control mode: amber and pedestrian clearance go to RED_CLEAR
with the pending RedClear or, when that is 0, to RED; a red clearance to RED; a walk to PED_CLEAR with the pending
PedClear (R3, R7 to R9). That each is a row of its own, one item's share of the coming tick, and that MAINS_TENTH is a tenth
tick of its own, are the model's choices (log entry 5), and so is that the copy of a RedClear of 0 is made at the end of a
pedestrian clearance too (log entry 48). What follows at the moment is settled (log entry 6). At a
whole tenth tick every interval timer of a control mode falls by one, and an amber at 0 expires; outside the control modes no channel changes (R4). -/
def Obligations.IntervalExpiry : Prop :=
  (∀ e c s, s.unit.mode.isControl = true → (s.chan c).timer = 0 → (s.chan c).used = true →
    (e = .amberExpiry c ∧ (s.chan c).ind = .amber ∨ e = .pedClearExpiry c ∧ (s.chan c).ind = .pedClear) →
    (0 < (s.chan c).pendingSet.redClear → ∃ t, exec e s = .next t ∧ (t.chan c).ind = .redClear ∧
      (t.chan c).timer = (s.chan c).pendingSet.redClear ∧
      (t.chan c).activeSet = { (s.chan c).activeSet with redClear := (s.chan c).pendingSet.redClear } ∧
      (t.chan c).staged = ⟨.steady, .unlit, .unlit⟩ ∧ (t.chan c).applied = (s.chan c).applied) ∧
    ((s.chan c).pendingSet.redClear = 0 → exec e s = .next (settle s (enter c .red
      (s.setChan c { s.chan c with
        timer := 0, activeSet := { (s.chan c).activeSet with redClear := 0 } }))))) ∧
  (∀ c s, s.unit.mode.isControl = true → (s.chan c).timer = 0 → (s.chan c).ind = .redClear →
    exec (.redClearanceExpiry c) s = .next (settle s (enter c .red s)) ∧
    (s.unit.mode = .entryRed → ∃ t, exec (.redClearanceExpiry c) s = .next t ∧ (t.chan c).ind = .red ∧
      (t.chan c).staged = ⟨.steady, .unlit, .unlit⟩)) ∧
  (∀ c s, s.unit.mode.isControl = true → (s.chan c).timer = 0 → (s.chan c).kind = .pedestrian →
    (s.chan c).ind = .green → ∃ t, exec (.walkExpiry c) s = .next t ∧ (t.chan c).ind = .pedClear ∧
      (t.chan c).timer ≤ (s.chan c).pendingSet.pedClear ∧
      (t.chan c).activeSet = { (s.chan c).activeSet with pedClear := (s.chan c).pendingSet.pedClear } ∧
      (t.chan c).staged = ⟨.flashA, .unlit, .unlit⟩ ∧
      (s.preemptsQuiet → (t.chan c).timer = (s.chan c).pendingSet.pedClear)) ∧
  (∀ e s t, s.takesTenth e → exec e s = .next t →
    (s.unit.mode.isControl = false → t.chans = s.chans ∧ t.seq = s.seq) ∧
    (s.unit.mode.isControl = true → t.unit.mode ≠ .faultFlash → ∀ c n, (s.chan c).used = true →
      (((s.chan c).ind = .amber ∨ (s.chan c).ind = .redClear) → (s.chan c).timer = n + 1 →
        (t.chan c).ind = (s.chan c).ind ∧ (t.chan c).timer = n) ∧
      ((s.chan c).ind = .amber → (s.chan c).timer = 0 → 0 < (s.chan c).pendingSet.redClear →
        (t.chan c).ind = .redClear ∧ (t.chan c).timer = (s.chan c).pendingSet.redClear) ∧
      ((s.chan c).ind = .pedClear → (s.chan c).timer = n + 1 →
        (t.chan c).ind = .pedClear ∧ (t.chan c).timer ≤ n ∧ (s.preemptsQuiet → (t.chan c).timer = n)) ∧
      ((s.chan c).ind = .green → (s.chan c).kind = .pedestrian → (s.chan c).timer = n + 1 → s.preemptsQuiet →
        (t.chan c).ind = .green ∧ (t.chan c).timer = n)))

/-- O28. The step timer of a FIXED step, and the initial-green, gap and max timers of a GREEN vehicle channel, at the tick
that brings each to 0 (R49, R69, R72, R73); what follows at the moment is settled (log entries 5 and 6). At a whole tenth
tick the timers of every vehicle channel that stays GREEN and the timer of a FIXED step that goes on (R49, R69 to R73), and
the green timers frozen in an outage (R81). -/
def Obligations.GreenTimerEvents : Prop :=
  (∀ s r, s.unit.mode = .controlled → s.seq.current = true → (s.seq.phase = .fullGreen ∨ s.seq.phase = .resting) →
    s.record = some r → r.termination = .fixed → s.seq.stepTimer = 1 →
    exec .stepTimerExpiry s = .next (settle s { s with seq := { s.seq with stepTimer := 0 } })) ∧
  (∀ c s, s.unit.mode ≠ .powerOut → (s.chan c).kind = .vehicle → (s.chan c).ind = .green →
    ((s.green c).initial = 1 → exec (.initialGreenRunOut c) s = .next (settle s
      { s with greens := vset s.greens c { s.green c with initial := 0 } })) ∧
    ((∀ d, has (s.extends d) c = false) → (s.green c).gap = 1 → exec (.gapOut c) s = .next (settle s
      { s with greens := vset s.greens c { s.green c with gap := 0 } })) ∧
    ((∃ d, has s.serviceable d = true ∧ compatible s.compat.inUse c d = false) → (s.green c).maxTimer = 1 →
      exec (.maxOut c) s = .next (settle s
        { s with greens := vset s.greens c { s.green c with maxTimer := 0, maxOut := true } }))) ∧
  (∀ e s t, s.takesTenth e → exec e s = .next t →
    (s.unit.mode = .powerOut → ∀ c, t.green c = { s.green c with latch := (t.green c).latch }) ∧
    (s.unit.mode ≠ .powerOut → ∀ c, (s.chan c).kind = .vehicle → (s.chan c).ind = .green → (t.chan c).ind = .green →
      let old := s.green c
      let new := t.green c
      let pressed := ∃ d, has s.serviceable d = true ∧ compatible s.compat.inUse c d = false
      let clock := old.clock.map (fun n => min 65535 (n + 1))
      let allowed := allowedGap (s.chan c).activeSet clock
      new.elapsed = min 65535 (old.elapsed + 1) ∧
      new.initial ≤ old.initial - 1 ∧ (s.preemptsQuiet → new.initial = old.initial - 1) ∧
      (old.clock ≠ none → new.clock = clock) ∧ (old.clock = none → new.clock = none ∨ new.clock = some 0) ∧
      ((∃ d, has (s.extends d) c = true) → new.gap = allowed) ∧
      ((∀ d, has (s.extends d) c = false) → new.gap = min (old.gap - 1) allowed) ∧
      (pressed → new.maxTimer = old.maxTimer - 1 ∧ new.maxOut = (old.maxOut || old.maxTimer - 1 == 0)) ∧
      (¬ pressed → new.maxTimer = old.maxTimer ∧ new.maxOut = old.maxOut) ∧
      new.latch = old.latch ∧ new.actCount = old.actCount) ∧
    (∀ r, s.unit.mode = .controlled → s.seq.current = true → (s.seq.phase = .fullGreen ∨ s.seq.phase = .resting) →
      s.seq.transition = none → s.record = some r → r.termination = .fixed → s.seq.force = false →
      1 < s.seq.stepTimer → s.preemptsQuiet → t.unit.mode = .controlled →
      t.seq.current = true ∧ t.seq.queue = s.seq.queue ∧ t.seq.position = s.seq.position ∧
        t.seq.stepTimer = s.seq.stepTimer - 1))

/-- O29. The events of the unit mode: the start-flash timer only lifts its reason; ENTRY_RED ends in CONTROLLED; a red
fail goes to FAULT_FLASH, the lowest channel that fails at the coming tick writing the record and any other marking it
additional; the manual switch turns at the tenth differing sample, its on-edge beginning the
orderly flash in ENTRY_RED and CONTROLLED (R126, R131, R132, R138, R139, R141, R143, R145). The rows are log entry 5; that
the record of RED_FAIL as a row of its own takes the tenth counter before the tick raises it, and that a timer which a SET
START finds at or above the lowered time fails at its next rise, are the model's choices (log entries 44 and 49). -/
def Obligations.UnitEvents : Prop :=
  (∀ s, s.unit.mode = .startFlash → s.unit.startFlashTimer = 1 → exec .startFlashTimerExpiry s = .next
    { s with unit := { s.unit with startFlashTimer := 0 } }) ∧
  (∀ s, s.unit.mode = .entryRed → s.unit.entryRedTimer = 1 → ∃ t, exec .entryRedEnd s = .next t ∧
    t.unit = { s.unit with mode := .controlled, ftr := true, entryRedTimer := 0 } ∧
    has t.link.flags Report.mode.index = true) ∧
  (∀ c s, s.unit.mode.isControl = true → (s.time.category = .normal ∨ s.time.category = .high) →
    let fails := fun e : Chan => (s.chan e).used = true ∧ (s.chan e).redMonitor = true ∧
      (s.mon.channels.get e).lastRed = .dark ∧ s.mon.redFailTime ≤ (s.mon.channels.get e).redTimer + 1
    fails c → ∃ t, exec (.redFail c) s = .next t ∧ t.InFaultFlash ∧
      (∀ d, s.mon.record = none → fails d → (∀ e, fails e → d ≤ e) → ∃ more,
        t.mon.record = some ⟨.redFail, number d, 0, s.time.tenth, s.unit.mode, more⟩ ∧
        (more = true ↔ ∃ e, e ≠ d ∧ fails e)) ∧
      (∀ r, s.mon.record = some r → t.mon.record = some { r with additional := true })) ∧
  (∀ s, s.unit.switchRun = 9 → ∃ t, exec .manualFlashSwitchEdge s = .next t ∧
    t.unit.switchLevel = (!s.unit.switchLevel) ∧ t.unit.switchRun = 0 ∧ has t.link.flags Report.mode.index = true ∧
    (s.unit.switchLevel = false → (s.unit.mode = .entryRed ∨ s.unit.mode = .controlled) →
      t.unit.cause = .manual ∧ t.unit.ftr = true ∧ (t.unit.mode = .clearingToFlash ∨ t.unit.mode = .localFlash) ∧
        t.seq.current = false ∧ t.seq.force = false ∧ t.arb.holder = none) ∧
    (s.unit.switchLevel = true → s.unit.mode ≠ .clearingToFlash →
      t.unit.mode = s.unit.mode ∧ t.unit.cause = s.unit.cause))

/-- O30. The level change of one detector: its own activity in every mode but OFF, the faults that an edge clears, the
CHATTER of the window count, the calls of a PULSE detector and the delay timer of a PRESENCE one; the extending actuation
it gives and the confirm request of an on-edge; and, for this row and for a SCAN_TICK, the direction state of a pair with
its counts and its wrong-way mark (R84 to R90, R92 to R97, R67, R72, R169, Figure 5-1). The row's form (log entry 5) and
that the on-edge which reaches the chatter limit gives no actuation (log entry 16) are the model's choices. -/
def Obligations.DetectorLevelChange : Prop :=
  (∀ d s, (s.det d).run = 2 → ∃ t, exec (.detectorLevelChange d) s = .next t ∧
    (t.det d).level = (!(s.det d).level) ∧ (t.det d).run = 0 ∧
    (∀ e, e ≠ d → (t.det e).level = (s.det e).level ∧ (t.det e).run = (s.det e).run ∧
      (t.det e).volume = (s.det e).volume ∧ (t.det e).fault = (s.det e).fault ∧
      (t.det e).presence = (s.det e).presence ∧ (t.det e).absence = (s.det e).absence) ∧
    ((s.det d).mode = .off → t.det d = { s.det d with level := !(s.det d).level, run := 0 }) ∧
    ((s.det d).mode ≠ .off → (s.det d).level = false →
      (t.det d).volume = (s.det d).volume + 1 ∧ (t.det d).presence = 0 ∧ (t.det d).absence = 0 ∧
      (t.det d).window = min 255 ((s.det d).window + 1) ∧
      (t.det d).fault =
        (if ((s.det d).fault = .ok ∨ (s.det d).fault = .noActivity) ∧ (s.det d).chatterLimit ≤ (t.det d).window then
          .chatter
        else if (s.det d).fault = .noActivity then .ok else (s.det d).fault)) ∧
    ((s.det d).mode ≠ .off → (s.det d).level = true →
      (t.det d).volume = (s.det d).volume ∧ (t.det d).presence = 0 ∧ (t.det d).absence = (s.det d).absence ∧
      (t.det d).window = (s.det d).window ∧
      (t.det d).fault = (if (s.det d).fault = .stuckOn then .ok else (s.det d).fault)) ∧
    ((s.det d).mode = .presence → (t.det d).delayTimer = 0) ∧
    ((t.det d).fault ≠ (s.det d).fault →
      has t.detMasks.changed d = true ∧ has t.link.flags Report.detector.index = true) ∧
    ((s.det d).mode = .pulse → (s.det (partner d)).mode ≠ .pair → (s.det d).level = false → (t.det d).fault = .ok →
      s.unit.mode ≠ .controlled →
      ∀ c, has (s.det d).callMask c = true → (s.chan c).used = true → s.shown c ≠ .green →
        (t.green c).latch = true) ∧
    (let lead := if isLead d then d else partner d
     let single := (s.det lead).mode ≠ .pair ∧ ((s.det d).mode = .presence ∨ (s.det d).mode = .pulse) ∧
       (s.det d).level = false ∧ (t.det d).fault = .ok
     let forward := (s.det lead).mode = .pair ∧ (s.det lead).direction = .leadOn ∧ d = partner lead ∧
       (s.det d).level = false ∧ (t.det lead).fault = .ok ∧ (t.det d).fault = .ok
     ∀ c, (t.chan c).ind = (s.chan c).ind →
       let actuated := (s.chan c).kind = .vehicle ∧
         ((single ∧ has (s.det d).extendMask c = true) ∨ (forward ∧ has (s.det lead).extendMask c = true))
       (t.green c).actCount =
         (if actuated ∧ s.shown c ≠ .green then min 255 ((s.green c).actCount + 1) else (s.green c).actCount) ∧
       (t.green c).gap =
         (if actuated ∧ s.shown c = .green ∧ s.unit.mode ≠ .powerOut then
            allowedGap (s.chan c).activeSet (s.green c).clock
          else (s.green c).gap)) ∧
    (∀ i c, (s.line i).channel = some c → (t.chan c).ind = (s.chan c).ind → t.unit.mode = s.unit.mode →
      let asks := (s.line i).button = some d ∧ (s.det d).level = false ∧ s.lineActive i = true ∧
        (s.chan c).ind ≠ .green ∧ (s.line i).confirmTimer = 0
      (asks → (t.line i).confirmTimer = 250 ∧ (t.line i).tickOpen = false ∧
        (t.line i).sounding = if (s.line i).walkCycle.any (fun n => n < 30) then .walk else .confirm) ∧
      (¬ asks → (t.line i).confirmTimer = (s.line i).confirmTimer ∧ (t.line i).tickOpen = (s.line i).tickOpen))) ∧
  (∀ e s t lead, isLead lead = true → (s.det lead).mode = .pair →
    (s.turns e lead = true ∨ s.turns e (partner lead) = true) → exec e s = .next t →
    let on := fun d : Det => s.turns e d = true ∧ (s.det d).level = false
    let leadOn := on lead
    let lagOn := on (partner lead)
    let off := fun d : Det => (s.det d).level = s.turns e d
    let bothOff := off lead ∧ off (partner lead)
    let old := s.det lead
    let new := t.det lead
    (old.direction = .clear → new.direction =
      if leadOn ∧ lagOn then .unresolved else if leadOn then .leadOn else if lagOn then .lagOn else .clear) ∧
    (old.direction = .leadOn → new.direction = if lagOn then .forward else if bothOff then .clear else .leadOn) ∧
    (old.direction = .lagOn → new.direction = if leadOn then .reverse else if bothOff then .clear else .lagOn) ∧
    ((old.direction = .forward ∨ old.direction = .reverse ∨ old.direction = .unresolved) →
      new.direction = if bothOff then .clear else old.direction) ∧
    new.forward = (if old.direction = .forward ∧ bothOff then old.forward + 1 else old.forward) ∧
    new.reverse = (if old.direction = .reverse ∧ bothOff then old.reverse + 1 else old.reverse) ∧
    has t.detMasks.wrongWay lead =
      (has s.detMasks.wrongWay lead || decide (old.direction = .reverse ∧ bothOff ∧ old.wrongWay = true)) ∧
    (old.direction = .reverse → bothOff → old.wrongWay = true → has t.link.flags Report.detector.index = true))

/-- O31. The faults and the delay of one detector at a tick, and the end of a chatter window (R90, R91, R95 to R99). -/
def Obligations.DetectorTimerEvents : Prop :=
  (∀ d s, s.detOccupied d = true → (s.det d).delayTimer + 1 = (s.det d).delay →
    ∃ t, exec (.delayReached d) s = .next t ∧
      t.dets = vset s.dets d { s.det d with delayTimer := (s.det d).delay } ∧
      ((s.det d).locking = true → s.detFaulted d = false →
        ((s.det d).mode = .pair → (s.det d).direction = .forward) → s.unit.mode ≠ .controlled →
        ∀ c, has (s.det d).callMask c = true → (s.chan c).used = true → s.shown c ≠ .green →
          (t.green c).latch = true)) ∧
  (∀ d s, (s.det d).mode ≠ .off → (s.det d).fault = .ok → (s.det d).level = true → (s.det d).maxPresence ≠ 0 →
    (s.det d).presence = (s.det d).maxPresence * 600 → (s.det d).maxPresence ≤ 255 →
    ∃ t, exec (.stuckOn d) s = .next t ∧
      t.dets = vset s.dets d { s.det d with presence := (s.det d).presence + 1, fault := .stuckOn } ∧
      t.detMasks = { s.detMasks with changed := insertBit s.detMasks.changed d } ∧
      has t.link.flags Report.detector.index = true) ∧
  (∀ d s, (s.det d).mode ≠ .off → (s.det d).fault = .ok → (s.det d).level = false → (s.det d).maxAbsence ≠ 0 →
    (s.det d).absence = (s.det d).maxAbsence * 600 → (s.det d).maxAbsence ≤ 255 →
    ∃ t, exec (.noActivity d) s = .next t ∧
      t.dets = vset s.dets d { s.det d with absence := (s.det d).absence + 1, fault := .noActivity } ∧
      t.detMasks = { s.detMasks with changed := insertBit s.detMasks.changed d } ∧
      has t.link.flags Report.detector.index = true) ∧
  (∀ d s, (s.det d).mode ≠ .off → (s.det d).fault = .ok → (s.det d).level = false → (s.det d).run = 2 →
    (s.det d).window < 255 → (s.det d).chatterLimit = (s.det d).window + 1 →
    ∃ t, exec (.chatter d) s = .next t ∧
      t.dets = vset s.dets d { s.det d with window := (s.det d).window + 1, fault := .chatter } ∧
      t.detMasks = { s.detMasks with changed := insertBit s.detMasks.changed d } ∧
      has t.link.flags Report.detector.index = true) ∧
  (∀ s, (s.time.tenth + 1).toNat % 10 = 0 → ∃ t, exec .chatterWindowEnd s = .next t ∧
    (∀ d, (s.det d).mode = .off → t.det d = s.det d) ∧
    (∀ d, (s.det d).mode ≠ .off → (s.det d).fault ≠ .chatter → t.det d = { s.det d with window := 0 }) ∧
    (∀ d, (s.det d).mode ≠ .off → (s.det d).fault = .chatter → (s.det d).chatterLimit ≤ (s.det d).window →
      t.det d = { s.det d with window := 0, cleanRun := 0 }) ∧
    (∀ d, (s.det d).mode ≠ .off → (s.det d).fault = .chatter → (s.det d).window < (s.det d).chatterLimit →
      t.det d =
        if (s.det d).cleanRun = 9 then { s.det d with window := 0, cleanRun := 0, fault := .ok }
        else { s.det d with window := 0, cleanRun := (s.det d).cleanRun + 1 }))

/-- O32. The events of a preempt: the level change of its input, the stuck flag, the delay's end, and the service timers
of TRACK and DWELL (R104, R105, R110, R111); what follows at the moment is settled (log entries 5 and 6). At a whole tenth
tick the delay timer of a request that goes on, and the service timer of a TRACK or a DWELL that goes on (R105, R110, R111,
R115). -/
def Obligations.PreemptEvents : Prop :=
  (∀ p s, (s.pre p).run = 2 → ∃ t, exec (.preemptInputLevelChange p) s = .next t ∧
    (t.pre p).level = (!(s.pre p).level) ∧ (t.pre p).run = 0 ∧ (t.pre p).presence = 0 ∧
    (t.pre p).stuck = ((s.pre p).stuck && !(s.pre p).level) ∧ (t.pre p).cfg = (s.pre p).cfg ∧
    (s.arb.holder ≠ some p → (s.pre p).state = .idle → (s.pre p).level = false → (s.pre p).cfg.enable = true →
      (s.pre p).stuck = false → 0 < (s.pre p).cfg.delay → (t.pre p).state = .delaying ∧ (t.pre p).delayTimer = (s.pre p).cfg.delay) ∧
    (s.arb.holder ≠ some p → (s.pre p).state = .delaying → (s.pre p).level = true →
      (t.pre p).state = .idle ∧ (t.pre p).delayTimer = 0)) ∧
  (∀ p s, (s.pre p).level = true → (s.pre p).stuck = false → (s.pre p).cfg.maxPresence ≤ 255 →
    (s.pre p).presence = (s.pre p).cfg.maxPresence * 600 → ∃ t, exec (.preemptStuck p) s = .next t ∧
      (t.pre p).stuck = true ∧ (t.pre p).level = true ∧ (t.pre p).presence = (s.pre p).presence + 1 ∧
      has t.link.flags Report.preempt.index = true ∧
      (s.arb.holder ≠ some p → (s.pre p).state = .delaying → (t.pre p).state = .idle)) ∧
  (∀ p s, s.unit.mode ≠ .powerOut → (s.pre p).state = .delaying → (s.pre p).active = true →
    (s.pre p).cfg.enable = true → (s.pre p).delayTimer = 1 → ∃ t, exec (.preemptDelayExpiry p) s = .next t ∧
      (t.pre p).delayTimer = 0 ∧ (t.pre p).state ≠ .delaying ∧ (t.pre p).state ≠ .idle ∧
      (s.unit.mode ≠ .controlled → (t.pre p).state = .pending)) ∧
  (∀ p s, s.unit.mode = .controlled → s.arb.holder = some p → (s.pre p).serviceTimer = 1 →
    ((s.pre p).state = .track → exec .trackEnd s = .next (settle s
      { s with pres := vset s.pres p { s.pre p with serviceTimer := 0 } })) ∧
    ((s.pre p).state = .dwell → s.seq.transition = none → (s.pre p).active = false →
      exec .dwellEnd s = .next (settle s
        { s with pres := vset s.pres p { s.pre p with serviceTimer := 0 } }))) ∧
  (∀ e s t, s.takesTenth e → exec e s = .next t →
    (∀ p, s.arb.holder ≠ some p → (s.pre p).state = .delaying → (s.pre p).cfg.enable = true →
      1 < (s.pre p).delayTimer → (t.pre p).active = true → t.unit.mode ≠ .faultFlash ∨ s.unit.mode = .faultFlash →
      (t.pre p).state = .delaying ∧ (t.pre p).delayTimer =
        if s.unit.mode = .powerOut then (s.pre p).delayTimer else (s.pre p).delayTimer - 1) ∧
    (s.unit.mode.isControl = false → ∀ p, (t.pre p).serviceTimer = (s.pre p).serviceTimer) ∧
    (∀ p, s.unit.mode = .controlled → t.unit.mode = .controlled → s.arb.holder = some p →
      ((s.pre p).state = .track ∨ ((s.pre p).state = .dwell ∧ s.seq.transition = none)) →
      1 < (s.pre p).serviceTimer → (∀ q, q ≠ p → (s.pre q).state = .idle ∧ (s.pre q).active = false) →
      t.arb.holder = some p ∧ (t.pre p).state = (s.pre p).state ∧
        (t.pre p).serviceTimer = (s.pre p).serviceTimer - 1))

/-- O33. The events of a tone line: a locator cycle and a walk cycle return to 0, a confirm ends; the sounding item is
then the first that applies, and a locator tick sounds when the confirm has ended by its millisecond (R167 to R170). The
output is high for its level in sixteenths of each period of its frequency, counted from a rising edge (R165). The rows are
log entry 5; that LOCATOR_TICK takes with it the end of a confirm due at its millisecond is the model's choice (log entry
47). -/
def Obligations.ToneEvents : Prop :=
  (∀ (l : ToneLine) n, l.outputAt n = true ↔ l.sounding ≠ .none ∧ l.mute = false ∧ n % 16 < l.level) ∧
  (∀ (l : ToneLine) f v, l.frequency ≤ 7 → l.output = some (f, v) →
    v = l.level ∧ [500, 700, 880, 1000, 1250, 1760, 2000, 2800][l.frequency]? = some f) ∧
  ∀ i s, s.lineActive i = true →
    ((s.line i).locatorCycle = some 999 → ∃ t, exec (.locatorTick i) s = .next t ∧
      (∃ x v a, t = { s with tones := vset s.tones i { s.line i with
        locatorCycle := some 0, tickOpen := decide ((s.line i).confirmTimer ≤ 1)
        confirmTimer := if (s.line i).confirmTimer = 1 then 0 else (s.line i).confirmTimer
        sounding := x, level := v, age := a } }) ∧
      (t.line i).sounding =
        (if (s.line i).walkCycle.any (fun n => n < 30) then .walk
          else if 1 < (s.line i).confirmTimer then .confirm else .locator) ∧
      ((t.line i).sounding = .locator → (s.line i).sounding ≠ .locator →
        (t.line i).age = 0 ∧
          (t.line i).level = if s.lamps.dimOn then (s.line i).nightVolume else (s.line i).dayVolume)) ∧
    ((s.line i).walkCycle = some 99 → ∃ t, exec (.walkTick i) s = .next t ∧
      (∃ v a, t = { s with tones := vset s.tones i { s.line i with
        walkCycle := some 0, sounding := .walk, level := v, age := a } }) ∧
      ((s.line i).sounding ≠ .walk → (t.line i).age = 0 ∧
        (t.line i).level = if s.lamps.dimOn then (s.line i).nightVolume else (s.line i).dayVolume)) ∧
    ((s.line i).confirmTimer = 1 → ∃ t, exec (.confirmEnd i) s = .next t ∧
      (∃ x v a, t = { s with tones := vset s.tones i { s.line i with
        confirmTimer := 0, sounding := x, level := v, age := a } }) ∧
      (t.line i).sounding =
        (if (s.line i).walkCycle.any (fun n => n < 30) then .walk
          else if (s.line i).locatorCycle.any (fun n => n < 40) && (s.line i).tickOpen then .locator else .none))

/-- O34. The sign exchange: the period, the start with its buffer of command words, the lines in every bit time of it, and
the end of a whole and of a broken exchange with the latched commands, the status table and the mismatch flags (R173 to
R176, Table 13-9). The words go out most significant bit first, one SCK period a bit, SCK low for the gap between two words;
SLAT is high for the one bit time after the shift of a whole exchange. SCK, SDO and SLAT are low at the start; SCK and SLAT
are low after the end, and what level SDO is left at is free; that SCK is low before the rising edge of each period and that
a gap shows the first bit of the next word are the model's reading (log entry 14). That a broken exchange lasts the bit times
of its shift alone is the model's choice (log entry 14 too), and so is SIGN_PERIOD_EXPIRY as a row, one item's share of the
coming tick (log entry 5). The buffer holds the words received after
a whole exchange; that it is empty after a broken one is the model's choice (log entry 52). -/
def Obligations.SignExchange : Prop :=
  (∀ (g : Signs) (received : Vector Word 9), g.shifting = true →
    let shift := 16 * (g.count + 1) + g.gap * g.count
    let complete := received.toList.getD g.count 0 = 0x5AA5#16 ∧
      ∀ p, p < g.count → (received.toList.getD p 0).extractLsb' 13 3 = 0b101#3
    (∀ p i, p ≤ g.count → i < 16 → let time := (16 + g.gap) * p + i
      g.sckAt time false = false ∧ g.sckAt time true = true ∧ g.slatAt received time = false ∧
        g.sdoAt time = (g.buffer.getD p 0).getLsbD (15 - i)) ∧
    (∀ p j risen, p < g.count → j < g.gap → let time := (16 + g.gap) * p + 16 + j
      g.sckAt time risen = false ∧ g.slatAt received time = false ∧
        g.sdoAt time = (g.buffer.getD (p + 1) 0).getLsbD 15) ∧
    (∀ time risen, shift ≤ time →
      g.sckAt time risen = false ∧ (g.slatAt received time = true ↔ complete ∧ time = shift)) ∧
    (complete → g.exchangeTime received = shift + 1) ∧ (¬ complete → g.exchangeTime received = shift) ∧
    (g.count ≤ 8 → g.bufferAt received shift = received.toList.take (g.count + 1))) ∧
  (∀ s, 0 < s.signs.count → s.unit.mode ≠ .powerOut → s.signs.timer = 1 → exec .signPeriodExpiry s = .next
    { s with signs := { s.signs with timer := s.signs.period, pendingExchange := true } }) ∧
  (∀ s, s.signs.pendingExchange = true → s.signs.shifting = false → 0 < s.signs.count → s.signs.count ≤ 8 →
    s.unit.mode ≠ .powerOut → ∃ b, exec .signExchangeStart s = .next
      { s with
        signs := { s.signs with
          pendingExchange := false, shifting := true, buffer := b, sck := false, sdo := false, slat := false } } ∧
      b.length = s.signs.count + 1 ∧ b[0]? = some 0x5AA5#16 ∧
      ∀ k : Fin 8, k.val < s.signs.count → ∃ w, b[s.signs.count - k.val]? = some w ∧
        let e := (s.signs.modules.get k).entry
        let blank := s.unit.mode = .startFlash ∨ s.unit.mode = .faultFlash ∨ e.display = false
        let bright := if s.lamps.dimOn then e.nightBright else e.dayBright
        (blank → w = 0x8000#16) ∧
        (¬ blank → e.source = none → w = 0#1 ++ (if e.flash then 1#1 else 0#1) ++ bright ++ 0#6 ++ e.message) ∧
        (∀ c, ¬ blank → e.source = some c → w = 0#2 ++ bright ++ 0#6 ++
          (if s.unit.mode.isControl = true ∧ (s.chan c).ind = .green then e.messageGreen else e.messageOther))) ∧
  (∀ received s, s.signs.shifting = true → s.signs.count ≤ 8 →
    ∃ t, exec (.signExchangeEnd received) s = .next t ∧
    t.signs.shifting = false ∧
    (∃ words modules flags level, t = { s with
      signs := { s.signs with
        shifting := false, buffer := words, chainError := t.signs.chainError, modules := modules
        sck := false, sdo := level, slat := false, transfers := s.signs.transfers + 1 }
      link := { s.link with flags := flags } }) ∧
    let arrived := fun p : Nat => received.toList.getD p 0
    let complete := arrived s.signs.count = 0x5AA5#16 ∧
      ∀ p, p < s.signs.count → (arrived p).extractLsb' 13 3 = 0b101#3
    (¬ complete → t.signs.chainError = true ∧ t.signs.modules = s.signs.modules ∧ t.signs.buffer = []) ∧
    (complete → t.signs.buffer.length = s.signs.count + 1 ∧
      ∀ p, p ≤ s.signs.count → t.signs.buffer[p]? = some (arrived p)) ∧
    (complete → t.signs.chainError = false ∧ ∀ k : Fin 8, k.val < s.signs.count →
      let word := arrived (s.signs.count - 1 - k.val)
      let old := s.signs.modules.get k
      let new := t.signs.modules.get k
      new.entry = old.entry ∧
      new.status = some ⟨word.extractLsb' 0 6, word.getLsbD 12⟩ ∧
      new.latched = some (s.signs.buffer.getD (s.signs.count - k.val) 0) ∧
      ((old.latched = none ∨ ∃ w, old.latched = some w ∧ w.getLsbD 15 = true) →
        new.mismatchRun = 0 ∧ new.mismatch = old.mismatch) ∧
      (∀ w, old.latched = some w → w.getLsbD 15 = false → word.extractLsb' 0 6 = w.extractLsb' 0 6 →
        new.mismatchRun = 0 ∧ new.mismatch = false) ∧
      (∀ w, old.latched = some w → w.getLsbD 15 = false → word.extractLsb' 0 6 ≠ w.extractLsb' 0 6 →
        new.mismatchRun = min 3 (old.mismatchRun + 1) ∧
          new.mismatch = (old.mismatch || new.mismatchRun == 3))))

/-! ### The commands of the host on a free link (R183 to R185) -/

/-- O35. IDENTIFY and STATUS answer in every unit mode and change nothing but what every frame that passes its check
does (R188, Table 13-5). -/
def Obligations.IdentifyAndStatus : Prop :=
  ∀ tag s, s.linkFree →
    exec (.identify tag) s = .next (answered (heard s)
      ⟨0x81#8, tag, [0, 1, 0xA0#8, 1, 16, 24, 4, 8, 8, 16, s.link.rate.code]⟩) ∧
    exec (.status tag) s = .next (answered (heard s)
      ⟨0x82#8, tag, [0, s.unit.mode.code] ++ wordBytes ((heard s).link.flags.setWidth 16) ++
        wordBytes (s.link.enable.setWidth 16) ++ [0, s.link.lastError.code] ++ wordBytes s.link.errors ++
        u32 s.time.tenth.toNat ++ [s.time.lock.code, s.time.category.code, s.compat.status.code,
          flagByte s.compat.isMatch, flagByte s.mon.record.isSome]⟩)

/-- O36. The other reading commands answer with what the state holds and change nothing, but for the counts that a
clearing READ DETECTORS puts to 0 (R19, R33, R56, R94, R117, R133, R179). The
ready state that READ CHANNEL reports in POWER_OUT by an occupancy begun in the outage is the model's choice (log entry
53), and the bytes sent as 0 for an empty fault record and for a module without a status are read from the book by inference (log
entry 59). -/
def Obligations.ReadCommands : Prop :=
  ∀ tag s, s.linkFree →
    (∀ c : Chan, exec (.readChannel tag (u8 (c.val + 1))) s = .next (answered (heard s)
      ⟨0x91#8, tag, [0, u8 (c.val + 1), (s.chan c).kind.code, attributeByte (s.chan c), (s.chan c).recallKind.code,
          (s.chan c).ind.code, heldCode (s.chan c).held] ++
        u16 (match s.shown c with
          | .amber | .redClear | .pedClear => (s.chan c).timer
          | .green => if (s.chan c).kind = .pedestrian then (s.chan c).timer else (s.green c).initial
          | .red | .dark | .flash => 0) ++
        (s.chan c).activeSet.bytes ++
        [flagByte ((s.chan c).pendingSet != (s.chan c).activeSet), (s.chan c).applied.code, flagByte (has s.calls c),
          (s.mon.lamps.get (outputOf c 0)).status.code ||| ((s.mon.lamps.get (outputOf c 1)).status.code <<< 2) |||
            ((s.mon.lamps.get (outputOf c 2)).status.code <<< 4),
          readyCode (s.readyState c)]⟩)) ∧
    exec (.readCompatibility tag) s = .next (answered (heard s)
      ⟨0x99#8, tag, [0, s.compat.status.code] ++
        (List.finRange 16).flatMap (fun i =>
          wordBytes (maskOf (fun j : Chan => i != j && compatible s.compat.inUse i j))) ++
        [flagByte s.compat.isMatch, flagByte s.compat.hostCopy.isSome, u8 s.compat.disagreements]⟩) ∧
    (∀ first : Byte, 1 ≤ first.toNat → first.toNat ≤ 16 → exec (.readQueue tag first) s = .next (answered (heard s)
      ⟨0xA5#8, tag, [0, s.seq.mode.code, u8 s.seq.queue.length, u8 s.positionIndex] ++ u16 s.currentSerial ++
        [s.seq.phase.code,
          flagByte s.seq.hold ||| (flagByte s.seq.force <<< 1) ||| (flagByte s.arb.holder.isSome <<< 2)] ++
        u16 s.seq.stepTimer ++ u16 s.seq.nextSerial ++
        [first, u8 ((s.seq.queue.drop (first.toNat - 1)).take 6).length] ++
        ((s.seq.queue.drop (first.toNat - 1)).take 6).flatMap (fun r =>
          u16 r.serial ++ [r.termination.code, flagByte r.skip] ++ wordBytes r.greenSet ++
            [u8 ((r.stepTime.getD 0 + 23) / 24)])⟩)) ∧
    (∀ first count clear : Byte, 1 ≤ first.toNat → 1 ≤ count.toNat → count.toNat ≤ 4 →
      first.toNat + count.toNat ≤ 25 → (clear = 0 ∨ clear = 1) → ∃ t,
      exec (.readDetectors tag first count clear) s = .next (answered t
        ⟨0xB1#8, tag, [0, first, count] ++ u32 s.time.tenth.toNat ++
          ((List.finRange 24).filter (fun d => first.toNat ≤ d.val + 1 && d.val + 1 < first.toNat + count.toNat)).flatMap
            s.detectorEntry⟩) ∧
        t = { heard s with dets := t.dets } ∧
        ∀ d, t.det d =
          if clear = 1 ∧ first.toNat ≤ d.val + 1 ∧ d.val + 1 < first.toNat + count.toNat then
            { s.det d with volume := 0, occupancy := 0, forward := 0, reverse := 0 }
          else s.det d) ∧
    (∀ p : Pre, exec (.readPreempt tag (u8 (p.val + 1))) s = .next (answered (heard s)
      ⟨0xB9#8, tag, 0 :: preemptConfigBytes p (s.pre p).cfg ++
        [flagByte (s.pre p).level, flagByte (s.pre p).stuck] ++ u32 (s.pre p).presence ++
        [preemptCode (s.pre p), u8 (s.pre p).delayTimer] ++ u16 (s.pre p).serviceTimer ++
        [(s.pre p).stage.code, flagByte (s.reachedFull p), holderCode s.arb.holder] ++ u16 s.interruptedSerial⟩)) ∧
    exec (.readFault tag) s = .next (answered (heard s)
      ⟨0xC0#8, tag, 0 :: (match s.mon.record with
          | none => List.replicate 9 0
          | some r => [if r.additional then 0x81#8 else 1, r.cause.code, u8 r.first, u8 r.second] ++
              u32 r.tenth.toNat ++ [r.mode.code]) ++ s.mon.statusPack⟩) ∧
    exec (.readSigns tag) s = .next (answered (heard s)
      ⟨0xE2#8, tag, [0, u8 s.signs.count, u8 s.signs.period, u8 s.signs.gap,
          flagByte s.signs.shifting ||| (flagByte s.signs.pendingExchange <<< 1) |||
            (flagByte s.signs.chainError <<< 2)] ++
        ((List.finRange 8).filter (fun k => k.val < s.signs.count)).flatMap (fun k =>
          wordBytes ((s.signs.modules.get k).latched.getD 0) ++
            [(s.signs.modules.get k).shownByte, (s.signs.modules.get k).flags])⟩)

/-- O37. SET LINK, SET START, SET SUPPLY and SET DIMMING store their values, each brought into its range, and say so in
the result (R15, R150, R161, R189). -/
def Obligations.SettingCommands : Prop :=
  ∀ tag s, s.linkFree →
    (∀ (supervision : Byte) (enable : Word) (period : Byte),
      exec (.setLink tag supervision enable period) s = .next (answered
        { heard s with
          link := { (heard s).link with
            supervisionTime := max 5 supervision.toNat, supervision := max 5 supervision.toNat
            enable := enable.setWidth 9, statusPeriod := period.toNat, statusTimer := period.toNat * 10 } }
        ⟨0x83#8, tag, [if supervision.toNat < 5 then 1 else 0, u8 (max 5 supervision.toNat)] ++
          wordBytes (enable &&& 0x01FF#16) ++ [period]⟩)) ∧
    (∀ a b c d : Byte,
      let a' := min 255 (max 30 a.toNat)
      let b' := min 255 (max 20 b.toNat)
      let c' := min 20 c.toNat
      let d' := min 25 (max 10 d.toNat)
      exec (.setStart tag a b c d) s = .next (answered
        { heard s with
          unit := { (heard s).unit with startFlashTime := a', entryRedTime := b', shortOutage := c' }
          mon := { s.mon with redFailTime := d' } }
        ⟨0xCB#8, tag, [if a' = a.toNat ∧ b' = b.toNat ∧ c' = c.toNat ∧ d' = d.toNat then 0 else 1,
          u8 a', u8 b', u8 c', u8 d']⟩)) ∧
    (∀ d g h : Byte,
      let g' := min 195 (max 120 g.toNat)
      let h' := min 250 (max 205 h.toNat)
      let d' := min (g' - 10) (max 60 d.toNat)
      exec (.setSupply tag d g h) s = .next (answered
        { heard s with time := { s.time with dropout := d', sag := g', high := h' } }
        ⟨0xD1#8, tag, [if d' = d.toNat ∧ g' = g.toNat ∧ h' = h.toNat then 0 else 1, u8 d', u8 g', u8 h']⟩)) ∧
    (∀ on k : Byte, on = 0 ∨ on = 1 →
      exec (.setDimming tag on k) s = .next (answered
        { heard s with lamps := { s.lamps with dimOn := on == 1, dimLevel := min 8 (max 4 k.toNat) } }
        ⟨0x92#8, tag, [if 4 ≤ k.toNat ∧ k.toNat ≤ 8 then 0 else 1, on, u8 (min 8 (max 4 k.toNat))]⟩))

/-- O38. An accepted SET CHANNEL stores the type, the attributes and the clamped pending set, the active set with it in
the four modes of R3; a changed type shows its indication at timer 0 (R2, R3, R17, R18). -/
def Obligations.SetChannel : Prop :=
  ∀ tag (c : Chan) (k : ChannelType) (r : Recall) (flags : Byte) (f : TimingFields) s, s.linkFree →
    recallSuits k r = true → (k ≠ (s.chan c).kind → s.standingMode.isControl = false) →
    (k = .unused → (∀ x ∈ s.seq.queue, has x.greenSet c = false) ∧
      ∀ p, has (s.pre p).cfg.trackSet c = false ∧ has (s.pre p).cfg.dwellSet c = false) →
    ∃ t, exec (.setChannel tag (u8 (c.val + 1)) k.code flags r.code f) s = .next t ∧
      let q := (t.chan c).pendingSet
      (t.chan c).kind = k ∧ (t.chan c).recallKind = r ∧
      (t.chan c).flashColour = (if flags.getLsbD 0 then .amber else .red) ∧
      (t.chan c).flashPhase = (if flags.getLsbD 1 then .b else .a) ∧
      (t.chan c).dimEnable = flags.getLsbD 2 ∧ (t.chan c).redMonitor = flags.getLsbD 3 ∧
      (q.minGreen = min 2550 (max 10 f.minGreen.toNat) ∧ q.addedInitial = f.addedInitial.toNat ∧
        q.maxGreen = max (min 2550 (max 10 f.maxGreen.toNat)) q.minGreen ∧
        q.maxInitial = min (min 2550 f.maxInitial.toNat) q.maxGreen ∧ q.maxGap = min 99 f.maxGap.toNat ∧
        q.minGap = min (min 99 f.minGap.toNat) q.maxGap ∧ q.tbr = min 2550 f.tbr.toNat ∧
        q.ttr = min 2550 f.ttr.toNat ∧ q.amber = min 100 (max 30 f.amber.toNat) ∧
        q.redClear = min 60 f.redClear.toNat ∧ q.walk = min 2550 (max 10 f.walk.toNat) ∧
        q.pedClear = min 2550 (max 30 f.pedClear.toNat)) ∧
      (s.unit.mode.isControl = false → (t.chan c).activeSet = q) ∧
      (k ≠ (s.chan c).kind → (t.chan c).timer = 0 ∧
        (s.unit.mode ≠ .powerOut → (t.chan c).ind =
          if s.unit.mode = .localFlash ∧ k = .vehicle then .flash else .dark) ∧
        (s.unit.mode = .powerOut → (t.chan c).held =
          if k = .unused then none
          else if s.unit.remembered = some .localFlash ∧ k = .vehicle then some .flash else some .dark) ∧
        (k = .unused → (t.green c).latch = false)) ∧
      (∀ j, j ≠ c → (t.chan j).kind = (s.chan j).kind ∧ (t.chan j).pendingSet = (s.chan j).pendingSet ∧
        (t.chan j).recallKind = (s.chan j).recallKind) ∧
      t.link.sending = some ⟨0x90#8, tag,
        [if q = TimingFields.sent f then 0 else 1, u8 (c.val + 1), k.code, flags &&& 0x0F#8, r.code] ++ q.bytes⟩

/-- O39. An accepted LOAD COMPATIBILITY stores the pairs of its rows as the host copy and recomputes the match (R31,
R32). -/
def Obligations.LoadCompatibility : Prop :=
  ∀ tag (rows : Vector ChanSet 16) s, s.linkFree → s.standingMode.isControl = false →
    (∀ i j : Chan, i ≠ j → has (rows.get i) j = has (rows.get j) i) →
    ∃ t copy, exec (.loadCompatibility tag rows) s = .next (answered t ⟨0x98#8, tag, [0, flagByte t.compat.isMatch]⟩) ∧
      t.compat = { s.compat with hostCopy := some copy, isMatch := t.compat.isMatch } ∧
      (∀ i j : Chan, i ≠ j → compatible copy i j = has (rows.get i) j) ∧
      (t.compat.isMatch = true ↔ ∀ i j : Chan, i ≠ j → has (rows.get i) j = compatible s.compat.inUse i j) ∧
      (∃ m, t = { heard s with compat := t.compat, link := { (heard s).link with flags := m } } ∧
        (t.compat.isMatch ≠ s.compat.isMatch → has m Report.status.index = true))

/-- O40. An accepted QUEUE STEP appends its record with the next serial, its step time brought into 10 to 6000 for FIXED
and dropped for ACTUATED; the reply is taken before what the new record lets follow (R36; log entry 6). -/
def Obligations.QueueStep : Prop :=
  ∀ tag (m : Termination) (skip : Bool) (set : ChanSet) (time : Word) s, s.linkFree → s.seq.queue.length < 16 →
    (∀ c, has set c = true → (s.chan c).used = true) →
    (∀ i j, has set i = true → has set j = true → compatible s.compat.inUse i j = true) →
    let stored := match m with
      | .fixed => some (min 6000 (max 10 time.toNat))
      | .actuated => none
    exec (.queueStep tag m.code (flagByte skip) set time) s = .next (answered
      (settle (heard s) { heard s with
        seq := { s.seq with
          queue := s.seq.queue ++ [⟨s.seq.nextSerial, m, skip, set, stored⟩]
          nextSerial := if s.seq.nextSerial < 65535 then s.seq.nextSerial + 1 else 1 } })
      ⟨0xA0#8, tag, [if m = .actuated ∨ (10 ≤ time.toNat ∧ time.toNat ≤ 6000) then 0 else 1] ++
        u16 s.seq.nextSerial ++ u16 (stored.getD 0) ++ [u8 (s.seq.queue.length + 1)]⟩)

/-- O41. CLEAR QUEUE keeps the current step alone; SET QUEUE MODE from CYCLE to SINGLE drops the records before the
current position; HOLD stores its flag; FORCE END sets its flag on a current step out of service. The reply is taken
before what follows (R52 to R55; log entry 6). -/
def Obligations.QueueControls : Prop :=
  ∀ tag s, s.linkFree →
    (∀ r, s.seq.current = true → s.record = some r → exec (.clearQueue tag) s = .next (answered
      (settle (heard s) { heard s with seq := { s.seq with queue := [r], position := 0 } })
      ⟨0xA1#8, tag, [0, u8 (s.seq.queue.length - 1)]⟩)) ∧
    (s.seq.current = false → exec (.clearQueue tag) s = .next (answered
      (settle (heard s) { heard s with
        seq := { s.seq with queue := [], position := 0 }, arb := { s.arb with interrupted := false } })
      ⟨0xA1#8, tag, [0, u8 s.seq.queue.length]⟩)) ∧
    (s.seq.mode = .cycle → exec (.setQueueMode tag 0) s = .next (answered
      (settle (heard s) { heard s with
        seq := { s.seq with mode := .single, queue := s.seq.queue.drop s.seq.position, position := 0 } })
      ⟨0xA2#8, tag, [0, 0, u8 (s.seq.queue.length - (s.seq.queue.drop s.seq.position).length)]⟩)) ∧
    (s.seq.mode = .single → exec (.setQueueMode tag 0) s = .next (answered (settle (heard s) (heard s))
      ⟨0xA2#8, tag, [0, 0, 0]⟩)) ∧
    exec (.setQueueMode tag 1) s = .next (answered
      (settle (heard s) { heard s with seq := { s.seq with mode := .cycle } }) ⟨0xA2#8, tag, [0, 1, 0]⟩) ∧
    (∀ b, exec (.hold tag (flagByte b)) s = .next (answered
      (settle (heard s) { heard s with seq := { s.seq with hold := b } }) ⟨0xA3#8, tag, [0, flagByte b]⟩)) ∧
    (s.unit.mode = .controlled → s.arb.holder = none → s.seq.current = true →
      exec (.forceEnd tag) s = .next (answered
        (settle (heard s) { heard s with seq := { s.seq with force := true } }) ⟨0xA4#8, tag, [0]⟩)) ∧
    (s.unit.mode ≠ .controlled ∨ s.arb.holder ≠ none ∨ s.seq.current = false →
      exec (.forceEnd tag) s = .next (answered (heard s) ⟨0xA4#8, tag, [5]⟩))

/-- O42. PLACE CALL sets the latch of each named channel that is not GREEN and answers with all the latches; a mask that
names an UNUSED channel is refused. The reply is taken before what the calls let follow (R62, R66; log entry 6). -/
def Obligations.PlaceCall : Prop :=
  ∀ tag (mask : ChanSet) s, s.linkFree →
    ((∃ c, has mask c = true ∧ (s.chan c).kind = .unused) →
      exec (.placeCall tag mask) s = .next (answered (heard s) ⟨0xA8#8, tag, [4, 0, 0]⟩)) ∧
    ((∀ c, has mask c = true → (s.chan c).kind ≠ .unused) → ∃ t,
      exec (.placeCall tag mask) s = .next (answered (settle (heard s) t)
        ⟨0xA8#8, tag, 0 :: wordBytes (maskOf (fun c : Chan => (t.green c).latch))⟩) ∧
      t = { heard s with greens := t.greens } ∧
      ∀ c, t.green c = if has mask c = true ∧ s.shown c ≠ .green then { s.green c with latch := true } else s.green c)

/-- O43. An accepted SET DETECTOR stores the configuration, with the lag of a pair, and restarts the run state of each
record it changes; levels and counts stay (R100). That the reply's last byte is the mode of the pair's even detector in
PAIR or not is the model's choice (log entry 25). -/
def Obligations.SetDetector : Prop :=
  ∀ tag (d : Det) (m : DetectorMode) (a : FailAction) (locking wrongWay : Bool) (f : DetectorFields) s, s.linkFree →
    f.number = u8 (d.val + 1) → f.mode = m.code → f.failAction = a.code → f.locking = flagByte locking →
    f.wrongWay = flagByte wrongWay → (isLead d = true ∨ (m ≠ .pair ∧ (s.det (partner d)).mode ≠ .pair)) →
    ∃ t, exec (.setDetector tag f) s = .next t ∧
      let limit := min 50 (max 2 f.chatterLimit.toNat)
      let stored : Detector := { s.det d with
        mode := m, callMask := f.callMask, extendMask := f.extendMask, delay := f.delay.toNat, locking := locking
        maxPresence := f.maxPresence.toNat, maxAbsence := f.maxAbsence.toNat, chatterLimit := limit
        failAction := a, wrongWay := wrongWay }
      let restart := fun r : Detector => { r with
        delayTimer := 0, presence := 0, absence := 0, window := 0, cleanRun := 0, fault := .ok, direction := .clear }
      (t.det d = if stored = s.det d then s.det d else restart stored) ∧
      (isLead d = true →
        (m = .pair → (s.det (partner d)).mode ≠ .pair →
          t.det (partner d) = restart { s.det (partner d) with mode := .pair }) ∧
        (m ≠ .pair → (s.det d).mode = .pair → (s.det (partner d)).mode ≠ .off →
          t.det (partner d) = restart { s.det (partner d) with mode := .off }) ∧
        (m ≠ .pair → (s.det d).mode ≠ .pair → t.det (partner d) = s.det (partner d))) ∧
      (isLead d = false → t.det (partner d) = s.det (partner d)) ∧
      (∀ e, e ≠ d → e ≠ partner d → t.det e = s.det e) ∧
      (stored ≠ s.det d → (s.det d).fault ≠ .ok →
        has t.detMasks.changed d = true ∧ has t.link.flags Report.detector.index = true) ∧
      t.link.sending = some ⟨0xB0#8, tag, [if limit = f.chatterLimit.toNat then 0 else 1, f.number, f.mode] ++
        wordBytes f.callMask ++ wordBytes f.extendMask ++
        [f.delay, f.locking, f.maxPresence, f.maxAbsence, u8 limit, f.failAction, f.wrongWay,
          (t.det (if isLead d then partner d else d)).mode.code]⟩

/-- O44. An accepted SET PREEMPT stores the configuration with its clamps and restarts the request: an enabled preempt
with an active input enters DELAYING, or with a Delay of 0 becomes PENDING at once, and in CONTROLLED goes on from there at the
same moment as O60 says (settled, log entry 6); any other is IDLE; the input's state stays. A changed enable and the restart of a DELAYING or PENDING
request set the PREEMPT flag (R103, R105). -/
def Obligations.SetPreempt : Prop :=
  ∀ tag (p : Pre) (locking pedTruncate enable : Bool) (k : ExitKind) (f : PreemptFields) s, s.linkFree →
    f.number = u8 (p.val + 1) → f.locking = flagByte locking → f.pedTruncate = flagByte pedTruncate →
    f.exitKind = k.code → f.enable = flagByte enable → f.priority.toNat ≤ 3 →
    (∀ c, has f.trackSet c = true ∨ has f.dwellSet c = true → (s.chan c).used = true) →
    (s.pre p).state ∈ [.idle, .delaying, .pending] → s.arb.holder ≠ some p →
    (∀ i j, has f.trackSet i = true → has f.trackSet j = true → compatible s.compat.inUse i j = true) →
    (∀ i j, has f.dwellSet i = true → has f.dwellSet j = true → compatible s.compat.inUse i j = true) →
    ∃ t, exec (.setPreempt tag f) s = .next t ∧
      let c : PreemptConfig :=
        { priority := f.priority.toNat, delay := f.delay.toNat, locking := locking, minGreen := f.minGreen.toNat
          pedTruncate := pedTruncate, pedClear := f.pedClear.toNat, trackSet := f.trackSet
          trackTime := min 2550 f.trackTime.toNat, dwellSet := f.dwellSet
          dwellMin := min 2550 (max 10 f.dwellMin.toNat), maxPresence := max 1 f.maxPresence.toNat, exitKind := k
          enable := enable }
      (t.pre p).cfg = c ∧ (t.pre p).level = (s.pre p).level ∧ (t.pre p).run = (s.pre p).run ∧
      (t.pre p).presence = (s.pre p).presence ∧ (t.pre p).stuck = (s.pre p).stuck ∧
      (enable = false ∨ (s.pre p).active = false → (t.pre p).state = .idle ∧ (t.pre p).delayTimer = 0) ∧
      (enable = true → (s.pre p).active = true → 0 < f.delay.toNat →
        (t.pre p).state = .delaying ∧ (t.pre p).delayTimer = f.delay.toNat) ∧
      (enable = true → (s.pre p).active = true → f.delay = 0 →
        (t.pre p).delayTimer = 0 ∧ (t.pre p).state ∉ [.idle, .delaying] ∧
        (s.unit.mode ≠ .controlled → (t.pre p).state = .pending)) ∧
      (∀ q, q ≠ p → (t.pre q).cfg = (s.pre q).cfg) ∧
      (enable ≠ (s.pre p).cfg.enable ∨ (s.pre p).state ∈ [.delaying, .pending] → has t.link.flags Report.preempt.index = true) ∧
      t.link.sending = some ⟨0xB8#8, tag,
        [if c.trackTime = f.trackTime.toNat ∧ c.dwellMin = f.dwellMin.toNat ∧ c.maxPresence = f.maxPresence.toNat then 0
          else 1, f.number, f.priority, f.delay, f.locking, f.minGreen, f.pedTruncate, f.pedClear] ++
        wordBytes f.trackSet ++ u16 c.trackTime ++ wordBytes f.dwellSet ++ u16 c.dwellMin ++
        [u8 c.maxPresence, f.exitKind, f.enable]⟩

/-- O45. ENTER CONTROL, ENTER FLASH and RESET FAULT by the unit mode: the entry into ENTRY_RED with no reason left, or
the reasons; the orderly flash or LOCAL_FLASH; the restart of a FAULT_FLASH whose plug is VALID (R140, R142, R143, R146,
R149, Table 8-2). -/
def Obligations.ModeCommands : Prop :=
  ∀ tag s, s.linkFree →
    let reason := fun k : Fin 8 =>
      if k = 0 then s.unit.mode = .startFlash ∧ 0 < s.unit.startFlashTimer
      else if k = 1 then s.compat.status ≠ .valid
      else if k = 2 then s.compat.isMatch = false
      else if k = 3 then s.seq.queue = []
      else if k = 4 then s.unit.switchLevel = true
      else if k = 5 then s.time.category ≠ .normal ∧ s.time.category ≠ .high
      else if k = 6 then ∀ c, (s.chan c).used = false
      else ∃ o, (s.chan (outputChan o)).used = true ∧ (s.mon.lamps.get o).status = .switchOn
    ((s.unit.mode = .startFlash ∨ s.unit.mode = .localFlash) → (∀ k, ¬ reason k) →
      ∃ t, exec (.enterControl tag) s = .next t ∧ t.unit.mode = .entryRed ∧ t.unit.ftr = true ∧ t.unit.cause = .none ∧
        t.unit.entryRedTimer = s.unit.entryRedTime ∧
        (∀ c, (t.chan c).timer = 0 ∧ (t.chan c).ind = if (s.chan c).used then .red else .dark) ∧
        has t.link.flags Report.mode.index = true ∧ t.link.sending = some ⟨0xC8#8, tag, [0, 0]⟩) ∧
    ((s.unit.mode = .startFlash ∨ s.unit.mode = .localFlash) → (∃ k, reason k) →
      ∃ m : Byte, exec (.enterControl tag) s = .next (answered (heard s) ⟨0xC8#8, tag, [8, m]⟩) ∧
        ∀ k : Fin 8, m.getLsbD k.val = true ↔ reason k) ∧
    (s.unit.mode ≠ .startFlash → s.unit.mode ≠ .localFlash →
      exec (.enterControl tag) s = .next (answered (heard s) ⟨0xC8#8, tag, [5, 0]⟩)) ∧
    ((s.unit.mode = .entryRed ∨ s.unit.mode = .controlled) →
      ∃ t, exec (.enterFlash tag) s = .next t ∧ t.unit.cause = .host ∧ t.unit.ftr = true ∧
        (t.unit.mode = .clearingToFlash ∨ t.unit.mode = .localFlash) ∧ t.seq.current = false ∧ t.arb.holder = none ∧
        t.link.sending = some ⟨0xC9#8, tag, [0, 0]⟩) ∧
    ((s.unit.mode = .clearingToFlash ∨ s.unit.mode = .localFlash) →
      exec (.enterFlash tag) s = .next (answered (heard s) ⟨0xC9#8, tag, [0, 0]⟩)) ∧
    (s.unit.mode = .startFlash → (∃ c, (s.chan c).used = true) →
      ∃ t, exec (.enterFlash tag) s = .next t ∧ t.unit.mode = .localFlash ∧ t.unit.cause = .host ∧ t.unit.ftr = true ∧
        (∀ c, (t.chan c).timer = 0 ∧ (t.chan c).ind = if (s.chan c).kind = .vehicle then .flash else .dark) ∧
        t.unit.startFlashTimer = s.unit.startFlashTimer ∧ t.link.sending = some ⟨0xC9#8, tag, [0, 0]⟩) ∧
    (s.unit.mode = .startFlash → (∀ c, (s.chan c).used = false) →
      exec (.enterFlash tag) s = .next (answered (heard s) ⟨0xC9#8, tag, [8, 0x40#8]⟩)) ∧
    ((s.unit.mode = .faultFlash ∨ s.unit.mode = .powerOut) →
      exec (.enterFlash tag) s = .next (answered (heard s) ⟨0xC9#8, tag, [5, 0]⟩)) ∧
    (s.unit.mode = .faultFlash → s.compat.status = .valid →
      ∃ t, exec (.resetFault tag) s = .next t ∧ t.unit.mode = .startFlash ∧ t.unit.ftr = false ∧
        t.mon.record = none ∧ (s.mon.record ≠ none → has t.link.flags Report.fault.index = true) ∧
        t.unit.startFlashTimer = s.unit.startFlashTime ∧ t.unit.cause = .none ∧ t.compat.owed = none ∧
        t.seq.queue = s.seq.queue ∧ t.seq.nextSerial = s.seq.nextSerial ∧ t.seq.position = 0 ∧
        t.seq.current = false ∧ t.seq.hold = false ∧ t.lamps.drives = 0 ∧ t.time = s.time ∧ t.dets = s.dets ∧
        t.mon.awaiting = s.mon.awaiting ∧
        (∀ c, (t.chan c).ind = .dark ∧ (t.chan c).held = none ∧ (t.chan c).timer = 0 ∧
          (t.chan c).pendingSet = (s.chan c).pendingSet ∧ (t.chan c).activeSet = (s.chan c).pendingSet) ∧
        (∀ c, (t.green c).latch = (s.chan c).used ∧ (t.green c).actCount = 0) ∧
        t.link.sending = some ⟨0xCA#8, tag, [0, 0]⟩) ∧
    (s.unit.mode = .faultFlash → s.compat.status ≠ .valid →
      exec (.resetFault tag) s = .next (answered (heard s) ⟨0xCA#8, tag, [8, 2]⟩)) ∧
    (s.unit.mode ≠ .faultFlash → exec (.resetFault tag) s = .next (answered (heard s) ⟨0xCA#8, tag, [5, 0]⟩))

/-- O46. An accepted SET TONE stores the line's configuration and judges its playing state afresh; an accepted SET SIGN
stores its entry; an accepted SET SIGN CHAIN that changes the chain abandons a running exchange, forgets the latched
commands and asks for an exchange, the three outputs low after an abandoned exchange and with no module left (R164, R166,
R171, R172, R177). That SET TONE stops a sound whose mute it turns off (log entry 51) and that an abandoned exchange leaves
the buffer empty (log entry 52) are the model's choices. -/
def Obligations.ToneAndSignCommands : Prop :=
  ∀ tag s, s.linkFree →
    (∀ (i : Line) (c : Option Chan) (b : Option Det) (f : ToneFields), f.number = u8 (i.val + 1) →
      f.channel = bindingCode c → f.button = bindingCode b → f.frequency.toNat ≤ 7 →
      (∀ n, c = some n → (s.chan n).kind = .pedestrian) → ∃ t,
      exec (.setTone tag f) s = .next (answered t ⟨0xD8#8, tag,
        [if f.dayVolume.toNat ≤ 7 ∧ f.nightVolume.toNat ≤ 7 then 0 else 1, f.number, f.channel, f.button, f.frequency,
          u8 (min 7 f.dayVolume.toNat), u8 (min 7 f.nightVolume.toNat), f.flags &&& 7]⟩) ∧
      t = { heard s with tones := t.tones } ∧ (∀ j, j ≠ i → t.line j = s.line j) ∧
      (t.line i).channel = c ∧ (t.line i).button = b ∧ (t.line i).frequency = f.frequency.toNat ∧
      (t.line i).dayVolume = min 7 f.dayVolume.toNat ∧ (t.line i).nightVolume = min 7 f.nightVolume.toNat ∧
      (t.line i).locator = f.flags.getLsbD 0 ∧ (t.line i).envelope = f.flags.getLsbD 1 ∧
      (t.line i).mute = f.flags.getLsbD 2 ∧ (t.line i).confirmTimer = 0 ∧
      (s.unit.mode.isControl = false ∨ c = none →
        (t.line i).sounding = .none ∧ (t.line i).walkCycle = none ∧ (t.line i).locatorCycle = none) ∧
      (∀ n, s.unit.mode.isControl = true → c = some n →
        (t.line i).walkCycle = (if (s.chan n).ind = .green then some 0 else none) ∧
        (t.line i).locatorCycle =
          (if ((s.chan n).ind = .red ∨ (s.chan n).ind = .pedClear) ∧ f.flags.getLsbD 0 = true then some 0 else none) ∧
        (t.line i).sounding = (if (s.chan n).ind = .green then .walk
          else if ((s.chan n).ind = .red ∨ (s.chan n).ind = .pedClear) ∧ f.flags.getLsbD 0 = true then .locator
          else .none))) ∧
    (∀ (k : Fin 8) (c : Option Chan) (f : SignFields), f.entry = u8 (k.val + 1) → f.source = bindingCode c →
      f.message.toNat ≤ 63 → f.messageGreen.toNat ≤ 63 → f.messageOther.toNat ≤ 63 →
      exec (.setSign tag f) s = .next (answered
        { heard s with
          signs := { s.signs with
            modules := vset s.signs.modules k { s.signs.modules.get k with
              entry := ⟨c, f.flags.getLsbD 0, f.message.setWidth 6, f.flags.getLsbD 1, f.messageGreen.setWidth 6,
                f.messageOther.setWidth 6, BitVec.ofNat 2 (min 3 f.dayBright.toNat),
                BitVec.ofNat 2 (min 3 f.nightBright.toNat)⟩ } } }
        ⟨0xE1#8, tag, [if f.dayBright.toNat ≤ 3 ∧ f.nightBright.toNat ≤ 3 then 0 else 1, f.entry, f.source, f.flags &&& 3,
          f.message, f.messageGreen, f.messageOther, u8 (min 3 f.dayBright.toNat),
          u8 (min 3 f.nightBright.toNat)]⟩)) ∧
    (∀ count period gap : Byte, count.toNat ≤ 8 → gap.toNat ∈ [0, 1, 2, 4, 8, 16, 32, 64] → ∃ t,
      exec (.setSignChain tag count period gap) s = .next (answered t
        ⟨0xE0#8, tag, [if period.toNat < 2 then 1 else 0, count, u8 (max 2 period.toNat), gap]⟩) ∧
      (s.signs.count = count.toNat → s.signs.period = max 2 period.toNat → s.signs.gap = gap.toNat → t = heard s) ∧
      (s.signs.count ≠ count.toNat ∨ s.signs.period ≠ max 2 period.toNat ∨ s.signs.gap ≠ gap.toNat →
        (∃ modules m,
          let low := s.signs.shifting = true ∨ count.toNat = 0
          t = { heard s with
          signs := { s.signs with
            count := count.toNat, period := max 2 period.toNat, gap := gap.toNat, timer := max 2 period.toNat
            pendingExchange := decide (0 < count.toNat), shifting := false
            buffer := if s.signs.shifting then [] else s.signs.buffer
            modules := modules, chainError := s.signs.chainError && decide (0 < count.toNat)
            sck := if low then false else s.signs.sck
            sdo := if low then false else s.signs.sdo
            slat := if low then false else s.signs.slat }
          link := { (heard s).link with flags := m } }) ∧
        (∀ k : Fin 8, t.signs.modules.get k =
          if k.val < count.toNat then { s.signs.modules.get k with latched := none, mismatchRun := 0 }
          else ⟨(s.signs.modules.get k).entry, none, none, 0, false⟩) ∧
        (t.signs.chainError ≠ s.signs.chainError ∨
            (∃ k, (t.signs.modules.get k).mismatch ≠ (s.signs.modules.get k).mismatch) →
          has t.link.flags Report.sign.index = true)))

/-- O47. Each refused command answers with the result of the first check that fails and zeros, and changes nothing but
what every frame that passes its check does (R17, R32, R36, R52, R54 to R56, R94, R100, R103, R117, R160, R164, R172,
R177, R184, R190, R191). That a refused QUEUE STEP carries 0 as its number of records is the model's choice (log entry
36). -/
def Obligations.RefusedCommands : Prop :=
  ∀ tag s, s.linkFree →
    let no := fun (kind code : Byte) (n : Nat) =>
      (Host.Outcome.next (answered (heard s) ⟨kind, tag, code :: List.replicate n 0⟩) : Host.Outcome State Fault Refusal)
    (∀ n k f r t, n.toNat = 0 ∨ 16 < n.toNat → exec (.setChannel tag n k f r t) s = no 0x90#8 4 23) ∧
    (∀ n k f r t, 2 < k.toNat ∨ 3 < r.toNat → exec (.setChannel tag n k f r t) s = no 0x90#8 4 23) ∧
    (∀ n k r f t, recallSuits k r = false → exec (.setChannel tag n k.code f r.code t) s = no 0x90#8 4 23) ∧
    (∀ (c : Chan) k r f t, recallSuits k r = true → k ≠ (s.chan c).kind → s.standingMode.isControl = true →
      exec (.setChannel tag (u8 (c.val + 1)) k.code f r.code t) s = no 0x90#8 5 23) ∧
    (∀ (c : Chan) f t, (.unused = (s.chan c).kind ∨ s.standingMode.isControl = false) →
      ((∃ x ∈ s.seq.queue, has x.greenSet c = true) ∨
        ∃ p, has (s.pre p).cfg.trackSet c = true ∨ has (s.pre p).cfg.dwellSet c = true) →
      exec (.setChannel tag (u8 (c.val + 1)) 0 f 0 t) s = no 0x90#8 4 23) ∧
    (∀ n : Byte, n.toNat = 0 ∨ 16 < n.toNat → exec (.readChannel tag n) s = no 0x91#8 4 32) ∧
    (∀ on k : Byte, 1 < on.toNat → exec (.setDimming tag on k) s = no 0x92#8 4 2) ∧
    (∀ rows, s.standingMode.isControl = true → exec (.loadCompatibility tag rows) s = no 0x98#8 5 1) ∧
    (∀ (rows : Vector ChanSet 16) i j, s.standingMode.isControl = false → has (rows.get i) j ≠ has (rows.get j) i →
      exec (.loadCompatibility tag rows) s = no 0x98#8 4 1) ∧
    (∀ (m k : Byte) set time, 1 < m.toNat ∨ 1 < k.toNat → exec (.queueStep tag m k set time) s = no 0xA0#8 4 5) ∧
    (∀ (m : Termination) b set time, 16 ≤ s.seq.queue.length →
      exec (.queueStep tag m.code (flagByte b) set time) s = no 0xA0#8 6 5) ∧
    (∀ (m : Termination) b set time c, s.seq.queue.length < 16 → has set c = true → (s.chan c).used = false →
      exec (.queueStep tag m.code (flagByte b) set time) s = no 0xA0#8 4 5) ∧
    (∀ (m : Termination) b set time i j, s.seq.queue.length < 16 → (∀ c, has set c = true → (s.chan c).used = true) →
      has set i = true → has set j = true → compatible s.compat.inUse i j = false →
      exec (.queueStep tag m.code (flagByte b) set time) s = no 0xA0#8 7 5) ∧
    (∀ m : Byte, 1 < m.toNat → exec (.setQueueMode tag m) s = no 0xA2#8 4 2) ∧
    (∀ b : Byte, 1 < b.toNat → exec (.hold tag b) s = no 0xA3#8 4 1) ∧
    (∀ n : Byte, n.toNat = 0 ∨ 16 < n.toNat → exec (.readQueue tag n) s = no 0xA5#8 4 13) ∧
    (∀ f : DetectorFields, f.number.toNat = 0 ∨ 24 < f.number.toNat ∨ 3 < f.mode.toNat ∨ 1 < f.failAction.toNat ∨
      1 < f.locking.toNat ∨ 1 < f.wrongWay.toNat → exec (.setDetector tag f) s = no 0xB0#8 4 14) ∧
    (∀ (d : Det) (f : DetectorFields), f.number = u8 (d.val + 1) → isLead d = false →
      (f.mode = 3 ∨ (s.det (partner d)).mode = .pair) → exec (.setDetector tag f) s = no 0xB0#8 4 14) ∧
    (∀ n k b : Byte, n.toNat = 0 ∨ 24 < n.toNat ∨ k.toNat = 0 ∨ 4 < k.toNat ∨ 25 < n.toNat + k.toNat ∨ 1 < b.toNat →
      exec (.readDetectors tag n k b) s = no 0xB1#8 4 6) ∧
    (∀ f : PreemptFields, f.number.toNat = 0 ∨ 4 < f.number.toNat ∨ 3 < f.priority.toNat ∨ 1 < f.exitKind.toNat ∨
      1 < f.locking.toNat ∨ 1 < f.pedTruncate.toNat ∨ 1 < f.enable.toNat ∨
      (∃ c, (has f.trackSet c = true ∨ has f.dwellSet c = true) ∧ (s.chan c).used = false) →
      exec (.setPreempt tag f) s = no 0xB8#8 4 18) ∧
    (∀ (p : Pre) (f : PreemptFields), f.number = u8 (p.val + 1) → f.priority.toNat ≤ 3 → f.exitKind.toNat ≤ 1 →
      f.locking.toNat ≤ 1 → f.pedTruncate.toNat ≤ 1 → f.enable.toNat ≤ 1 →
      (∀ c, has f.trackSet c = true ∨ has f.dwellSet c = true → (s.chan c).used = true) →
      ((s.pre p).serving = true → exec (.setPreempt tag f) s = no 0xB8#8 5 18) ∧
      ((s.pre p).serving = false → (∃ i j, compatible s.compat.inUse i j = false ∧
          ((has f.trackSet i = true ∧ has f.trackSet j = true) ∨ (has f.dwellSet i = true ∧ has f.dwellSet j = true))) →
        exec (.setPreempt tag f) s = no 0xB8#8 7 18)) ∧
    (∀ n : Byte, n.toNat = 0 ∨ 4 < n.toNat → exec (.readPreempt tag n) s = no 0xB9#8 4 33) ∧
    (∀ n : Byte, n ≠ 0 → n ≠ 50 → n ≠ 60 → exec (.setTimebase tag n) s = no 0xD0#8 4 2) ∧
    (∀ f : ToneFields, f.number.toNat = 0 ∨ 8 < f.number.toNat ∨ 16 < f.channel.toNat ∨ 24 < f.button.toNat ∨
      7 < f.frequency.toNat ∨ (∃ c : Chan, f.channel = u8 (c.val + 1) ∧ (s.chan c).kind ≠ .pedestrian) →
      exec (.setTone tag f) s = no 0xD8#8 4 7) ∧
    (∀ n p g : Byte, 8 < n.toNat ∨ g.toNat ∉ [0, 1, 2, 4, 8, 16, 32, 64] →
      exec (.setSignChain tag n p g) s = no 0xE0#8 4 3) ∧
    (∀ f : SignFields, f.entry.toNat = 0 ∨ 8 < f.entry.toNat ∨ 16 < f.source.toNat ∨ 63 < f.message.toNat ∨
      63 < f.messageGreen.toNat ∨ 63 < f.messageOther.toNat → exec (.setSign tag f) s = no 0xE1#8 4 8) ∧
    (∀ kind fs n, commandLength kind = some n → fs.length ≠ n →
      Host.Outcome.next (arrive ⟨kind, tag, fs⟩ s) = no (kind + 0x80#8) 3 (replyLength kind))

/-! ### What every step keeps -/

/-- O48. FTR follows the unit mode, and in START_FLASH, FAULT_FLASH and POWER_OUT every drive is low and every channel
DARK (R10, R12, R136). -/
def Obligations.RelayAndDarkKept : Prop :=
  ∀ c s t, s.RelaySafe → s.DarkSafe → exec c s = .next t → t.RelaySafe ∧ t.DarkSafe

/-- O49. The unit is in POWER_OUT exactly while the supply category is DROPOUT, and remembers a mode exactly then (R135,
R147, R148). -/
def Obligations.OutageKept : Prop :=
  ∀ c s t, s.OutageSafe → exec c s = .next t → t.OutageSafe

/-- O50. The queue holds at most 16 records, each with a pairwise compatible green set of used channels (R17, R27,
R36). -/
def Obligations.QueueKept : Prop :=
  ∀ c s t, s.QueueSafe → exec c s = .next t → t.QueueSafe

/-- O51. At most one preempt, the slot holder, is in ENTRY, TRACK, DWELL or EXIT (R106). -/
def Obligations.SlotKept : Prop :=
  ∀ c s t, s.SlotSafe → exec c s = .next t → t.SlotSafe ∧
    ∀ p q, (t.pre p).serving = true → (t.pre q).serving = true → p = q

/-- O52. The call latch of an UNUSED channel is clear, and the match flag compares the host copy with the in-use table
(R31, R62). -/
def Obligations.LatchAndMatchKept : Prop :=
  ∀ c s t, s.LatchSafe → s.MatchSafe → exec c s = .next t → t.LatchSafe ∧ t.MatchSafe

/-- O53. Every stored setting stays in its range, both timing sets of every channel among them (R2, R15, R36, R100,
R103, R150, R161, R164, R177, R189), and a sign chain of no modules makes no exchange and keeps its outputs low (R171). -/
def Obligations.SettingsKept : Prop :=
  (∀ c s t, s.SettingsSafe → exec c s = .next t → t.SettingsSafe) ∧
    (∀ c s t, s.ChainSafe → exec c s = .next t → t.ChainSafe)

/-- O54. Two channels that the in-use table marks incompatible are never both released, in control or at the resume of
an outage (R44). -/
def Obligations.ReleaseKept : Prop :=
  ∀ c s t, s.ReleaseSafe → exec c s = .next t → t.ReleaseSafe

/-- O55. The record keeps the cause of the first fault until hardware reset or a RESET FAULT in FAULT_FLASH with the
plug VALID empties it (R131, R133, R146). -/
def Obligations.FirstFaultKept : Prop :=
  ∀ c s t r, (∀ straps, c ≠ .hardwareReset straps) → s.mon.record = some r → exec c s = .next t →
    (∃ b, t.mon.record = some { r with additional := b } ∧ (r.additional = true → b = true)) ∨
    (t.mon.record = none ∧ s.unit.mode = .faultFlash ∧ s.compat.status = .valid ∧ t.unit.mode = .startFlash)

/-- O56. An AMBER or a RED_CLEAR of a control mode runs its full time: while its timer is above 0, one command takes at
most one tenth of it and nothing ends it but FAULT_FLASH, an outage or hardware reset (R4, R6, R7, R43). -/
def Obligations.AmberRunsFull : Prop :=
  ∀ c s t n k, (∀ straps, c ≠ .hardwareReset straps) → s.unit.mode.isControl = true → (s.chan k).used = true →
    ((s.chan k).ind = .amber ∨ (s.chan k).ind = .redClear) → (s.chan k).timer = n + 1 → exec c s = .next t →
    t.unit.mode = .faultFlash ∨ t.unit.mode = .powerOut ∨
      ((t.chan k).ind = (s.chan k).ind ∧ ((t.chan k).timer = n + 1 ∨ (t.chan k).timer = n) ∧
        ((t.chan k).timer = n → t.time.tenth = s.time.tenth + 1))

/-! ### Rules of the blocks -/

/-- O57. The loads of a vehicle GREEN entry (R68); the allowed gap, case by case, and the bounds of the initial green and
of the allowed gap in a timing set that keeps the relations of R2 (R71). -/
def Obligations.GreenTimingArithmetic : Prop :=
  (∀ (c : Chan) (s : State),
    let a := (s.chan c).activeSet
    vehicleEntry c s = { s with
      greens := vset s.greens c
        { initial := max a.minGreen (min a.maxInitial (a.addedInitial * (s.green c).actCount))
          elapsed := 0, gap := a.maxGap, maxTimer := a.maxGreen, maxOut := false
          clock := if (s.serviceable &&& conflictsOf s.compat.inUse c) ≠ 0 then some 0 else none
          actCount := 0, latch := false } }) ∧
  ∀ a : Timing,
    allowedGap a none = a.maxGap ∧
    (∀ t, t ≤ a.tbr → allowedGap a (some t) = a.maxGap) ∧
    (∀ t, a.tbr < t → t < a.tbr + a.ttr →
      allowedGap a (some t) = a.maxGap - (a.maxGap - a.minGap) * (t - a.tbr) / a.ttr) ∧
    (∀ t, a.tbr < t → a.tbr + a.ttr ≤ t → allowedGap a (some t) = a.minGap) ∧
    (a.InRange →
      (∀ clock, a.minGap ≤ allowedGap a clock ∧ allowedGap a clock ≤ a.maxGap) ∧
      (a.minGap = a.maxGap → ∀ clock, allowedGap a clock = a.maxGap) ∧
      (∀ t, a.tbr < t → t < a.tbr + a.ttr → a.minGap < a.maxGap → a.minGap < allowedGap a (some t)) ∧
      (∀ count, a.minGreen ≤ initialGreen a count ∧ initialGreen a count ≤ a.maxGreen))

/-- O58. The eligible next step: in SINGLE mode the first record after the head that is not skipped, in CYCLE mode the
first in the circle after the current one; a first selection examines the current position too; a record is skipped when its
skip flag is on and no channel of its green set has a call (R38 to R40). The termination of a FIXED and of an ACTUATED step and
its handover: the queue and the position, the greens ended and the classes of the transition that begins; the rest where no
step is eligible, and its end (R41 to R43, Table 3-3, R48 to R51, R72, R74, R76). With no preempt, transition, owed order or
reduction clock due, this judgment is the next of the moment in CONTROLLED; the order of the judgments is the model's (log entry
6). -/
def Obligations.EligibleNextStep : Prop :=
  (∀ (s : State) (i : Nat),
    let n := s.seq.queue.length
    let skip := fun j => ∀ r, s.seq.queue[j]? = some r → r.skip = true ∧ ∀ c, has r.greenSet c = true → has s.calls c = false
    (s.seq.mode = .single → s.seq.position = 0 →
      (s.eligible = some i ↔ 1 ≤ i ∧ i < n ∧ ¬ skip i ∧ ∀ j, 1 ≤ j → j < i → skip j)) ∧
    (s.seq.mode = .cycle → s.seq.position < n →
      (s.eligible = some i ↔ i < n ∧ i ≠ s.seq.position ∧ ¬ skip i ∧
        ∀ j, j < n → j ≠ s.seq.position →
          (j + n - s.seq.position) % n < (i + n - s.seq.position) % n → skip j)) ∧
    (s.seq.mode = .single → (s.firstChoice = some i ↔ i < n ∧ ¬ skip i ∧ ∀ j, j < i → skip j)) ∧
    (s.seq.mode = .cycle → s.seq.position < n →
      (s.firstChoice = some i ↔ i < n ∧ ¬ skip i ∧
        ∀ j, j < n → (j + n - s.seq.position) % n < (i + n - s.seq.position) % n → skip j))) ∧
  (∀ (s : State) (r : StepRecord), s.seq.current = true → (s.seq.phase = .fullGreen ∨ s.seq.phase = .resting) →
    s.seq.transition = none → s.record = some r →
    let every := fun vehicle : Chan → Prop => ∀ c, has r.greenSet c = true →
      ((s.chan c).kind = .vehicle → (s.chan c).ind = .green ∧ vehicle c) ∧
      ((s.chan c).kind = .pedestrian → has s.seq.served c = true → (s.chan c).ind = .redClear ∨ (s.chan c).ind = .red)
    let ends := s.seq.hold = false ∧ match r.termination with
      | .fixed => (s.seq.force = true ∨ s.seq.stepTimer = 0) ∧
          every (fun c => (s.chan c).activeSet.minGreen ≤ (s.green c).elapsed)
      | .actuated => if s.seq.force = true then every (fun c => (s.green c).initial = 0) else
          (∃ c, has s.serviceable c = true) ∧ every (fun c => (s.green c).initial = 0 ∧
            ((s.green c).maxOut = true ∨ ((s.chan c).recallKind ≠ .max ∧ (s.green c).gap = 0 ∧
              ∀ d, has (s.extends d) c = false)))
    (ends → ∀ i n, s.eligible = some i → s.seq.queue[i]? = some n →
      ∃ t, judgeTermination s = some t ∧ s.HandsOver t i n true ∧ t.arb = s.arb ∧ t.pres = s.pres) ∧
    (ends → s.eligible = none → judgeTermination s =
      if s.seq.phase = .resting then none else some { s with seq := { s.seq with phase := .resting } }) ∧
    (¬ ends → judgeTermination s =
      if s.seq.phase = .resting then some { s with seq := { s.seq with phase := .fullGreen } } else none) ∧
    (s.unit.mode = .controlled → s.preemptsQuiet → s.seq.owedEnds = 0 → s.clockStarts = 0 →
      judge s = judgeTermination s)) ∧
  (∀ s : State, s.seq.current = false → s.arb.holder = none →
    (∀ i n, s.firstChoice = some i → s.seq.queue[i]? = some n →
      ∃ t, judgeFirst s = some t ∧ s.HandsOver t i n false ∧ t.arb = s.arb ∧ t.pres = s.pres) ∧
    (s.firstChoice = none → judgeFirst s = none))

/-- O59. The start moment: the channel that a judgment starts was WAITING and RED with every incompatible channel RED or
DARK; a vehicle channel turns GREEN, a pedestrian one turns GREEN when it has a call and else becomes UNSERVED; none is
left to start when no such channel exists (R44, R45). -/
def Obligations.StartMoment : Prop :=
  ∀ (s : State) (x : Transition), s.seq.transition = some x →
    let ready := fun c : Chan => x.classes.get c = .waiting ∧ (s.chan c).ind = .red ∧
      ∀ j, compatible s.compat.inUse c j = false → (s.chan j).ind = .red ∨ (s.chan j).ind = .dark
    (judgeStart s = none ↔ ∀ c, ¬ ready c) ∧
    (∀ t, judgeStart s = some t → ∃ c, ready c ∧ (∀ j, j < c → ¬ ready j) ∧
      (∀ j, j ≠ c → t.chan j = s.chan j) ∧
      (∃ y, t.seq.transition = some y ∧ y.target = x.target ∧ y.owner = x.owner ∧
        (∀ j, j ≠ c → y.classes.get j = x.classes.get j) ∧
        ((s.chan c).kind = .vehicle ∨ ((s.chan c).kind = .pedestrian ∧ has s.calls c = true) →
          y.classes.get c = .started ∧ (t.chan c).ind = .green ∧ (t.green c).latch = false) ∧
        ((s.chan c).kind = .pedestrian → has s.calls c = true →
          (t.chan c).timer = (s.chan c).pendingSet.walk ∧ (t.chan c).activeSet.walk = (s.chan c).pendingSet.walk) ∧
        ((s.chan c).kind = .pedestrian → has s.calls c = false →
          y.classes.get c = .unserved ∧ t = { s with seq := { s.seq with transition := some y } })))

/-- O60. The service slot: the PENDING request of highest priority, the lowest number among equals, takes a free slot or
the slot of a holder of strictly lower priority; its entry names its target, stops the step, puts the old holder out and
truncates what is outside the target (R106 to R109, R79). The dwell ends at timer 0 with the input inactive: the slot is freed
for a PENDING request, else the holder enters EXIT (R111). EXIT names a record by its exit kind and the interrupted step, and the
return handover gives that record the channels and frees the slot; with no record named the preempt rests in EXIT, where its own
input marks it PENDING-at-exit (R112, R113). That an order still owed to a green of the target is dropped, that a walk of the
dwell set outside the record's set runs out, that the slot is free for no time at a direct pass, and the order of the judgments
of a moment, are the model's choices (log entries 41, 42, 43 and 6). -/
def Obligations.PreemptSelection : Prop :=
  (∀ s : State,
    let asks := fun p : Pre => (s.pre p).state = .pending ∧
      ∀ h, s.arb.holder = some h → (s.pre h).cfg.priority < (s.pre p).cfg.priority
    (judgeSlot s = none ↔ ∀ p, ¬ asks p) ∧
    (∀ t, judgeSlot s = some t → ∃ p, asks p ∧
      (∀ q, (s.pre q).state = .pending → (s.pre q).cfg.priority < (s.pre p).cfg.priority ∨
        ((s.pre q).cfg.priority = (s.pre p).cfg.priority ∧ p ≤ q)) ∧
      let cfg := (s.pre p).cfg
      let target := if 0 < cfg.trackTime then cfg.trackSet else cfg.dwellSet
      let cut := fun c : Chan => min (s.green c).initial (cfg.minGreen - (s.green c).elapsed)
      t.arb.holder = some p ∧ t.arb.interrupted = (s.arb.interrupted || s.seq.current) ∧ t.seq.current = false ∧
      t.seq.queue = s.seq.queue ∧ t.seq.position = s.seq.position ∧
      (t.pre p).state = .entry ∧ (t.pre p).serviceTimer = 0 ∧ (t.pre p).cfg = cfg ∧
      (t.pre p).stage = (if t.seq.owedEnds = 0 then .clearing else .minimum) ∧
      (∀ h, s.arb.holder = some h → (t.pre h).serviceTimer = 0 ∧ (t.pre h).stage = .none ∧
        (t.pre h).state = if (s.pre h).active = true ∨ (s.pre h).cfg.locking = true then .pending else .idle) ∧
      (∃ x, t.seq.transition = some x ∧ x.target = target ∧ x.owner = .preempt) ∧
      ∀ c,
        (has target c = true → (t.chan c).ind = (s.chan c).ind ∧ (t.chan c).timer = (s.chan c).timer ∧
          has t.seq.owedEnds c = false) ∧
        (has target c = false → (s.chan c).kind = .vehicle → (s.chan c).ind = .green → cut c = 0 →
          (t.chan c).ind = .amber ∧ (t.chan c).timer = (s.chan c).pendingSet.amber) ∧
        (has target c = false → (s.chan c).kind = .vehicle → (s.chan c).ind = .green → 0 < cut c →
          (t.chan c).ind = .green ∧ (t.green c).initial = cut c ∧ has t.seq.owedEnds c = true) ∧
        (has target c = false → (s.chan c).kind = .pedestrian → (s.chan c).ind = .green →
          (t.chan c).ind = .pedClear ∧ (t.chan c).timer =
            if cfg.pedTruncate then min cfg.pedClear (s.chan c).pendingSet.pedClear
            else (s.chan c).pendingSet.pedClear) ∧
        (has target c = false → (s.chan c).kind = .pedestrian → (s.chan c).ind = .pedClear →
          (t.chan c).ind = .pedClear ∧ (t.chan c).timer =
            if cfg.pedTruncate then min cfg.pedClear (s.chan c).timer else (s.chan c).timer) ∧
        ((s.chan c).ind ≠ .green → (s.chan c).ind ≠ .pedClear →
          (t.chan c).ind = (s.chan c).ind ∧ (t.chan c).timer = (s.chan c).timer))) ∧
  (∀ (s : State) (h : Pre), s.arb.holder = some h → (s.pre h).state = .dwell →
    let done := s.seq.transition = none ∧ (s.pre h).serviceTimer = 0 ∧ (s.pre h).active = false
    (¬ done → judgeDwell s = none) ∧
    (done → (∃ q, (s.pre q).state = .pending) → judgeDwell s = some
      { s with pres := vset s.pres h { s.pre h with state := .idle }, arb := { s.arb with holder := none } }) ∧
    (done → (∀ q, (s.pre q).state ≠ .pending) → judgeDwell s = some
      { s with pres := vset s.pres h { s.pre h with state := .exit, pendingAtExit := false } })) ∧
  (∀ (s : State) (h : Pre), s.arb.holder = some h → (s.pre h).state = .exit →
    let returns := fun (i : Nat) (n : StepRecord) (drop : Bool) => ∃ t, judgeExit s = some t ∧ s.HandsOver t i n drop ∧
      t.arb = { s.arb with holder := none, interrupted := false } ∧
      t.pres = vset s.pres h
        { s.pre h with state := if (s.pre h).pendingAtExit then .pending else .idle, pendingAtExit := false }
    (s.arb.interrupted = true → ∀ n, s.record = some n →
      ((s.pre h).cfg.exitKind = .resume ∨ s.eligible = none → returns s.seq.position n false) ∧
      ((s.pre h).cfg.exitKind = .next → ∀ i r, s.eligible = some i → s.seq.queue[i]? = some r → returns i r true)) ∧
    (s.arb.interrupted = false →
      (∀ i n, s.firstChoice = some i → s.seq.queue[i]? = some n → returns i n false) ∧
      (s.firstChoice = none → judgeExit s = none)) ∧
    (s.unit.mode = .controlled → s.seq.current = false → s.seq.transition = none → s.seq.owedEnds = 0 →
      s.clockStarts = 0 → (∀ q, q ≠ h → (s.pre q).state = .idle ∧ (s.pre q).active = false) →
      ((s.pre h).active = true → (s.pre h).pendingAtExit = true) →
      ((s.pre h).pendingAtExit = true → (s.pre h).active = true ∨ (s.pre h).cfg.locking = true) →
      judge s = judgeExit s)) ∧
  (∀ (s : State) (h : Pre), s.unit.mode = .controlled → s.arb.holder = some h → (s.pre h).state = .exit →
    s.seq.current = false → s.seq.transition = none → s.seq.owedEnds = 0 → s.arb.interrupted = false →
    s.firstChoice = none → (∀ q, q ≠ h → (s.pre q).state = .idle ∧ (s.pre q).active = false) →
    (s.pre h).run = 2 → (s.pre h).stuck = false →
    ∃ t, exec (.preemptInputLevelChange h) s = .next t ∧ t.arb = s.arb ∧ (t.pre h).state = .exit ∧
      (t.pre h).level = (!(s.pre h).level) ∧
      ((s.pre h).level = false → (t.pre h).pendingAtExit = true) ∧
      ((s.pre h).level = true → (t.pre h).pendingAtExit = ((s.pre h).pendingAtExit && (s.pre h).cfg.locking)))
end

