-- ==== Sys2Proof/Laws/Word.lean ====
section
/-! SUPPORT. Laws/Word.lean: the small laws of banks of records and of masks, so that later proofs unfold neither. -/

namespace Sys2Proof

/-! ### Banks of records -/

/-- The record at an index, as the library spells it. -/
theorem get_getElem {α : Type} {n : Nat} (v : Vector α n) (i : Fin n) : v.get i = v[i.val] := rfl

@[simp] theorem vmap_get {α β : Type} {n : Nat} (f : Fin n → α → β) (v : Vector α n) (i : Fin n) :
    (vmap f v).get i = f i (v.get i) := by
  simp [vmap, get_getElem]

theorem vset_get {α : Type} {n : Nat} (v : Vector α n) (i j : Fin n) (a : α) :
    (vset v i a).get j = if j = i then a else v.get j := by
  by_cases h : j = i
  · subst h; simp [vset, get_getElem]
  · have : i.val ≠ j.val := fun e => h (Fin.ext e.symm)
    simp [vset, get_getElem, h, this]

@[simp] theorem vset_get_same {α : Type} {n : Nat} (v : Vector α n) (i : Fin n) (a : α) :
    (vset v i a).get i = a := by simp [vset_get]

theorem vset_get_other {α : Type} {n : Nat} (v : Vector α n) {i j : Fin n} (a : α) (h : j ≠ i) :
    (vset v i a).get j = v.get j := by simp [vset_get, h]

@[simp] theorem ofFn_get {α : Type} {n : Nat} (f : Fin n → α) (i : Fin n) : (Vector.ofFn f).get i = f i := by
  simp [get_getElem]

@[simp] theorem replicate_get {α : Type} {n : Nat} (a : α) (i : Fin n) : (Vector.replicate n a).get i = a := by
  simp [get_getElem]

/-- Two banks with the same records are the same bank. -/
theorem bank_ext {α : Type} {n : Nat} {v w : Vector α n} (h : ∀ i, v.get i = w.get i) : v = w := by
  apply Vector.ext
  intro k hk
  have := h ⟨k, hk⟩
  simpa [get_getElem] using this

/-! ### Masks -/

@[simp] theorem has_maskOf {n : Nat} (p : Fin n → Bool) (i : Fin n) : has (maskOf p) i = p i := by
  simp [has, maskOf]

@[simp] theorem has_and {n : Nat} (a b : BitVec n) (i : Fin n) : has (a &&& b) i = (has a i && has b i) := by
  simp [has]

@[simp] theorem has_or {n : Nat} (a b : BitVec n) (i : Fin n) : has (a ||| b) i = (has a i || has b i) := by
  simp [has]

@[simp] theorem has_not {n : Nat} (a : BitVec n) (i : Fin n) : has (~~~ a) i = !has a i := by
  simp [has]

@[simp] theorem has_zero {n : Nat} (i : Fin n) : has (0#n) i = false := by simp [has]

@[simp] theorem has_insertBit {n : Nat} (m : BitVec n) (i j : Fin n) : has (insertBit m i) j = (has m j || j == i) := by
  simp [insertBit]

@[simp] theorem has_eraseBit {n : Nat} (m : BitVec n) (i j : Fin n) : has (eraseBit m i) j = (has m j && !(j == i)) := by
  simp [eraseBit]

/-- Two masks with the same members are the same mask. -/
theorem mask_ext {n : Nat} {a b : BitVec n} (h : ∀ i, has a i = has b i) : a = b :=
  BitVec.eq_of_getLsbD_eq (fun i hi => h ⟨i, hi⟩)

/-- A mask is empty when nothing is in it. -/
theorem mask_eq_zero {n : Nat} {a : BitVec n} : a = 0 ↔ ∀ i, has a i = false :=
  ⟨fun h i => by simp [h], fun h => mask_ext (fun i => by simp [h i])⟩

end Sys2Proof
end

