-- ==== Sys2Proof/Laws/State.lean ====
section
/-! SUPPORT. Laws/State.lean: what each one-record update and each report flag leaves of the state, one lemma for each
field, so that no later proof unfolds a record update. -/

namespace Sys2Proof.Machine

/-! ### One channel record replaced -/

@[simp] theorem setChan_lamps (s : State) (c : Chan) (r : Channel) : (s.setChan c r).lamps = s.lamps := rfl
@[simp] theorem setChan_compat (s : State) (c : Chan) (r : Channel) : (s.setChan c r).compat = s.compat := rfl
@[simp] theorem setChan_seq (s : State) (c : Chan) (r : Channel) : (s.setChan c r).seq = s.seq := rfl
@[simp] theorem setChan_greens (s : State) (c : Chan) (r : Channel) : (s.setChan c r).greens = s.greens := rfl
@[simp] theorem setChan_dets (s : State) (c : Chan) (r : Channel) : (s.setChan c r).dets = s.dets := rfl
@[simp] theorem setChan_detMasks (s : State) (c : Chan) (r : Channel) : (s.setChan c r).detMasks = s.detMasks := rfl
@[simp] theorem setChan_pres (s : State) (c : Chan) (r : Channel) : (s.setChan c r).pres = s.pres := rfl
@[simp] theorem setChan_arb (s : State) (c : Chan) (r : Channel) : (s.setChan c r).arb = s.arb := rfl
@[simp] theorem setChan_mon (s : State) (c : Chan) (r : Channel) : (s.setChan c r).mon = s.mon := rfl
@[simp] theorem setChan_unit (s : State) (c : Chan) (r : Channel) : (s.setChan c r).unit = s.unit := rfl
@[simp] theorem setChan_time (s : State) (c : Chan) (r : Channel) : (s.setChan c r).time = s.time := rfl
@[simp] theorem setChan_tones (s : State) (c : Chan) (r : Channel) : (s.setChan c r).tones = s.tones := rfl
@[simp] theorem setChan_signs (s : State) (c : Chan) (r : Channel) : (s.setChan c r).signs = s.signs := rfl
@[simp] theorem setChan_link (s : State) (c : Chan) (r : Channel) : (s.setChan c r).link = s.link := rfl
@[simp] theorem setChan_pending (s : State) (c : Chan) (r : Channel) : (s.setChan c r).pending = s.pending := rfl

/-! ### One green record replaced -/

@[simp] theorem setGreen_chans (s : State) (c : Chan) (r : Green) : (s.setGreen c r).chans = s.chans := rfl
@[simp] theorem setGreen_lamps (s : State) (c : Chan) (r : Green) : (s.setGreen c r).lamps = s.lamps := rfl
@[simp] theorem setGreen_compat (s : State) (c : Chan) (r : Green) : (s.setGreen c r).compat = s.compat := rfl
@[simp] theorem setGreen_seq (s : State) (c : Chan) (r : Green) : (s.setGreen c r).seq = s.seq := rfl
@[simp] theorem setGreen_dets (s : State) (c : Chan) (r : Green) : (s.setGreen c r).dets = s.dets := rfl
@[simp] theorem setGreen_detMasks (s : State) (c : Chan) (r : Green) : (s.setGreen c r).detMasks = s.detMasks := rfl
@[simp] theorem setGreen_pres (s : State) (c : Chan) (r : Green) : (s.setGreen c r).pres = s.pres := rfl
@[simp] theorem setGreen_arb (s : State) (c : Chan) (r : Green) : (s.setGreen c r).arb = s.arb := rfl
@[simp] theorem setGreen_mon (s : State) (c : Chan) (r : Green) : (s.setGreen c r).mon = s.mon := rfl
@[simp] theorem setGreen_unit (s : State) (c : Chan) (r : Green) : (s.setGreen c r).unit = s.unit := rfl
@[simp] theorem setGreen_time (s : State) (c : Chan) (r : Green) : (s.setGreen c r).time = s.time := rfl
@[simp] theorem setGreen_tones (s : State) (c : Chan) (r : Green) : (s.setGreen c r).tones = s.tones := rfl
@[simp] theorem setGreen_signs (s : State) (c : Chan) (r : Green) : (s.setGreen c r).signs = s.signs := rfl
@[simp] theorem setGreen_link (s : State) (c : Chan) (r : Green) : (s.setGreen c r).link = s.link := rfl
@[simp] theorem setGreen_pending (s : State) (c : Chan) (r : Green) : (s.setGreen c r).pending = s.pending := rfl

/-! ### One detector record replaced -/

@[simp] theorem setDet_chans (s : State) (d : Det) (r : Detector) : (s.setDet d r).chans = s.chans := rfl
@[simp] theorem setDet_lamps (s : State) (d : Det) (r : Detector) : (s.setDet d r).lamps = s.lamps := rfl
@[simp] theorem setDet_compat (s : State) (d : Det) (r : Detector) : (s.setDet d r).compat = s.compat := rfl
@[simp] theorem setDet_seq (s : State) (d : Det) (r : Detector) : (s.setDet d r).seq = s.seq := rfl
@[simp] theorem setDet_greens (s : State) (d : Det) (r : Detector) : (s.setDet d r).greens = s.greens := rfl
@[simp] theorem setDet_detMasks (s : State) (d : Det) (r : Detector) : (s.setDet d r).detMasks = s.detMasks := rfl
@[simp] theorem setDet_pres (s : State) (d : Det) (r : Detector) : (s.setDet d r).pres = s.pres := rfl
@[simp] theorem setDet_arb (s : State) (d : Det) (r : Detector) : (s.setDet d r).arb = s.arb := rfl
@[simp] theorem setDet_mon (s : State) (d : Det) (r : Detector) : (s.setDet d r).mon = s.mon := rfl
@[simp] theorem setDet_unit (s : State) (d : Det) (r : Detector) : (s.setDet d r).unit = s.unit := rfl
@[simp] theorem setDet_time (s : State) (d : Det) (r : Detector) : (s.setDet d r).time = s.time := rfl
@[simp] theorem setDet_tones (s : State) (d : Det) (r : Detector) : (s.setDet d r).tones = s.tones := rfl
@[simp] theorem setDet_signs (s : State) (d : Det) (r : Detector) : (s.setDet d r).signs = s.signs := rfl
@[simp] theorem setDet_link (s : State) (d : Det) (r : Detector) : (s.setDet d r).link = s.link := rfl
@[simp] theorem setDet_pending (s : State) (d : Det) (r : Detector) : (s.setDet d r).pending = s.pending := rfl

/-! ### One preempt record replaced -/

@[simp] theorem setPre_chans (s : State) (p : Pre) (r : Preempt) : (s.setPre p r).chans = s.chans := rfl
@[simp] theorem setPre_lamps (s : State) (p : Pre) (r : Preempt) : (s.setPre p r).lamps = s.lamps := rfl
@[simp] theorem setPre_compat (s : State) (p : Pre) (r : Preempt) : (s.setPre p r).compat = s.compat := rfl
@[simp] theorem setPre_seq (s : State) (p : Pre) (r : Preempt) : (s.setPre p r).seq = s.seq := rfl
@[simp] theorem setPre_greens (s : State) (p : Pre) (r : Preempt) : (s.setPre p r).greens = s.greens := rfl
@[simp] theorem setPre_dets (s : State) (p : Pre) (r : Preempt) : (s.setPre p r).dets = s.dets := rfl
@[simp] theorem setPre_detMasks (s : State) (p : Pre) (r : Preempt) : (s.setPre p r).detMasks = s.detMasks := rfl
@[simp] theorem setPre_arb (s : State) (p : Pre) (r : Preempt) : (s.setPre p r).arb = s.arb := rfl
@[simp] theorem setPre_mon (s : State) (p : Pre) (r : Preempt) : (s.setPre p r).mon = s.mon := rfl
@[simp] theorem setPre_unit (s : State) (p : Pre) (r : Preempt) : (s.setPre p r).unit = s.unit := rfl
@[simp] theorem setPre_time (s : State) (p : Pre) (r : Preempt) : (s.setPre p r).time = s.time := rfl
@[simp] theorem setPre_tones (s : State) (p : Pre) (r : Preempt) : (s.setPre p r).tones = s.tones := rfl
@[simp] theorem setPre_signs (s : State) (p : Pre) (r : Preempt) : (s.setPre p r).signs = s.signs := rfl
@[simp] theorem setPre_link (s : State) (p : Pre) (r : Preempt) : (s.setPre p r).link = s.link := rfl
@[simp] theorem setPre_pending (s : State) (p : Pre) (r : Preempt) : (s.setPre p r).pending = s.pending := rfl

/-! ### One tone line replaced -/

@[simp] theorem setLine_chans (s : State) (i : Line) (l : ToneLine) : (s.setLine i l).chans = s.chans := rfl
@[simp] theorem setLine_lamps (s : State) (i : Line) (l : ToneLine) : (s.setLine i l).lamps = s.lamps := rfl
@[simp] theorem setLine_compat (s : State) (i : Line) (l : ToneLine) : (s.setLine i l).compat = s.compat := rfl
@[simp] theorem setLine_seq (s : State) (i : Line) (l : ToneLine) : (s.setLine i l).seq = s.seq := rfl
@[simp] theorem setLine_greens (s : State) (i : Line) (l : ToneLine) : (s.setLine i l).greens = s.greens := rfl
@[simp] theorem setLine_dets (s : State) (i : Line) (l : ToneLine) : (s.setLine i l).dets = s.dets := rfl
@[simp] theorem setLine_detMasks (s : State) (i : Line) (l : ToneLine) : (s.setLine i l).detMasks = s.detMasks := rfl
@[simp] theorem setLine_pres (s : State) (i : Line) (l : ToneLine) : (s.setLine i l).pres = s.pres := rfl
@[simp] theorem setLine_arb (s : State) (i : Line) (l : ToneLine) : (s.setLine i l).arb = s.arb := rfl
@[simp] theorem setLine_mon (s : State) (i : Line) (l : ToneLine) : (s.setLine i l).mon = s.mon := rfl
@[simp] theorem setLine_unit (s : State) (i : Line) (l : ToneLine) : (s.setLine i l).unit = s.unit := rfl
@[simp] theorem setLine_time (s : State) (i : Line) (l : ToneLine) : (s.setLine i l).time = s.time := rfl
@[simp] theorem setLine_signs (s : State) (i : Line) (l : ToneLine) : (s.setLine i l).signs = s.signs := rfl
@[simp] theorem setLine_link (s : State) (i : Line) (l : ToneLine) : (s.setLine i l).link = s.link := rfl
@[simp] theorem setLine_pending (s : State) (i : Line) (l : ToneLine) : (s.setLine i l).pending = s.pending := rfl

/-! ### A report flag set -/

@[simp] theorem flag_chans (r : Report) (s : State) : (flag r s).chans = s.chans := rfl
@[simp] theorem flag_lamps (r : Report) (s : State) : (flag r s).lamps = s.lamps := rfl
@[simp] theorem flag_compat (r : Report) (s : State) : (flag r s).compat = s.compat := rfl
@[simp] theorem flag_seq (r : Report) (s : State) : (flag r s).seq = s.seq := rfl
@[simp] theorem flag_greens (r : Report) (s : State) : (flag r s).greens = s.greens := rfl
@[simp] theorem flag_dets (r : Report) (s : State) : (flag r s).dets = s.dets := rfl
@[simp] theorem flag_detMasks (r : Report) (s : State) : (flag r s).detMasks = s.detMasks := rfl
@[simp] theorem flag_pres (r : Report) (s : State) : (flag r s).pres = s.pres := rfl
@[simp] theorem flag_arb (r : Report) (s : State) : (flag r s).arb = s.arb := rfl
@[simp] theorem flag_mon (r : Report) (s : State) : (flag r s).mon = s.mon := rfl
@[simp] theorem flag_unit (r : Report) (s : State) : (flag r s).unit = s.unit := rfl
@[simp] theorem flag_time (r : Report) (s : State) : (flag r s).time = s.time := rfl
@[simp] theorem flag_tones (r : Report) (s : State) : (flag r s).tones = s.tones := rfl
@[simp] theorem flag_signs (r : Report) (s : State) : (flag r s).signs = s.signs := rfl
@[simp] theorem flag_pending (r : Report) (s : State) : (flag r s).pending = s.pending := rfl

/-! ### An interval timer loaded -/

@[simp] theorem loadTimer_lamps (c : Chan) (n : Nat) (s : State) : (loadTimer c n s).lamps = s.lamps := rfl
@[simp] theorem loadTimer_compat (c : Chan) (n : Nat) (s : State) : (loadTimer c n s).compat = s.compat := rfl
@[simp] theorem loadTimer_seq (c : Chan) (n : Nat) (s : State) : (loadTimer c n s).seq = s.seq := rfl
@[simp] theorem loadTimer_greens (c : Chan) (n : Nat) (s : State) : (loadTimer c n s).greens = s.greens := rfl
@[simp] theorem loadTimer_dets (c : Chan) (n : Nat) (s : State) : (loadTimer c n s).dets = s.dets := rfl
@[simp] theorem loadTimer_detMasks (c : Chan) (n : Nat) (s : State) : (loadTimer c n s).detMasks = s.detMasks := rfl
@[simp] theorem loadTimer_pres (c : Chan) (n : Nat) (s : State) : (loadTimer c n s).pres = s.pres := rfl
@[simp] theorem loadTimer_arb (c : Chan) (n : Nat) (s : State) : (loadTimer c n s).arb = s.arb := rfl
@[simp] theorem loadTimer_mon (c : Chan) (n : Nat) (s : State) : (loadTimer c n s).mon = s.mon := rfl
@[simp] theorem loadTimer_unit (c : Chan) (n : Nat) (s : State) : (loadTimer c n s).unit = s.unit := rfl
@[simp] theorem loadTimer_time (c : Chan) (n : Nat) (s : State) : (loadTimer c n s).time = s.time := rfl
@[simp] theorem loadTimer_tones (c : Chan) (n : Nat) (s : State) : (loadTimer c n s).tones = s.tones := rfl
@[simp] theorem loadTimer_signs (c : Chan) (n : Nat) (s : State) : (loadTimer c n s).signs = s.signs := rfl
@[simp] theorem loadTimer_link (c : Chan) (n : Nat) (s : State) : (loadTimer c n s).link = s.link := rfl
@[simp] theorem loadTimer_pending (c : Chan) (n : Nat) (s : State) : (loadTimer c n s).pending = s.pending := rfl

/-! ### An active set copied -/

@[simp] theorem copyActive_lamps (c : Chan) (f : Timing → Timing → Timing) (s : State) : (copyActive c f s).lamps = s.lamps := rfl
@[simp] theorem copyActive_compat (c : Chan) (f : Timing → Timing → Timing) (s : State) : (copyActive c f s).compat = s.compat := rfl
@[simp] theorem copyActive_seq (c : Chan) (f : Timing → Timing → Timing) (s : State) : (copyActive c f s).seq = s.seq := rfl
@[simp] theorem copyActive_greens (c : Chan) (f : Timing → Timing → Timing) (s : State) : (copyActive c f s).greens = s.greens := rfl
@[simp] theorem copyActive_dets (c : Chan) (f : Timing → Timing → Timing) (s : State) : (copyActive c f s).dets = s.dets := rfl
@[simp] theorem copyActive_detMasks (c : Chan) (f : Timing → Timing → Timing) (s : State) : (copyActive c f s).detMasks = s.detMasks := rfl
@[simp] theorem copyActive_pres (c : Chan) (f : Timing → Timing → Timing) (s : State) : (copyActive c f s).pres = s.pres := rfl
@[simp] theorem copyActive_arb (c : Chan) (f : Timing → Timing → Timing) (s : State) : (copyActive c f s).arb = s.arb := rfl
@[simp] theorem copyActive_mon (c : Chan) (f : Timing → Timing → Timing) (s : State) : (copyActive c f s).mon = s.mon := rfl
@[simp] theorem copyActive_unit (c : Chan) (f : Timing → Timing → Timing) (s : State) : (copyActive c f s).unit = s.unit := rfl
@[simp] theorem copyActive_time (c : Chan) (f : Timing → Timing → Timing) (s : State) : (copyActive c f s).time = s.time := rfl
@[simp] theorem copyActive_tones (c : Chan) (f : Timing → Timing → Timing) (s : State) : (copyActive c f s).tones = s.tones := rfl
@[simp] theorem copyActive_signs (c : Chan) (f : Timing → Timing → Timing) (s : State) : (copyActive c f s).signs = s.signs := rfl
@[simp] theorem copyActive_link (c : Chan) (f : Timing → Timing → Timing) (s : State) : (copyActive c f s).link = s.link := rfl
@[simp] theorem copyActive_pending (c : Chan) (f : Timing → Timing → Timing) (s : State) : (copyActive c f s).pending = s.pending := rfl

/-! ### A call latch cleared -/

@[simp] theorem clearLatch_chans (c : Chan) (s : State) : (clearLatch c s).chans = s.chans := rfl
@[simp] theorem clearLatch_lamps (c : Chan) (s : State) : (clearLatch c s).lamps = s.lamps := rfl
@[simp] theorem clearLatch_compat (c : Chan) (s : State) : (clearLatch c s).compat = s.compat := rfl
@[simp] theorem clearLatch_seq (c : Chan) (s : State) : (clearLatch c s).seq = s.seq := rfl
@[simp] theorem clearLatch_dets (c : Chan) (s : State) : (clearLatch c s).dets = s.dets := rfl
@[simp] theorem clearLatch_detMasks (c : Chan) (s : State) : (clearLatch c s).detMasks = s.detMasks := rfl
@[simp] theorem clearLatch_pres (c : Chan) (s : State) : (clearLatch c s).pres = s.pres := rfl
@[simp] theorem clearLatch_arb (c : Chan) (s : State) : (clearLatch c s).arb = s.arb := rfl
@[simp] theorem clearLatch_mon (c : Chan) (s : State) : (clearLatch c s).mon = s.mon := rfl
@[simp] theorem clearLatch_unit (c : Chan) (s : State) : (clearLatch c s).unit = s.unit := rfl
@[simp] theorem clearLatch_time (c : Chan) (s : State) : (clearLatch c s).time = s.time := rfl
@[simp] theorem clearLatch_tones (c : Chan) (s : State) : (clearLatch c s).tones = s.tones := rfl
@[simp] theorem clearLatch_signs (c : Chan) (s : State) : (clearLatch c s).signs = s.signs := rfl
@[simp] theorem clearLatch_link (c : Chan) (s : State) : (clearLatch c s).link = s.link := rfl
@[simp] theorem clearLatch_pending (c : Chan) (s : State) : (clearLatch c s).pending = s.pending := rfl

/-! ### A vehicle GREEN entry told -/

@[simp] theorem vehicleEntry_chans (c : Chan) (s : State) : (vehicleEntry c s).chans = s.chans := rfl
@[simp] theorem vehicleEntry_lamps (c : Chan) (s : State) : (vehicleEntry c s).lamps = s.lamps := rfl
@[simp] theorem vehicleEntry_compat (c : Chan) (s : State) : (vehicleEntry c s).compat = s.compat := rfl
@[simp] theorem vehicleEntry_seq (c : Chan) (s : State) : (vehicleEntry c s).seq = s.seq := rfl
@[simp] theorem vehicleEntry_dets (c : Chan) (s : State) : (vehicleEntry c s).dets = s.dets := rfl
@[simp] theorem vehicleEntry_detMasks (c : Chan) (s : State) : (vehicleEntry c s).detMasks = s.detMasks := rfl
@[simp] theorem vehicleEntry_pres (c : Chan) (s : State) : (vehicleEntry c s).pres = s.pres := rfl
@[simp] theorem vehicleEntry_arb (c : Chan) (s : State) : (vehicleEntry c s).arb = s.arb := rfl
@[simp] theorem vehicleEntry_mon (c : Chan) (s : State) : (vehicleEntry c s).mon = s.mon := rfl
@[simp] theorem vehicleEntry_unit (c : Chan) (s : State) : (vehicleEntry c s).unit = s.unit := rfl
@[simp] theorem vehicleEntry_time (c : Chan) (s : State) : (vehicleEntry c s).time = s.time := rfl
@[simp] theorem vehicleEntry_tones (c : Chan) (s : State) : (vehicleEntry c s).tones = s.tones := rfl
@[simp] theorem vehicleEntry_signs (c : Chan) (s : State) : (vehicleEntry c s).signs = s.signs := rfl
@[simp] theorem vehicleEntry_link (c : Chan) (s : State) : (vehicleEntry c s).link = s.link := rfl
@[simp] theorem vehicleEntry_pending (c : Chan) (s : State) : (vehicleEntry c s).pending = s.pending := rfl

/-! ### The tone lines told of an indication -/

@[simp] theorem tonesFollow_chans (c : Chan) (o n : Indication) (s : State) : (tonesFollow c o n s).chans = s.chans := rfl
@[simp] theorem tonesFollow_lamps (c : Chan) (o n : Indication) (s : State) : (tonesFollow c o n s).lamps = s.lamps := rfl
@[simp] theorem tonesFollow_compat (c : Chan) (o n : Indication) (s : State) : (tonesFollow c o n s).compat = s.compat := rfl
@[simp] theorem tonesFollow_seq (c : Chan) (o n : Indication) (s : State) : (tonesFollow c o n s).seq = s.seq := rfl
@[simp] theorem tonesFollow_greens (c : Chan) (o n : Indication) (s : State) : (tonesFollow c o n s).greens = s.greens := rfl
@[simp] theorem tonesFollow_dets (c : Chan) (o n : Indication) (s : State) : (tonesFollow c o n s).dets = s.dets := rfl
@[simp] theorem tonesFollow_detMasks (c : Chan) (o n : Indication) (s : State) : (tonesFollow c o n s).detMasks = s.detMasks := rfl
@[simp] theorem tonesFollow_pres (c : Chan) (o n : Indication) (s : State) : (tonesFollow c o n s).pres = s.pres := rfl
@[simp] theorem tonesFollow_arb (c : Chan) (o n : Indication) (s : State) : (tonesFollow c o n s).arb = s.arb := rfl
@[simp] theorem tonesFollow_mon (c : Chan) (o n : Indication) (s : State) : (tonesFollow c o n s).mon = s.mon := rfl
@[simp] theorem tonesFollow_unit (c : Chan) (o n : Indication) (s : State) : (tonesFollow c o n s).unit = s.unit := rfl
@[simp] theorem tonesFollow_time (c : Chan) (o n : Indication) (s : State) : (tonesFollow c o n s).time = s.time := rfl
@[simp] theorem tonesFollow_signs (c : Chan) (o n : Indication) (s : State) : (tonesFollow c o n s).signs = s.signs := rfl
@[simp] theorem tonesFollow_link (c : Chan) (o n : Indication) (s : State) : (tonesFollow c o n s).link = s.link := rfl
@[simp] theorem tonesFollow_pending (c : Chan) (o n : Indication) (s : State) : (tonesFollow c o n s).pending = s.pending := rfl

/-! ### A step stopped -/

@[simp] theorem stopStep_chans (s : State) : (stopStep s).chans = s.chans := rfl
@[simp] theorem stopStep_lamps (s : State) : (stopStep s).lamps = s.lamps := rfl
@[simp] theorem stopStep_compat (s : State) : (stopStep s).compat = s.compat := rfl
@[simp] theorem stopStep_greens (s : State) : (stopStep s).greens = s.greens := rfl
@[simp] theorem stopStep_dets (s : State) : (stopStep s).dets = s.dets := rfl
@[simp] theorem stopStep_detMasks (s : State) : (stopStep s).detMasks = s.detMasks := rfl
@[simp] theorem stopStep_pres (s : State) : (stopStep s).pres = s.pres := rfl
@[simp] theorem stopStep_arb (s : State) : (stopStep s).arb = s.arb := rfl
@[simp] theorem stopStep_mon (s : State) : (stopStep s).mon = s.mon := rfl
@[simp] theorem stopStep_unit (s : State) : (stopStep s).unit = s.unit := rfl
@[simp] theorem stopStep_time (s : State) : (stopStep s).time = s.time := rfl
@[simp] theorem stopStep_tones (s : State) : (stopStep s).tones = s.tones := rfl
@[simp] theorem stopStep_signs (s : State) : (stopStep s).signs = s.signs := rfl
@[simp] theorem stopStep_link (s : State) : (stopStep s).link = s.link := rfl
@[simp] theorem stopStep_pending (s : State) : (stopStep s).pending = s.pending := rfl

/-! ### A transition begun -/

@[simp] theorem beginTransition_chans (t : ChanSet) (o : Owner) (s : State) : (beginTransition t o s).chans = s.chans := rfl
@[simp] theorem beginTransition_lamps (t : ChanSet) (o : Owner) (s : State) : (beginTransition t o s).lamps = s.lamps := rfl
@[simp] theorem beginTransition_compat (t : ChanSet) (o : Owner) (s : State) : (beginTransition t o s).compat = s.compat := rfl
@[simp] theorem beginTransition_greens (t : ChanSet) (o : Owner) (s : State) : (beginTransition t o s).greens = s.greens := rfl
@[simp] theorem beginTransition_dets (t : ChanSet) (o : Owner) (s : State) : (beginTransition t o s).dets = s.dets := rfl
@[simp] theorem beginTransition_detMasks (t : ChanSet) (o : Owner) (s : State) : (beginTransition t o s).detMasks = s.detMasks := rfl
@[simp] theorem beginTransition_pres (t : ChanSet) (o : Owner) (s : State) : (beginTransition t o s).pres = s.pres := rfl
@[simp] theorem beginTransition_arb (t : ChanSet) (o : Owner) (s : State) : (beginTransition t o s).arb = s.arb := rfl
@[simp] theorem beginTransition_mon (t : ChanSet) (o : Owner) (s : State) : (beginTransition t o s).mon = s.mon := rfl
@[simp] theorem beginTransition_unit (t : ChanSet) (o : Owner) (s : State) : (beginTransition t o s).unit = s.unit := rfl
@[simp] theorem beginTransition_time (t : ChanSet) (o : Owner) (s : State) : (beginTransition t o s).time = s.time := rfl
@[simp] theorem beginTransition_tones (t : ChanSet) (o : Owner) (s : State) : (beginTransition t o s).tones = s.tones := rfl
@[simp] theorem beginTransition_signs (t : ChanSet) (o : Owner) (s : State) : (beginTransition t o s).signs = s.signs := rfl
@[simp] theorem beginTransition_link (t : ChanSet) (o : Owner) (s : State) : (beginTransition t o s).link = s.link := rfl
@[simp] theorem beginTransition_pending (t : ChanSet) (o : Owner) (s : State) : (beginTransition t o s).pending = s.pending := rfl

/-! ### The flash cause set -/

@[simp] theorem setCause_chans (k : FlashCause) (s : State) : (setCause k s).chans = s.chans := rfl
@[simp] theorem setCause_lamps (k : FlashCause) (s : State) : (setCause k s).lamps = s.lamps := rfl
@[simp] theorem setCause_compat (k : FlashCause) (s : State) : (setCause k s).compat = s.compat := rfl
@[simp] theorem setCause_seq (k : FlashCause) (s : State) : (setCause k s).seq = s.seq := rfl
@[simp] theorem setCause_greens (k : FlashCause) (s : State) : (setCause k s).greens = s.greens := rfl
@[simp] theorem setCause_dets (k : FlashCause) (s : State) : (setCause k s).dets = s.dets := rfl
@[simp] theorem setCause_detMasks (k : FlashCause) (s : State) : (setCause k s).detMasks = s.detMasks := rfl
@[simp] theorem setCause_pres (k : FlashCause) (s : State) : (setCause k s).pres = s.pres := rfl
@[simp] theorem setCause_arb (k : FlashCause) (s : State) : (setCause k s).arb = s.arb := rfl
@[simp] theorem setCause_mon (k : FlashCause) (s : State) : (setCause k s).mon = s.mon := rfl
@[simp] theorem setCause_time (k : FlashCause) (s : State) : (setCause k s).time = s.time := rfl
@[simp] theorem setCause_tones (k : FlashCause) (s : State) : (setCause k s).tones = s.tones := rfl
@[simp] theorem setCause_signs (k : FlashCause) (s : State) : (setCause k s).signs = s.signs := rfl
@[simp] theorem setCause_link (k : FlashCause) (s : State) : (setCause k s).link = s.link := rfl
@[simp] theorem setCause_pending (k : FlashCause) (s : State) : (setCause k s).pending = s.pending := rfl

/-! ### The waiting half-cycle left unjudged (R120), the sign outputs low (R171) -/

@[simp] theorem leaveUnjudged_chans (s : State) : (leaveUnjudged s).chans = s.chans := rfl
@[simp] theorem leaveUnjudged_lamps (s : State) : (leaveUnjudged s).lamps = s.lamps := rfl
@[simp] theorem leaveUnjudged_compat (s : State) : (leaveUnjudged s).compat = s.compat := rfl
@[simp] theorem leaveUnjudged_seq (s : State) : (leaveUnjudged s).seq = s.seq := rfl
@[simp] theorem leaveUnjudged_greens (s : State) : (leaveUnjudged s).greens = s.greens := rfl
@[simp] theorem leaveUnjudged_dets (s : State) : (leaveUnjudged s).dets = s.dets := rfl
@[simp] theorem leaveUnjudged_detMasks (s : State) : (leaveUnjudged s).detMasks = s.detMasks := rfl
@[simp] theorem leaveUnjudged_pres (s : State) : (leaveUnjudged s).pres = s.pres := rfl
@[simp] theorem leaveUnjudged_arb (s : State) : (leaveUnjudged s).arb = s.arb := rfl
@[simp] theorem leaveUnjudged_unit (s : State) : (leaveUnjudged s).unit = s.unit := rfl
@[simp] theorem leaveUnjudged_time (s : State) : (leaveUnjudged s).time = s.time := rfl
@[simp] theorem leaveUnjudged_tones (s : State) : (leaveUnjudged s).tones = s.tones := rfl
@[simp] theorem leaveUnjudged_signs (s : State) : (leaveUnjudged s).signs = s.signs := rfl
@[simp] theorem leaveUnjudged_link (s : State) : (leaveUnjudged s).link = s.link := rfl
@[simp] theorem leaveUnjudged_pending (s : State) : (leaveUnjudged s).pending = s.pending := rfl
@[simp] theorem leaveUnjudged_mon (s : State) : (leaveUnjudged s).mon = { s.mon with awaiting := none } := rfl
@[simp] theorem linesLow_count (g : Signs) : g.linesLow.count = g.count := rfl
@[simp] theorem linesLow_period (g : Signs) : g.linesLow.period = g.period := rfl
@[simp] theorem linesLow_gap (g : Signs) : g.linesLow.gap = g.gap := rfl
@[simp] theorem linesLow_timer (g : Signs) : g.linesLow.timer = g.timer := rfl
@[simp] theorem linesLow_pendingExchange (g : Signs) : g.linesLow.pendingExchange = g.pendingExchange := rfl
@[simp] theorem linesLow_shifting (g : Signs) : g.linesLow.shifting = g.shifting := rfl
@[simp] theorem linesLow_buffer (g : Signs) : g.linesLow.buffer = g.buffer := rfl
@[simp] theorem linesLow_chainError (g : Signs) : g.linesLow.chainError = g.chainError := rfl
@[simp] theorem linesLow_modules (g : Signs) : g.linesLow.modules = g.modules := rfl
@[simp] theorem linesLow_transfers (g : Signs) : g.linesLow.transfers = g.transfers := rfl
@[simp] theorem linesLow_sck (g : Signs) : g.linesLow.sck = false := rfl
@[simp] theorem linesLow_sdo (g : Signs) : g.linesLow.sdo = false := rfl
@[simp] theorem linesLow_slat (g : Signs) : g.linesLow.slat = false := rfl

/-! ### A reply begun -/

@[simp] theorem answered_chans (s : State) (f : Frame) : (answered s f).chans = s.chans := rfl
@[simp] theorem answered_lamps (s : State) (f : Frame) : (answered s f).lamps = s.lamps := rfl
@[simp] theorem answered_compat (s : State) (f : Frame) : (answered s f).compat = s.compat := rfl
@[simp] theorem answered_seq (s : State) (f : Frame) : (answered s f).seq = s.seq := rfl
@[simp] theorem answered_greens (s : State) (f : Frame) : (answered s f).greens = s.greens := rfl
@[simp] theorem answered_dets (s : State) (f : Frame) : (answered s f).dets = s.dets := rfl
@[simp] theorem answered_detMasks (s : State) (f : Frame) : (answered s f).detMasks = s.detMasks := rfl
@[simp] theorem answered_pres (s : State) (f : Frame) : (answered s f).pres = s.pres := rfl
@[simp] theorem answered_arb (s : State) (f : Frame) : (answered s f).arb = s.arb := rfl
@[simp] theorem answered_mon (s : State) (f : Frame) : (answered s f).mon = s.mon := rfl
@[simp] theorem answered_unit (s : State) (f : Frame) : (answered s f).unit = s.unit := rfl
@[simp] theorem answered_time (s : State) (f : Frame) : (answered s f).time = s.time := rfl
@[simp] theorem answered_tones (s : State) (f : Frame) : (answered s f).tones = s.tones := rfl
@[simp] theorem answered_signs (s : State) (f : Frame) : (answered s f).signs = s.signs := rfl
@[simp] theorem answered_pending (s : State) (f : Frame) : (answered s f).pending = s.pending := rfl

/-! ### The records themselves -/

@[simp] theorem setChan_chan (s : State) (c : Chan) (r : Channel) : (s.setChan c r).chan c = r := by
  simp [State.setChan, State.chan]

theorem setChan_chan_other (s : State) {c j : Chan} (r : Channel) (h : j ≠ c) :
    (s.setChan c r).chan j = s.chan j := by
  simp [State.setChan, State.chan, vset_get_other _ _ h]

@[simp] theorem setGreen_green (s : State) (c : Chan) (r : Green) : (s.setGreen c r).green c = r := by
  simp [State.setGreen, State.green]

theorem setGreen_green_other (s : State) {c j : Chan} (r : Green) (h : j ≠ c) :
    (s.setGreen c r).green j = s.green j := by
  simp [State.setGreen, State.green, vset_get_other _ _ h]

@[simp] theorem setDet_det (s : State) (d : Det) (r : Detector) : (s.setDet d r).det d = r := by
  simp [State.setDet, State.det]

theorem setDet_det_other (s : State) {d j : Det} (r : Detector) (h : j ≠ d) : (s.setDet d r).det j = s.det j := by
  simp [State.setDet, State.det, vset_get_other _ _ h]

@[simp] theorem setPre_pre (s : State) (p : Pre) (r : Preempt) : (s.setPre p r).pre p = r := by
  simp [State.setPre, State.pre]

theorem setPre_pre_other (s : State) {p j : Pre} (r : Preempt) (h : j ≠ p) : (s.setPre p r).pre j = s.pre j := by
  simp [State.setPre, State.pre, vset_get_other _ _ h]

@[simp] theorem setLine_line (s : State) (i : Line) (l : ToneLine) : (s.setLine i l).line i = l := by
  simp [State.setLine, State.line]

theorem setLine_line_other (s : State) {i j : Line} (l : ToneLine) (h : j ≠ i) :
    (s.setLine i l).line j = s.line j := by
  simp [State.setLine, State.line, vset_get_other _ _ h]

/-! ### Report flags -/

/-- A set flag changes nothing of the link but the flags. -/
theorem flag_link (r : Report) (s : State) : (flag r s).link = { s.link with flags := insertBit s.link.flags r.index } :=
  rfl

/-- What a conditional flag can do: nothing, or set the flag. -/
theorem flagIf_cases (b : Bool) (r : Report) (s : State) : flagIf b r s = s ∨ flagIf b r s = flag r s := by
  cases b <;> simp [flagIf]


@[simp] theorem flagIf_chans (b : Bool) (r : Report) (s : State) : (flagIf b r s).chans = s.chans := by
  cases b <;> rfl
@[simp] theorem noting_chans (o s : State) : (noting o s).chans = s.chans := by simp [noting]
@[simp] theorem flagIf_lamps (b : Bool) (r : Report) (s : State) : (flagIf b r s).lamps = s.lamps := by
  cases b <;> rfl
@[simp] theorem noting_lamps (o s : State) : (noting o s).lamps = s.lamps := by simp [noting]
@[simp] theorem flagIf_compat (b : Bool) (r : Report) (s : State) : (flagIf b r s).compat = s.compat := by
  cases b <;> rfl
@[simp] theorem noting_compat (o s : State) : (noting o s).compat = s.compat := by simp [noting]
@[simp] theorem flagIf_seq (b : Bool) (r : Report) (s : State) : (flagIf b r s).seq = s.seq := by
  cases b <;> rfl
@[simp] theorem noting_seq (o s : State) : (noting o s).seq = s.seq := by simp [noting]
@[simp] theorem flagIf_greens (b : Bool) (r : Report) (s : State) : (flagIf b r s).greens = s.greens := by
  cases b <;> rfl
@[simp] theorem noting_greens (o s : State) : (noting o s).greens = s.greens := by simp [noting]
@[simp] theorem flagIf_dets (b : Bool) (r : Report) (s : State) : (flagIf b r s).dets = s.dets := by
  cases b <;> rfl
@[simp] theorem noting_dets (o s : State) : (noting o s).dets = s.dets := by simp [noting]
@[simp] theorem flagIf_detMasks (b : Bool) (r : Report) (s : State) : (flagIf b r s).detMasks = s.detMasks := by
  cases b <;> rfl
@[simp] theorem noting_detMasks (o s : State) : (noting o s).detMasks = s.detMasks := by simp [noting]
@[simp] theorem flagIf_pres (b : Bool) (r : Report) (s : State) : (flagIf b r s).pres = s.pres := by
  cases b <;> rfl
@[simp] theorem noting_pres (o s : State) : (noting o s).pres = s.pres := by simp [noting]
@[simp] theorem flagIf_arb (b : Bool) (r : Report) (s : State) : (flagIf b r s).arb = s.arb := by
  cases b <;> rfl
@[simp] theorem noting_arb (o s : State) : (noting o s).arb = s.arb := by simp [noting]
@[simp] theorem flagIf_mon (b : Bool) (r : Report) (s : State) : (flagIf b r s).mon = s.mon := by
  cases b <;> rfl
@[simp] theorem noting_mon (o s : State) : (noting o s).mon = s.mon := by simp [noting]
@[simp] theorem flagIf_unit (b : Bool) (r : Report) (s : State) : (flagIf b r s).unit = s.unit := by
  cases b <;> rfl
@[simp] theorem noting_unit (o s : State) : (noting o s).unit = s.unit := by simp [noting]
@[simp] theorem flagIf_time (b : Bool) (r : Report) (s : State) : (flagIf b r s).time = s.time := by
  cases b <;> rfl
@[simp] theorem noting_time (o s : State) : (noting o s).time = s.time := by simp [noting]
@[simp] theorem flagIf_tones (b : Bool) (r : Report) (s : State) : (flagIf b r s).tones = s.tones := by
  cases b <;> rfl
@[simp] theorem noting_tones (o s : State) : (noting o s).tones = s.tones := by simp [noting]
@[simp] theorem flagIf_signs (b : Bool) (r : Report) (s : State) : (flagIf b r s).signs = s.signs := by
  cases b <;> rfl
@[simp] theorem noting_signs (o s : State) : (noting o s).signs = s.signs := by simp [noting]
@[simp] theorem flagIf_pending (b : Bool) (r : Report) (s : State) : (flagIf b r s).pending = s.pending := by
  cases b <;> rfl
@[simp] theorem noting_pending (o s : State) : (noting o s).pending = s.pending := by simp [noting]

/-- A conditional flag changes nothing of the link but the flags. -/
theorem flagIf_link (b : Bool) (r : Report) (s : State) : ∃ m, (flagIf b r s).link = { s.link with flags := m } := by
  cases b
  · exact ⟨s.link.flags, rfl⟩
  · exact ⟨_, rfl⟩

/-- Noting a change sets flags and does nothing else. -/
theorem noting_link (o s : State) : ∃ m, (noting o s).link = { s.link with flags := m } := by
  unfold noting
  obtain ⟨a, ha⟩ := flagIf_link (o.stageKey != s.stageKey) .stage s
  obtain ⟨b, hb⟩ := flagIf_link (preemptKey o != preemptKey s) .preempt (flagIf (o.stageKey != s.stageKey) .stage s)
  obtain ⟨c, hc⟩ := flagIf_link (modeKey o != modeKey s) .mode
    (flagIf (preemptKey o != preemptKey s) .preempt (flagIf (o.stageKey != s.stageKey) .stage s))
  exact ⟨c, by rw [hc, hb, ha]⟩

end Sys2Proof.Machine
end

