-- ==== Sys2Proof/Laws/Calls.lean ====
section
/-! SUPPORT. Laws/Calls.lean: what a request for call latches and an extending actuation can do, and the bounds of the
initial green and of the allowed gap. -/

namespace Sys2Proof.Machine

/-- A request sets exactly the latches of the named used channels that are not GREEN (R62). -/
theorem requestLatches_green (m : ChanSet) (s : State) (c : Chan) : (requestLatches m s).green c =
    if has m c ∧ (s.chan c).used = true ∧ s.shown c ≠ .green then { s.green c with latch := true } else s.green c := by
  have e : has (m &&& s.usedMask &&& ~~~ s.greenMask) c = true ↔
      has m c ∧ (s.chan c).used = true ∧ s.shown c ≠ .green := by
    simp [State.usedMask, State.greenMask, and_assoc]
  unfold requestLatches
  simp only
  split
  · rename_i h
    have hz : has (m &&& s.usedMask &&& ~~~ s.greenMask) c = false := by
      rw [beq_iff_eq.mp h]; exact has_zero c
    rw [if_neg]
    rw [← e, hz]; simp
  · simp only [State.green, vmap_get]
    by_cases h : has (m &&& s.usedMask &&& ~~~ s.greenMask) c = true
    · rw [if_pos h, if_pos (e.mp h)]
    · rw [if_neg h, if_neg (fun k => h (e.mpr k))]

/-- A request changes nothing but the green records. -/
theorem requestLatches_eq (m : ChanSet) (s : State) : ∃ g, requestLatches m s = { s with greens := g } := by
  unfold requestLatches
  simp only
  split
  · exact ⟨s.greens, rfl⟩
  · exact ⟨_, rfl⟩

/-- An extending actuation changes nothing but the green records. -/
theorem actuate_eq (m : ChanSet) (s : State) : ∃ g, actuate m s = { s with greens := g } := by
  unfold actuate
  split
  · exact ⟨s.greens, rfl⟩
  · exact ⟨_, rfl⟩

end Sys2Proof.Machine
end

