-- ==== Sys2Proof/Laws/Settle.lean ====
section
/-! SUPPORT. Laws/Settle.lean: what a judgment can be, what no judgment of a moment changes, and the induction over
`settle` that carries a property of every judgment to the whole moment. -/

namespace Sys2Proof.Machine

/-! ### What no judgment changes -/

/-- A channel with the same configuration, held indication and applied pattern (Table 1-1). -/
structure ChanKeeps (a b : Channel) : Prop where
  kind : b.kind = a.kind
  flashColour : b.flashColour = a.flashColour
  flashPhase : b.flashPhase = a.flashPhase
  dimEnable : b.dimEnable = a.dimEnable
  redMonitor : b.redMonitor = a.redMonitor
  recallKind : b.recallKind = a.recallKind
  pendingSet : b.pendingSet = a.pendingSet
  held : b.held = a.held
  applied : b.applied = a.applied

theorem ChanKeeps.refl (a : Channel) : ChanKeeps a a := ⟨rfl, rfl, rfl, rfl, rfl, rfl, rfl, rfl, rfl⟩

theorem ChanKeeps.trans {a b c : Channel} (h : ChanKeeps a b) (k : ChanKeeps b c) : ChanKeeps a c :=
  ⟨k.1.trans h.1, k.2.trans h.2, k.3.trans h.3, k.4.trans h.4, k.5.trans h.5, k.6.trans h.6, k.7.trans h.7,
    k.8.trans h.8, k.9.trans h.9⟩

/-- What the judgments of a moment leave as it is: the detectors, the time, the lamps, the compatibility state, the
record and the lamp statuses of the Monitor, the link but for its flags, the configuration of every record, and the
waiting commands. -/
structure Keeps (s t : State) : Prop where
  chans : ∀ c, ChanKeeps (s.chan c) (t.chan c)
  lamps : t.lamps = s.lamps
  compat : t.compat = s.compat
  seqMode : t.seq.mode = s.seq.mode
  hold : t.seq.hold = s.seq.hold
  nextSerial : t.seq.nextSerial = s.seq.nextSerial
  pruned : t.seq.pruned = s.seq.pruned
  dets : t.dets = s.dets
  detMasks : t.detMasks = s.detMasks
  levels : ∀ p, (t.pre p).level = (s.pre p).level ∧ (t.pre p).run = (s.pre p).run ∧
    (t.pre p).presence = (s.pre p).presence ∧ (t.pre p).stuck = (s.pre p).stuck ∧ (t.pre p).cfg = (s.pre p).cfg
  disabled : t.arb.disabled = s.arb.disabled
  statuses : ∀ o, (t.mon.lamps.get o).status = (s.mon.lamps.get o).status
  changed : t.mon.changed = s.mon.changed
  redFailTime : t.mon.redFailTime = s.mon.redFailTime
  record : t.mon.record = s.mon.record
  awaiting : t.mon.awaiting = s.mon.awaiting
  unit : ∃ m b, t.unit = { s.unit with mode := m, ftr := b }
  time : t.time = s.time
  link : ∃ m, t.link = { s.link with flags := m }
  pending : t.pending = s.pending

theorem Keeps.refl (s : State) : Keeps s s :=
  ⟨fun _ => ChanKeeps.refl _, rfl, rfl, rfl, rfl, rfl, rfl, rfl, rfl, fun _ => ⟨rfl, rfl, rfl, rfl, rfl⟩, rfl,
    fun _ => rfl, rfl, rfl, rfl, rfl, ⟨_, _, rfl⟩, rfl, ⟨_, rfl⟩, rfl⟩

theorem Keeps.trans {s t u : State} (h : Keeps s t) (k : Keeps t u) : Keeps s u where
  chans c := (h.chans c).trans (k.chans c)
  lamps := k.lamps.trans h.lamps
  compat := k.compat.trans h.compat
  seqMode := k.seqMode.trans h.seqMode
  hold := k.hold.trans h.hold
  nextSerial := k.nextSerial.trans h.nextSerial
  pruned := k.pruned.trans h.pruned
  dets := k.dets.trans h.dets
  detMasks := k.detMasks.trans h.detMasks
  levels p :=
    have a := h.levels p
    have b := k.levels p
    ⟨b.1.trans a.1, b.2.1.trans a.2.1, b.2.2.1.trans a.2.2.1, b.2.2.2.1.trans a.2.2.2.1, b.2.2.2.2.trans a.2.2.2.2⟩
  disabled := k.disabled.trans h.disabled
  statuses o := (k.statuses o).trans (h.statuses o)
  changed := k.changed.trans h.changed
  redFailTime := k.redFailTime.trans h.redFailTime
  record := k.record.trans h.record
  awaiting := k.awaiting.trans h.awaiting
  unit := by
    obtain ⟨m, b, e⟩ := h.unit
    obtain ⟨m', b', e'⟩ := k.unit
    exact ⟨m', b', by rw [e', e]⟩
  time := k.time.trans h.time
  link := by
    obtain ⟨m, e⟩ := h.link
    obtain ⟨m', e'⟩ := k.link
    exact ⟨m', by rw [e', e]⟩
  pending := k.pending.trans h.pending

/-- An update that touches none of what a judgment keeps, given by the fields it may touch. -/
theorem Keeps.of_eq {s t : State} (hc : ∀ c, ChanKeeps (s.chan c) (t.chan c)) (h1 : t.lamps = s.lamps)
    (h2 : t.compat = s.compat)
    (h3 : t.seq.mode = s.seq.mode ∧ t.seq.hold = s.seq.hold ∧ t.seq.nextSerial = s.seq.nextSerial ∧
      t.seq.pruned = s.seq.pruned)
    (h4 : t.dets = s.dets) (h5 : t.detMasks = s.detMasks)
    (h6 : ∀ p, (t.pre p).level = (s.pre p).level ∧ (t.pre p).run = (s.pre p).run ∧
      (t.pre p).presence = (s.pre p).presence ∧ (t.pre p).stuck = (s.pre p).stuck ∧ (t.pre p).cfg = (s.pre p).cfg)
    (h7 : t.arb.disabled = s.arb.disabled) (h8 : t.mon = s.mon) (h9 : t.unit = s.unit) (h10 : t.time = s.time)
    (h11 : t.link = s.link) (h12 : t.pending = s.pending) : Keeps s t :=
  ⟨hc, h1, h2, h3.1, h3.2.1, h3.2.2.1, h3.2.2.2, h4, h5, h6, h7, fun o => by rw [h8], by rw [h8], by rw [h8],
    by rw [h8], by rw [h8], ⟨s.unit.mode, s.unit.ftr, h9⟩, h10, ⟨s.link.flags, h11⟩, h12⟩

/-! ### The shared operations that judgments use -/

theorem pre_same (s t : State) (h : t.pres = s.pres) (p : Pre) :
    (t.pre p).level = (s.pre p).level ∧ (t.pre p).run = (s.pre p).run ∧ (t.pre p).presence = (s.pre p).presence ∧
      (t.pre p).stuck = (s.pre p).stuck ∧ (t.pre p).cfg = (s.pre p).cfg := by
  simp [State.pre, h]

theorem chan_same (s t : State) (h : t.chans = s.chans) (c : Chan) : ChanKeeps (s.chan c) (t.chan c) := by
  have : t.chan c = s.chan c := by simp [State.chan, h]
  rw [this]; exact ChanKeeps.refl _

theorem setChan_keeps {s : State} {c : Chan} {r : Channel} (h : ChanKeeps (s.chan c) r) : Keeps s (s.setChan c r) := by
  refine Keeps.of_eq (fun j => ?_) rfl rfl ⟨rfl, rfl, rfl, rfl⟩ rfl rfl (pre_same _ _ rfl) rfl rfl rfl rfl rfl rfl
  by_cases e : j = c
  · subst e; simpa using h
  · rw [setChan_chan_other s r e]; exact ChanKeeps.refl _

theorem setPre_keeps {s : State} {p : Pre} {r : Preempt}
    (h : r.level = (s.pre p).level ∧ r.run = (s.pre p).run ∧ r.presence = (s.pre p).presence ∧
      r.stuck = (s.pre p).stuck ∧ r.cfg = (s.pre p).cfg) : Keeps s (s.setPre p r) := by
  refine Keeps.of_eq (chan_same _ _ rfl) rfl rfl ⟨rfl, rfl, rfl, rfl⟩ rfl rfl (fun j => ?_) rfl rfl rfl rfl rfl rfl
  by_cases e : j = p
  · subst e; simpa using h
  · rw [setPre_pre_other s r e]; exact ⟨rfl, rfl, rfl, rfl, rfl⟩

/-- An update of the green records, of the sequencer's run state, of the slot, of the tones or of the signs. -/
theorem run_keeps {s : State} (greens : Vector Green 16) (seq : Sequencer) (arb : Arbiter) (tones : Vector ToneLine 8)
    (signs : Signs) (hq : seq.mode = s.seq.mode ∧ seq.hold = s.seq.hold ∧ seq.nextSerial = s.seq.nextSerial ∧
      seq.pruned = s.seq.pruned) (ha : arb.disabled = s.arb.disabled) :
    Keeps s { s with greens := greens, seq := seq, arb := arb, tones := tones, signs := signs } :=
  Keeps.of_eq (chan_same _ _ rfl) rfl rfl hq rfl rfl (pre_same _ _ rfl) ha rfl rfl rfl rfl rfl

theorem greens_keeps {s : State} (g : Vector Green 16) : Keeps s { s with greens := g } :=
  run_keeps g s.seq s.arb s.tones s.signs ⟨rfl, rfl, rfl, rfl⟩ rfl

theorem seq_keeps {s : State} {q : Sequencer} (h : q.mode = s.seq.mode ∧ q.hold = s.seq.hold ∧
    q.nextSerial = s.seq.nextSerial ∧ q.pruned = s.seq.pruned) : Keeps s { s with seq := q } :=
  run_keeps s.greens q s.arb s.tones s.signs h rfl

theorem arb_keeps {s : State} {a : Arbiter} (h : a.disabled = s.arb.disabled) : Keeps s { s with arb := a } :=
  run_keeps s.greens s.seq a s.tones s.signs ⟨rfl, rfl, rfl, rfl⟩ h

theorem setGreen_keeps {s : State} {c : Chan} {g : Green} : Keeps s (s.setGreen c g) := greens_keeps _

theorem requestLatches_keeps (m : ChanSet) (s : State) : Keeps s (requestLatches m s) := by
  unfold requestLatches
  simp only
  split
  · exact Keeps.refl s
  · exact greens_keeps _

theorem tonesFollow_keeps (c : Chan) (o n : Indication) (s : State) : Keeps s (tonesFollow c o n s) :=
  run_keeps s.greens s.seq s.arb _ s.signs ⟨rfl, rfl, rfl, rfl⟩ rfl

theorem signsFollow_keeps (c : Chan) (s : State) : Keeps s (signsFollow c s) := by
  unfold signsFollow
  split
  · exact run_keeps s.greens s.seq s.arb s.tones _ ⟨rfl, rfl, rfl, rfl⟩ rfl
  · exact Keeps.refl s

theorem leaveGreen_keeps (c : Chan) (s : State) : Keeps s (leaveGreen c s) := by
  unfold leaveGreen handLocking
  simp only
  refine Keeps.trans ?_ (requestLatches_keeps _ _)
  exact Keeps.trans (setGreen_keeps (c := c) (g := (s.green c).idle)) (seq_keeps ⟨rfl, rfl, rfl, rfl⟩)

theorem enter_keeps (c : Chan) (i : Indication) (s : State) : Keeps s (enter c i s) := by
  have h : Keeps s (signsFollow c (tonesFollow c (s.chan c).ind i
      (s.setChan c { s.chan c with ind := i, staged := patternOf (s.chan c) i }))) := by
    refine Keeps.trans ?_ (signsFollow_keeps _ _)
    refine Keeps.trans ?_ (tonesFollow_keeps _ _ _ _)
    exact setChan_keeps ⟨rfl, rfl, rfl, rfl, rfl, rfl, rfl, rfl, rfl⟩
  unfold enter
  simp only
  split
  · exact h.trans (leaveGreen_keeps _ _)
  · exact h

theorem loadTimer_keeps (c : Chan) (n : Nat) (s : State) : Keeps s (loadTimer c n s) :=
  setChan_keeps ⟨rfl, rfl, rfl, rfl, rfl, rfl, rfl, rfl, rfl⟩

theorem copyActive_keeps (c : Chan) (f : Timing → Timing → Timing) (s : State) : Keeps s (copyActive c f s) :=
  setChan_keeps ⟨rfl, rfl, rfl, rfl, rfl, rfl, rfl, rfl, rfl⟩

theorem startChannel_keeps (c : Chan) (s : State) : Keeps s (startChannel c s) := by
  unfold startChannel
  simp only
  split
  · split
    · exact Keeps.refl s
    · exact ((copyActive_keeps _ _ _).trans (enter_keeps _ _ _)).trans setGreen_keeps
    · exact (((copyActive_keeps _ _ _).trans (loadTimer_keeps _ _ _)).trans (enter_keeps _ _ _)).trans setGreen_keeps
  · exact Keeps.refl s

theorem enterPedClear_keeps (c : Chan) (s : State) : Keeps s (enterPedClear c s) :=
  ((copyActive_keeps _ _ _).trans (loadTimer_keeps _ _ _)).trans (enter_keeps _ _ _)

theorem terminateChannel_keeps (c : Chan) (s : State) : Keeps s (terminateChannel c s) := by
  unfold terminateChannel
  simp only
  split
  · split
    · exact Keeps.refl s
    · exact ((copyActive_keeps _ _ _).trans (loadTimer_keeps _ _ _)).trans (enter_keeps _ _ _)
    · exact enterPedClear_keeps _ _
  · exact Keeps.refl s

/-- A fold of an operation that keeps, keeps. -/
theorem foldl_keeps {α : Type} (f : State → α → State) (h : ∀ s a, Keeps s (f s a)) (l : List α) (s : State) :
    Keeps s (l.foldl f s) := by
  induction l generalizing s with
  | nil => exact Keeps.refl s
  | cons a l ih => exact (h s a).trans (ih _)

theorem terminateAll_keeps (m : ChanSet) (s : State) : Keeps s (terminateAll m s) := by
  refine foldl_keeps _ (fun s c => ?_) _ s
  split
  · exact terminateChannel_keeps _ _
  · exact Keeps.refl s

theorem cutClearance_keeps (n : Nat) (c : Chan) (s : State) : Keeps s (cutClearance n c s) := by
  unfold cutClearance
  simp only
  split
  · exact loadTimer_keeps _ _ _
  · exact Keeps.refl s

theorem cutClearances_keeps (n : Nat) (m : ChanSet) (s : State) : Keeps s (cutClearances n m s) := by
  refine foldl_keeps _ (fun s c => ?_) _ s
  split
  · exact Keeps.refl s
  · exact cutClearance_keeps _ _ _

theorem enterClearance_keeps (c : Chan) (s : State) : Keeps s (enterClearance c s) := by
  have h : Keeps s (loadTimer c (s.chan c).pendingSet.redClear (copyActive c copyRedClear s)) :=
    (copyActive_keeps _ _ _).trans (loadTimer_keeps _ _ _)
  unfold enterClearance
  simp only
  split
  · exact h.trans (enter_keeps _ _ _)
  · exact h.trans (enter_keeps _ _ _)

theorem expireChannel_keeps (c : Chan) (s : State) : Keeps s (expireChannel c s) := by
  unfold expireChannel
  simp only
  split
  · exact enterClearance_keeps _ _
  · exact enterClearance_keeps _ _
  · exact enter_keeps _ _ _
  · split
    · exact enterPedClear_keeps _ _
    · exact Keeps.refl s
  all_goals exact Keeps.refl s

theorem beginTransition_keeps (t : ChanSet) (o : Owner) (s : State) : Keeps s (beginTransition t o s) :=
  seq_keeps ⟨rfl, rfl, rfl, rfl⟩

theorem setClass_keeps (c : Chan) (k : TransitionClass) (s : State) : Keeps s (setClass c k s) := by
  unfold setClass
  split
  · exact seq_keeps ⟨rfl, rfl, rfl, rfl⟩
  · exact Keeps.refl s

theorem startMoment_keeps (c : Chan) (s : State) : Keeps s (startMoment c s) := by
  unfold startMoment
  split
  · exact setClass_keeps _ _ _
  · exact (setClass_keeps _ _ _).trans (startChannel_keeps _ _)

theorem stopStep_keeps (s : State) : Keeps s (stopStep s) := seq_keeps ⟨rfl, rfl, rfl, rfl⟩

theorem truncate_keeps (cfg : PreemptConfig) (m : ChanSet) (s : State) : Keeps s (truncate cfg m s) := by
  have h (s1 : State) (a b c : ChanSet) (k : Keeps s s1) :
      Keeps s (terminateAll c { terminateAll a s1 with seq := { (terminateAll a s1).seq with owedEnds := b } }) := by
    refine Keeps.trans ?_ (terminateAll_keeps _ _)
    exact Keeps.trans (k.trans (terminateAll_keeps a s1)) (seq_keeps ⟨rfl, rfl, rfl, rfl⟩)
  have k : Keeps s (cutGreens cfg.minGreen m s) := greens_keeps _
  unfold truncate
  simp only
  split
  · exact Keeps.trans (h _ _ _ _ k) (cutClearances_keeps _ _ _)
  · exact h _ _ _ _ k

theorem putOut_same (r : Preempt) : r.putOut.level = r.level ∧ r.putOut.run = r.run ∧
    r.putOut.presence = r.presence ∧ r.putOut.stuck = r.stuck ∧ r.putOut.cfg = r.cfg := ⟨rfl, rfl, rfl, rfl, rfl⟩

/-- A change of one preempt's run state judged on another state that keeps the first. -/
theorem setPre_after {s t : State} (h : Keeps s t) {p : Pre} {r : Preempt}
    (hr : r.level = (s.pre p).level ∧ r.run = (s.pre p).run ∧ r.presence = (s.pre p).presence ∧
      r.stuck = (s.pre p).stuck ∧ r.cfg = (s.pre p).cfg) : Keeps s (t.setPre p r) := by
  have k := h.levels p
  refine h.trans (setPre_keeps ?_)
  rw [k.1, k.2.1, k.2.2.1, k.2.2.2.1, k.2.2.2.2]
  exact hr

theorem enterService_keeps (p : Pre) (s : State) : Keeps s (enterService p s) := by
  unfold enterService
  simp only
  refine setPre_after ?_ ⟨rfl, rfl, rfl, rfl, rfl⟩
  refine Keeps.trans ?_ (truncate_keeps _ _ _)
  refine Keeps.trans ?_ (beginTransition_keeps _ _ _)
  exact Keeps.trans (stopStep_keeps s) (arb_keeps rfl)

theorem beginStepTransition_keeps (m : ChanSet) (s : State) : Keeps s (beginStepTransition m s) :=
  (beginTransition_keeps _ _ _).trans (terminateAll_keeps _ _)

theorem makeCurrent_keeps (i : Nat) (drop : Bool) (s : State) : Keeps s (makeCurrent i drop s) := by
  unfold makeCurrent
  simp only
  refine Keeps.trans (seq_keeps ?_) (beginStepTransition_keeps _ _)
  cases s.seq.mode <;> exact ⟨by simp_all, rfl, rfl, rfl⟩

/-! ### Judgments -/

/-- What a judgment is: one of the thirteen of log entry 6, the last eleven in their unit modes. -/
theorem judge_cases {s t : State} (h : judge s = some t) :
    judgeClocks s = some t ∨ judgeRequests s = some t ∨
    (s.unit.mode = .controlled ∧
      (judgeSlot s = some t ∨ judgeOwed s = some t ∨ judgeStage s = some t ∨ judgeStart s = some t ∨
       judgeFull s = some t ∨ judgeTrack s = some t ∨ judgeDwell s = some t ∨ judgeExit s = some t ∨
       judgeTermination s = some t ∨ judgeFirst s = some t)) ∨
    (s.unit.mode = .clearingToFlash ∧ judgeClearing s = some t) := by
  unfold judge at h
  rcases Option.or_eq_some_iff.mp h with h | ⟨-, h⟩
  · exact .inl h
  rcases Option.or_eq_some_iff.mp h with h | ⟨-, h⟩
  · exact .inr (.inl h)
  refine .inr (.inr ?_)
  cases hm : s.unit.mode <;> simp only [hm] at h
  case controlled =>
    refine .inl ⟨rfl, ?_⟩
    simp only [Option.or_eq_some_iff] at h
    tauto
  case clearingToFlash => exact .inr ⟨rfl, h⟩
  all_goals cases h

theorem move_same {r q : Preempt} (h : r.move = some q) : q.level = r.level ∧ q.run = r.run ∧
    q.presence = r.presence ∧ q.stuck = r.stuck ∧ q.cfg = r.cfg := by
  unfold Preempt.move at h
  split at h
  all_goals first
    | (split at h <;> first | (cases h; exact ⟨rfl, rfl, rfl, rfl, rfl⟩) | cases h |
        (split at h <;> first | (cases h; exact ⟨rfl, rfl, rfl, rfl, rfl⟩) | cases h))
    | cases h

theorem atFullGreen_same (r : Preempt) : r.atFullGreen.level = r.level ∧ r.atFullGreen.run = r.run ∧
    r.atFullGreen.presence = r.presence ∧ r.atFullGreen.stuck = r.stuck ∧ r.atFullGreen.cfg = r.cfg := by
  unfold Preempt.atFullGreen
  split
  · split <;> exact ⟨rfl, rfl, rfl, rfl, rfl⟩
  all_goals exact ⟨rfl, rfl, rfl, rfl, rfl⟩

/-! ### Changes of unit mode -/

@[simp] theorem changeMode_lamps (m : Mode) (s : State) : (changeMode m s).lamps = s.lamps := by
  simp only [changeMode, tonesAtMode, signsAtMode, copyTimings]; split <;> rfl
@[simp] theorem changeMode_compat (m : Mode) (s : State) : (changeMode m s).compat = s.compat := by
  simp only [changeMode, tonesAtMode, signsAtMode, copyTimings]; split <;> rfl
@[simp] theorem changeMode_seq (m : Mode) (s : State) : (changeMode m s).seq = s.seq := by
  simp only [changeMode, tonesAtMode, signsAtMode, copyTimings]; split <;> rfl
@[simp] theorem changeMode_greens (m : Mode) (s : State) : (changeMode m s).greens = s.greens := by
  simp only [changeMode, tonesAtMode, signsAtMode, copyTimings]; split <;> rfl
@[simp] theorem changeMode_dets (m : Mode) (s : State) : (changeMode m s).dets = s.dets := by
  simp only [changeMode, tonesAtMode, signsAtMode, copyTimings]; split <;> rfl
@[simp] theorem changeMode_detMasks (m : Mode) (s : State) : (changeMode m s).detMasks = s.detMasks := by
  simp only [changeMode, tonesAtMode, signsAtMode, copyTimings]; split <;> rfl
@[simp] theorem changeMode_pres (m : Mode) (s : State) : (changeMode m s).pres = s.pres := by
  simp only [changeMode, tonesAtMode, signsAtMode, copyTimings]; split <;> rfl
@[simp] theorem changeMode_arb (m : Mode) (s : State) : (changeMode m s).arb = s.arb := by
  simp only [changeMode, tonesAtMode, signsAtMode, copyTimings]; split <;> rfl
@[simp] theorem changeMode_time (m : Mode) (s : State) : (changeMode m s).time = s.time := by
  simp only [changeMode, tonesAtMode, signsAtMode, copyTimings]; split <;> rfl
@[simp] theorem changeMode_link (m : Mode) (s : State) : (changeMode m s).link = s.link := by
  simp only [changeMode, tonesAtMode, signsAtMode, copyTimings]; split <;> rfl
@[simp] theorem changeMode_pending (m : Mode) (s : State) : (changeMode m s).pending = s.pending := by
  simp only [changeMode, tonesAtMode, signsAtMode, copyTimings]; split <;> rfl

@[simp] theorem forceAll_lamps (v p : Indication) (s : State) : (forceAll v p s).lamps = s.lamps := rfl
@[simp] theorem forceAll_compat (v p : Indication) (s : State) : (forceAll v p s).compat = s.compat := rfl
@[simp] theorem forceAll_seq (v p : Indication) (s : State) : (forceAll v p s).seq = s.seq := rfl
@[simp] theorem forceAll_greens (v p : Indication) (s : State) : (forceAll v p s).greens = s.greens := rfl
@[simp] theorem forceAll_dets (v p : Indication) (s : State) : (forceAll v p s).dets = s.dets := rfl
@[simp] theorem forceAll_detMasks (v p : Indication) (s : State) : (forceAll v p s).detMasks = s.detMasks := rfl
@[simp] theorem forceAll_pres (v p : Indication) (s : State) : (forceAll v p s).pres = s.pres := rfl
@[simp] theorem forceAll_arb (v p : Indication) (s : State) : (forceAll v p s).arb = s.arb := rfl
@[simp] theorem forceAll_time (v p : Indication) (s : State) : (forceAll v p s).time = s.time := rfl
@[simp] theorem forceAll_link (v p : Indication) (s : State) : (forceAll v p s).link = s.link := rfl
@[simp] theorem forceAll_pending (v p : Indication) (s : State) : (forceAll v p s).pending = s.pending := rfl
@[simp] theorem forceAll_mon (v p : Indication) (s : State) : (forceAll v p s).mon = s.mon := rfl
@[simp] theorem forceAll_unit (v p : Indication) (s : State) : (forceAll v p s).unit = s.unit := rfl
@[simp] theorem forceAll_tones (v p : Indication) (s : State) : (forceAll v p s).tones = s.tones := rfl
@[simp] theorem forceAll_signs (v p : Indication) (s : State) : (forceAll v p s).signs = s.signs := rfl

@[simp] theorem changeMode_unit (m : Mode) (s : State) :
    (changeMode m s).unit = { s.unit with mode := m, ftr := m.relay } := by
  simp only [changeMode, tonesAtMode, signsAtMode, copyTimings]; split <;> rfl

@[simp] theorem changeMode_mon (m : Mode) (s : State) : (changeMode m s).mon = s.mon.atMode m := by
  simp only [changeMode, tonesAtMode, signsAtMode, copyTimings]; split <;> rfl

/-- The one thing a change of unit mode does to a channel: the copy of its pending set in the four modes of R3. -/
theorem changeMode_chan (m : Mode) (s : State) (c : Chan) : (changeMode m s).chan c =
    if m.copiesTiming then { s.chan c with activeSet := (s.chan c).pendingSet } else s.chan c := by
  simp only [changeMode, tonesAtMode, signsAtMode, copyTimings, State.chan]
  split <;> simp

/-- What forcing does to a channel (R10). -/
theorem forceAll_chan (v p : Indication) (s : State) (c : Chan) : (forceAll v p s).chan c =
    (s.chan c).force (match (s.chan c).kind with
      | .vehicle => v
      | .pedestrian => p
      | .unused => .dark) := by
  cases h : (s.chans.get c).kind <;> simp [forceAll, State.chan, h]

theorem enterLocalFlash_chans (s : State) (c : Chan) : ChanKeeps (s.chan c) ((enterLocalFlash s).chan c) := by
  rw [enterLocalFlash, changeMode_chan, forceAll_chan]
  exact ⟨rfl, rfl, rfl, rfl, rfl, rfl, rfl, rfl, rfl⟩

theorem enterLocalFlash_statuses (s : State) (o : Fin 48) :
    ((enterLocalFlash s).mon.lamps.get o).status = (s.mon.lamps.get o).status := by
  simp [enterLocalFlash, Monitor.atMode, LampWatch.atMode, Mode.lampCheck]

/-- Entry to LOCAL_FLASH keeps what judgments keep. -/
theorem enterLocalFlash_keeps (s : State) : Keeps s (enterLocalFlash s) := by
  refine ⟨enterLocalFlash_chans s, ?_, ?_, ?_, ?_, ?_, ?_, ?_, ?_, pre_same _ _ ?_, ?_, enterLocalFlash_statuses s, ?_, ?_,
    ?_, ?_, ⟨.localFlash, true, ?_⟩, ?_, ⟨s.link.flags, ?_⟩, ?_⟩
  all_goals simp [enterLocalFlash, Monitor.atMode, Mode.relay]

theorem handover_keeps (i : Nat) (s : State) : Keeps s (handover i s) := makeCurrent_keeps _ _ _

/-- The service state and timer, stage and mark of a preempt changed. -/
theorem setState_keeps {s : State} {p : Pre} {k : PreemptState} {n : Nat} {e : EntryStage} {m : Bool} :
    Keeps s (s.setPre p { s.pre p with state := k, serviceTimer := n, stage := e, pendingAtExit := m }) :=
  setPre_keeps ⟨rfl, rfl, rfl, rfl, rfl⟩

theorem judgeFull_keeps {s t : State} (h : judgeFull s = some t) : Keeps s t := by
  unfold judgeFull at h
  split at h
  · cases h
  · split at h
    · have k : Keeps s { s with seq := { s.seq with transition := none } } := seq_keeps ⟨rfl, rfl, rfl, rfl⟩
      split at h
      · obtain rfl := Option.some.inj h; exact seq_keeps ⟨rfl, rfl, rfl, rfl⟩
      · simp only at h
        split at h
        · obtain rfl := Option.some.inj h; exact k.trans (setPre_keeps (atFullGreen_same _))
        · obtain rfl := Option.some.inj h; exact k
    · cases h

theorem judgeTrack_keeps {s t : State} (h : judgeTrack s = some t) : Keeps s t := by
  unfold judgeTrack at h
  split at h
  · cases h
  · simp only at h
    split at h
    · obtain rfl := Option.some.inj h
      refine Keeps.trans ?_ (terminateAll_keeps _ _)
      refine Keeps.trans ?_ (beginTransition_keeps _ _ _)
      exact setPre_keeps ⟨rfl, rfl, rfl, rfl, rfl⟩
    · cases h

theorem judgeDwell_keeps {s t : State} (h : judgeDwell s = some t) : Keeps s t := by
  unfold judgeDwell at h
  split at h
  · cases h
  · rename_i p _
    simp only at h
    split at h
    · split at h
      · obtain rfl := Option.some.inj h
        exact Keeps.trans (setPre_keeps (p := p) (r := { s.pre p with state := .idle }) ⟨rfl, rfl, rfl, rfl, rfl⟩)
          (arb_keeps rfl)
      · obtain rfl := Option.some.inj h
        exact setPre_keeps ⟨rfl, rfl, rfl, rfl, rfl⟩
    · cases h

theorem judgeExit_keeps {s t : State} (h : judgeExit s = some t) : Keeps s t := by
  unfold judgeExit at h
  split at h
  · cases h
  · rename_i p _
    simp only at h
    split at h
    · split at h
      · cases h
      · obtain rfl := Option.some.inj h
        refine Keeps.trans ?_ (makeCurrent_keeps _ _ _)
        exact Keeps.trans
          (setPre_keeps (p := p)
            (r := { s.pre p with
              state := if (s.pre p).pendingAtExit then .pending else .idle, pendingAtExit := false })
            ⟨rfl, rfl, rfl, rfl, rfl⟩) (arb_keeps rfl)
    · cases h

/-- A judgment keeps what `Keeps` names. -/
theorem judge_keeps {s t : State} (h : judge s = some t) : Keeps s t := by
  rcases judge_cases h with h | h | ⟨-, h | h | h | h | h | h | h | h | h | h⟩ | ⟨-, h⟩
  · unfold judgeClocks at h
    simp only at h
    split at h <;> cases h
    exact greens_keeps _
  · unfold judgeRequests at h
    split at h
    · cases h
    · split at h <;> cases h
      rename_i hm
      exact setPre_keeps (move_same hm)
  · unfold judgeSlot at h
    split at h
    · cases h
    · split at h
      · cases h; exact enterService_keeps _ _
      · split at h <;> cases h
        exact (setPre_keeps (putOut_same _)).trans (enterService_keeps _ _)
  · unfold judgeOwed at h
    simp only at h
    split at h <;> cases h
    exact terminateAll_keeps _ _
  · unfold judgeStage at h
    split at h
    · cases h
    · simp only at h
      split at h <;> cases h
      exact setPre_keeps ⟨rfl, rfl, rfl, rfl, rfl⟩
  · unfold judgeStart at h
    split at h
    · cases h
    · simp only at h
      split at h <;> cases h
      exact startMoment_keeps _ _
  · exact judgeFull_keeps h
  · exact judgeTrack_keeps h
  · exact judgeDwell_keeps h
  · exact judgeExit_keeps h
  · unfold judgeTermination at h
    split at h
    · split at h
      · cases h
      · split at h
        · split at h
          · cases h; exact handover_keeps _ _
          · split at h <;> cases h
            exact seq_keeps ⟨rfl, rfl, rfl, rfl⟩
        · split at h <;> cases h
          exact seq_keeps ⟨rfl, rfl, rfl, rfl⟩
    · cases h
  · unfold judgeFirst at h
    split at h
    · cases h
    · split at h <;> cases h
      exact makeCurrent_keeps _ _ _
  · unfold judgeClearing at h
    split at h
    · cases h; exact terminateAll_keeps _ _
    · split at h <;> cases h
      exact enterLocalFlash_keeps _

/-- Noting a change keeps. -/
theorem noting_keeps (o s : State) : Keeps s (noting o s) := by
  obtain ⟨m, hm⟩ := noting_link o s
  refine ⟨chan_same _ _ (noting_chans o s), noting_lamps _ _, noting_compat _ _, ?_, ?_, ?_, ?_, noting_dets _ _,
    noting_detMasks _ _, pre_same _ _ (noting_pres o s), ?_, fun _ => ?_, ?_, ?_, ?_, ?_, ⟨_, _, noting_unit _ _⟩,
    noting_time _ _, ⟨m, hm⟩, noting_pending _ _⟩
  all_goals simp

/-! ### The whole moment -/

/-- A property that the noting of a change keeps, and that every judgment with its noting keeps, is kept by the
settling of a moment. -/
theorem settleUpTo_induction (P : State → Prop) (step : ∀ s t, judge s = some t → P s → P (noting s t)) (n : Nat)
    (s : State) (h : P s) : P (settleUpTo n s) := by
  induction n generalizing s with
  | zero => exact h
  | succ n ih =>
    unfold settleUpTo
    split
    · exact h
    · rename_i t ht
      exact ih _ (step s t ht h)

theorem settle_induction (P : State → Prop) (step : ∀ s t, judge s = some t → P s → P (noting s t)) (old new : State)
    (h : P (noting old new)) : P (settle old new) := settleUpTo_induction P step _ _ h

/-- Where the judgments of a moment have come to their end, a larger bound on their number changes nothing. -/
theorem settleUpTo_done {n : Nat} {s : State} (h : judge (settleUpTo n s) = none) (k : Nat) :
    settleUpTo (n + k) s = settleUpTo n s := by
  induction n generalizing s with
  | zero => cases k <;> simp_all [settleUpTo]
  | succ n ih =>
    rw [Nat.add_right_comm]
    unfold settleUpTo at h ⊢
    split
    · rfl
    · rename_i t ht
      simp only [ht] at h
      exact ih h

/-- A moment whose judgments come to their end within any number of them up to the bound ends with nothing due. -/
theorem settle_done {old new : State} {n : Nat} (hn : n ≤ Config.settleFuel)
    (h : judge (settleUpTo n (noting old new)) = none) : judge (settle old new) = none := by
  obtain ⟨k, hk⟩ := Nat.exists_eq_add_of_le hn
  rw [settle, hk, settleUpTo_done h]
  exact h

/-- The settling of a moment keeps what no judgment changes. -/
theorem settle_keeps (old new : State) : Keeps new (settle old new) :=
  settle_induction (fun t => Keeps new t)
    (fun _ _ hj h => (h.trans (judge_keeps hj)).trans (noting_keeps _ _)) old new (noting_keeps old new)

/-- Where nothing falls due, settling only notes the change. -/
theorem settle_quiet {old new : State} (h : judge (noting old new) = none) : settle old new = noting old new := by
  simp [settle, Config.settleFuel, settleUpTo, h]

/-- The link after the settling of a moment differs only in its flags. -/
theorem settle_link (old new : State) : ∃ m, (settle old new).link = { new.link with flags := m } :=
  (settle_keeps old new).link

end Sys2Proof.Machine
end

