-- ==== Sys2Proof/Laws/Link.lean ====
section
/-! SUPPORT. Laws/Link.lean: what the arrival of a frame can do: overrun, hold, or one taking with its one reply; and
the shape of a host command on a free link; and the levels of TXD. -/

namespace Sys2Proof.Machine

/-! ### Heard, errors, slots -/

/-- A frame that passes its check touches the link and the owed link loss only (R187). -/
theorem heard_cases (s : State) : ∃ m, heard s =
    { s with
      link := { s.link with supervision := s.link.supervisionTime, lost := false, flags := m }
      unit := { s.unit with owedLinkLoss := false } } := by
  unfold heard
  cases s.link.lost
  · exact ⟨s.link.flags, rfl⟩
  · exact ⟨_, rfl⟩

@[simp] theorem heard_held (s : State) : (heard s).link.held = s.link.held := by
  obtain ⟨m, h⟩ := heard_cases s; rw [h]

@[simp] theorem heard_reply (s : State) : (heard s).link.reply = s.link.reply := by
  obtain ⟨m, h⟩ := heard_cases s; rw [h]

@[simp] theorem heard_sending (s : State) : (heard s).link.sending = s.link.sending := by
  obtain ⟨m, h⟩ := heard_cases s; rw [h]

theorem heard_free {s : State} (h : s.linkFree) : (heard s).linkFree := by
  simpa [State.linkFree] using h

/-- A link that differs from another only in flags has its slots. -/
theorem free_of_flags {s t : State} (h : ∃ m, t.link = { s.link with flags := m }) (hs : s.linkFree) : t.linkFree := by
  obtain ⟨m, e⟩ := h
  simpa [State.linkFree, e] using hs

/-- The settling of a moment leaves a free link free. -/
theorem settle_free {old new : State} (h : new.linkFree) : (settle old new).linkFree :=
  free_of_flags (settle_link old new) h

theorem flagIf_free {b : Bool} {r : Report} {s : State} (h : s.linkFree) : (flagIf b r s).linkFree :=
  free_of_flags (flagIf_link b r s) h

/-! ### The line TXD (R181) -/

/-- A bit time of a character of the frame being sent shows that character's level. -/
theorem txd_character {l : Link} {f : Frame} {k i : Nat} {b : Byte} (h : l.sending = some f) (hk : f.sent[k]? = some b)
    (hi : i < Config.characterBits) : l.txd (Config.characterBits * k + i) = characterLevel b i := by
  have h1 : (Config.characterBits * k + i) / Config.characterBits = k := by simp only [Config.characterBits] at *; omega
  have h2 : (Config.characterBits * k + i) % Config.characterBits = i := by simp only [Config.characterBits] at *; omega
  simp [Link.txd, h, h1, h2, hk]

/-- A character sent with its even parity bit has no parity error. -/
theorem parityError_even (b : Byte) : parityError b (evenParity b) = false := by
  unfold parityError evenParity
  have := Nat.mod_two_eq_zero_or_one (ones b)
  rcases this with h | h <;> simp [h, Nat.add_mod]

/-! ### The arrival of a frame (R183 to R185) -/

/-- A frame that finds the held slot full is lost as OVERRUN (R183). -/
theorem deliver_overrun {f g : Frame} {taking : State → State × Frame} {s : State} (h : s.link.held = some g) :
    deliver f taking s = linkError .overrun (heard s) := by simp [deliver, h]

/-- A frame that finds the reply slot full waits in the held slot (R184). -/
theorem deliver_held {f g : Frame} {taking : State → State × Frame} {s : State} (h : s.link.held = none)
    (hr : s.link.reply = some g) :
    deliver f taking s = { heard s with link := { (heard s).link with held := some f } } := by
  simp [deliver, h, hr]

/-- A frame that finds both slots empty and the transmitter IDLE is taken, and its one reply is begun (R184, R185). -/
theorem deliver_free {f : Frame} {taking : State → State × Frame} {s : State} (h : s.linkFree)
    (ht : (taking (heard s)).1.linkFree) :
    deliver f taking s = answered (taking (heard s)).1 (taking (heard s)).2 := by
  obtain ⟨h1, h2, -⟩ := h
  obtain ⟨k1, -, k3⟩ := ht
  simp [deliver, h1, h2, startReply, placeReply, k3, beginReply, takeHeld, k1, answered]

/-- A host command on a free link: served on the heard state, with its one reply begun. -/
theorem command_free {f : Frame} {service : State → Served} {s : State} (h : s.linkFree)
    (ht : (service (heard s)).1.linkFree) :
    command f service s = .next (answered (service (heard s)).1
      { kind := f.kind + 0x80#8, tag := f.tag, fields := (service (heard s)).2 }) := by
  unfold command
  rw [deliver_free h (by simpa [replyTo] using ht)]
  rfl

/-- A refused command changes nothing of the heard state. -/
theorem refuse_state (s : State) (k c : Byte) : (refuse s k c).1 = s := rfl

end Sys2Proof.Machine
end

