-- ==== Sys2Proof/Laws/Notice.lean ====
section
/-! SUPPORT. Laws/Notice.lean: what a fault notice can do, from the Monitor and from the Compatibility Store, and the end
of a mains tenth count: one lemma for each shared operation that says everything it can answer. -/

namespace Sys2Proof.Machine

/-! ### The fault record -/

/-- One finding writes an empty record, or sets the additional-fault flag of a full one; beside the record it touches the
link's flags only (R131). -/
theorem recordFinding_cases (s : State) (f : Finding) : ∃ r m,
    recordFinding s f = { s with mon := { s.mon with record := some r }, link := { s.link with flags := m } } ∧
    (s.mon.record = none → r = ⟨f.cause, f.first, f.second, s.time.tenth, s.unit.mode, false⟩) ∧
    ∀ old, s.mon.record = some old → r = { old with additional := true } := by
  unfold recordFinding
  split
  · rename_i h
    exact ⟨_, _, rfl, fun _ => rfl, fun old e => by simp [h] at e⟩
  · rename_i r h
    split
    · rename_i ha
      refine ⟨{ r with additional := true }, s.link.flags, ?_, fun e => by simp [h] at e, fun old e => ?_⟩
      · have : ({ r with additional := true } : FaultRecord) = r := by cases r; simp_all
        rw [this, ← h]
      · rw [h] at e; cases e; rfl
    · exact ⟨_, _, rfl, fun e => by simp [h] at e, fun old e => by rw [h] at e; cases e; rfl⟩

/-- The findings of one event touch the record and the link's flags only (R131, R132). -/
theorem recordFindings_eq (fs : List Finding) (s : State) : ∃ r m,
    recordFindings fs s = { s with mon := { s.mon with record := r }, link := { s.link with flags := m } } := by
  induction fs generalizing s with
  | nil => exact ⟨s.mon.record, s.link.flags, rfl⟩
  | cons f fs ih =>
    obtain ⟨r, m, h, -⟩ := recordFinding_cases s f
    obtain ⟨r', m', h'⟩ := ih (recordFinding s f)
    refine ⟨r', m', ?_⟩
    change recordFindings fs (recordFinding s f) = _
    rw [h', h]

/-- A second finding of an event leaves the record that the first wrote with the additional-fault flag set (R132). -/
theorem recordFindings_full (fs : List Finding) (s : State) {old : FaultRecord} (h : s.mon.record = some old) :
    (recordFindings fs s).mon.record = if fs = [] then some old else some { old with additional := true } := by
  induction fs generalizing s old with
  | nil => exact h
  | cons f fs ih =>
    obtain ⟨r, m, e, -, hr⟩ := recordFinding_cases s f
    have hs : (recordFinding s f).mon.record = some { old with additional := true } := by rw [e, ← hr old h]
    change (recordFindings fs (recordFinding s f)).mon.record = _
    rw [ih _ hs]
    cases fs <;> rfl

/-- The findings of one event on an empty record: the first is written, each further one marks it additional (R132). -/
theorem recordFindings_empty (f : Finding) (fs : List Finding) (s : State) (h : s.mon.record = none) :
    (recordFindings (f :: fs) s).mon.record =
      some ⟨f.cause, f.first, f.second, s.time.tenth, s.unit.mode, !fs.isEmpty⟩ := by
  obtain ⟨r, m, e, hr, -⟩ := recordFinding_cases s f
  have hs : (recordFinding s f).mon.record = some ⟨f.cause, f.first, f.second, s.time.tenth, s.unit.mode, false⟩ := by
    rw [e, ← hr h]
  change (recordFindings fs (recordFinding s f)).mon.record = _
  rw [recordFindings_full fs _ hs]
  cases fs <;> rfl

/-! ### Notices -/

/-- What findings given to the Unit Mode Machine do: nothing when there is none, the record alone in POWER_OUT and in
FAULT_FLASH, else the record and the entry into FAULT_FLASH (R131, R145). -/
theorem faultNotice_cases (fs : List Finding) (s : State) :
    (fs = [] ∧ faultNotice fs s = s) ∨
    (fs ≠ [] ∧ (s.unit.mode = .powerOut ∨ s.unit.mode = .faultFlash) ∧ faultNotice fs s = recordFindings fs s) ∨
    (fs ≠ [] ∧ s.unit.mode ≠ .powerOut ∧ s.unit.mode ≠ .faultFlash ∧
      faultNotice fs s = enterFaultFlash (recordFindings fs s)) := by
  obtain ⟨r, m, h⟩ := recordFindings_eq fs s
  have hm : (recordFindings fs s).unit.mode = s.unit.mode := by rw [h]
  cases fs with
  | nil => exact .inl ⟨rfl, rfl⟩
  | cons f fs =>
    refine .inr ?_
    by_cases k : s.unit.mode = .powerOut ∨ s.unit.mode = .faultFlash
    · exact .inl ⟨by simp, k, by simp [faultNotice, hm, k]⟩
    · exact .inr ⟨by simp, fun e => k (.inl e), fun e => k (.inr e), by simp [faultNotice, hm, k]⟩

/-- A notice of the Monitor is the fault notice, with its moment held while it leaves a control mode (R132). -/
theorem monitorNotice_eq (fs : List Finding) (s : State) : ∃ k,
    monitorNotice fs s = { faultNotice fs s with mon := { (faultNotice fs s).mon with found := k } } ∧
    (fs ≠ [] → s.unit.mode.isControl = true → k = some s.time.clock) ∧
    (fs = [] ∨ s.unit.mode.isControl = false → k = (faultNotice fs s).mon.found) := by
  by_cases h : (!fs.isEmpty && s.unit.mode.isControl) = true
  · refine ⟨some s.time.clock, by simp [monitorNotice, h], fun _ _ => rfl, fun e => ?_⟩
    rcases e with rfl | e <;> simp_all
  · refine ⟨(faultNotice fs s).mon.found, by simp [monitorNotice, h], fun e c => ?_, fun _ => rfl⟩
    cases fs <;> simp_all

/-- Keeping the sample of the present moment touches the report that waits and the checks held beside it only, and does
nothing when no sample is due (R132). -/
theorem keepSample_cases (old s : State) :
    (old.sampleNow = false ∧ keepSample old s = s) ∨
    (old.sampleNow = true ∧ keepSample old s = { s with
      mon := { s.mon with
        awaiting := old.mon.awaiting
        beside := some ⟨old.unit.mode, old.mon.conflicts, old.mon.channels⟩ } }) := by
  cases h : old.sampleNow
  · exact .inl ⟨rfl, by simp [keepSample, h]⟩
  · exact .inr ⟨rfl, by simp [keepSample, h]⟩

/-- What a Compatibility notice does: given in a control mode, recorded in a FAULT_FLASH that findings of the same moment
made, owed in an outage that remembers a control mode, dropped in every other mode (R29, R132). -/
theorem plugNotice_cases (k : FaultCause) (s : State) :
    (s.unit.mode.isControl = true ∧
      plugNotice k s = keepSample s (enterFaultFlash (recordFinding s ⟨k, 0, 0⟩))) ∨
    (s.unit.mode = .faultFlash ∧ s.mon.found = some s.time.clock ∧ plugNotice k s = recordFinding s ⟨k, 0, 0⟩) ∨
    (s.unit.mode = .powerOut ∧ s.standingMode.isControl = true ∧
      plugNotice k s = { s with compat := { s.compat with owed := s.compat.owed.or (some k) } }) ∨
    (s.unit.mode.isControl = false ∧ plugNotice k s = s) := by
  have hp : Mode.powerOut.isControl = false := rfl
  have hf : Mode.faultFlash.isControl = false := rfl
  rcases faultNotice_cases [⟨k, 0, 0⟩] s with ⟨h, -⟩ | ⟨-, h, e⟩ | ⟨-, h1, h2, e⟩
  · exact absurd h (by simp)
  · change faultNotice _ s = recordFinding s ⟨k, 0, 0⟩ at e
    rcases h with h | h
    · by_cases c : s.standingMode.isControl = true
      · exact .inr (.inr (.inl ⟨h, c, by simp [plugNotice, h, hp, c]⟩))
      · exact .inr (.inr (.inr ⟨by rw [h, hp], by simp [plugNotice, h, hp, c]⟩))
    · by_cases c : s.mon.found = some s.time.clock
      · exact .inr (.inl ⟨h, c, by simp [plugNotice, h, hf, c, e]⟩)
      · exact .inr (.inr (.inr ⟨by rw [h, hf], by simp [plugNotice, h, hf, c]⟩))
  · change faultNotice _ s = enterFaultFlash (recordFinding s ⟨k, 0, 0⟩) at e
    by_cases c : s.unit.mode.isControl = true
    · exact .inl ⟨c, by simp [plugNotice, c, e]⟩
    · exact .inr (.inr (.inr ⟨by simpa using c, by simp [plugNotice, c, h1, h2]⟩))

/-! ### The end of a mains tenth count -/

/-- The end of a count gives its tenth tick, unless the row MAINS_TENTH has given it, and then only closes it (R157). -/
theorem endCount_cases (moment : Nat) (s : State) :
    (s.time.tenthGiven = true ∧
      endCount moment s = { s with time := { s.time with tenthGiven := false, lastTenth := moment } }) ∨
    (s.time.tenthGiven = false ∧ endCount moment s = tenthAt moment s) := by
  cases h : s.time.tenthGiven
  · exact .inr ⟨rfl, by simp [endCount, h]⟩
  · exact .inl ⟨rfl, by simp [endCount, h]⟩

end Sys2Proof.Machine
end

