-- ==== Sys2Proof/Laws/Signs.lean ====
section
/-! SUPPORT. Laws/Signs.lean: what a bit time of a sign exchange is spent on, the levels of SCK, SDO and SLAT in it, the
buffer at its two ends, and the lines of the plug and of a tone. -/

namespace Sys2Proof.Machine

/-! ### The bit times of an exchange (R174) -/

theorem shiftTime_eq (g : Signs) : g.shiftTime = (Config.wordBits + g.gap) * g.count + Config.wordBits := by
  simp only [Signs.shiftTime, Nat.mul_add, Nat.add_mul, Nat.mul_one]
  omega

/-- The bit times of a word lie within the shift. -/
theorem bit_lt_shiftTime {g : Signs} {p i : Nat} (hp : p ≤ g.count) (hi : i < Config.wordBits) :
    (Config.wordBits + g.gap) * p + i < g.shiftTime := by
  have := Nat.mul_le_mul_left (Config.wordBits + g.gap) hp
  rw [shiftTime_eq]
  omega

/-- The bit times of a gap lie within the shift. -/
theorem gap_lt_shiftTime {g : Signs} {p j : Nat} (hp : p < g.count) (hj : j < g.gap) :
    (Config.wordBits + g.gap) * p + (Config.wordBits + j) < g.shiftTime := by
  have h := Nat.mul_le_mul_left (Config.wordBits + g.gap) (Nat.succ_le_of_lt hp)
  rw [Nat.mul_succ] at h
  rw [shiftTime_eq]
  omega

/-- The slot of bit i of the word at position p. -/
theorem slot_bit {g : Signs} {p i : Nat} (hp : p ≤ g.count) (hi : i < Config.wordBits) :
    g.slot ((Config.wordBits + g.gap) * p + i) = .bit p i := by
  have h1 : ((Config.wordBits + g.gap) * p + i) % (Config.wordBits + g.gap) = i := by
    rw [Nat.mul_add_mod]; exact Nat.mod_eq_of_lt (by omega)
  have h2 : ((Config.wordBits + g.gap) * p + i) / (Config.wordBits + g.gap) = p := by
    rw [Nat.mul_add_div (by omega), Nat.div_eq_of_lt (by omega)]; rfl
  simp [Signs.slot, Nat.not_le.mpr (bit_lt_shiftTime hp hi), h1, h2, hi]

/-- The slot of the j-th bit time of the gap after position p. -/
theorem slot_gap {g : Signs} {p j : Nat} (hp : p < g.count) (hj : j < g.gap) :
    g.slot ((Config.wordBits + g.gap) * p + (Config.wordBits + j)) = .gap p := by
  have h1 : ((Config.wordBits + g.gap) * p + (Config.wordBits + j)) % (Config.wordBits + g.gap) = Config.wordBits + j := by
    rw [Nat.mul_add_mod]; exact Nat.mod_eq_of_lt (by omega)
  have h2 : ((Config.wordBits + g.gap) * p + (Config.wordBits + j)) / (Config.wordBits + g.gap) = p := by
    rw [Nat.mul_add_div (by omega), Nat.div_eq_of_lt (by omega)]; rfl
  simp [Signs.slot, Nat.not_le.mpr (gap_lt_shiftTime hp hj), h1, h2]

/-- The slot of a bit time at or after the end of the shift. -/
theorem slot_after {g : Signs} {t : Nat} (h : g.shiftTime ≤ t) : g.slot t = .after := by simp [Signs.slot, h]

/-- The check of the chain (R174). -/
theorem whole_iff (n : Nat) (received : Vector Word 9) : whole n received = true ↔
    receivedAt received n = 0x5AA5#16 ∧ ∀ p, p < n → (receivedAt received p).extractLsb' 13 3 = 0b101#3 := by
  simp only [whole, isStatus, Config.signMarker, Bool.and_eq_true, beq_iff_eq, List.all_eq_true, List.mem_range]

/-! ### The levels of the lines (R174) -/

/-- A bit time of a word: one SCK period, its bit on SDO, SLAT low. -/
theorem lines_bit {g : Signs} (received : Vector Word 9) (hs : g.shifting = true) {p i : Nat} (hp : p ≤ g.count)
    (hi : i < Config.wordBits) (risen : Bool) :
    let t := (Config.wordBits + g.gap) * p + i
    g.sckAt t risen = risen ∧ g.sdoAt t = g.bufferBit p i ∧ g.slatAt received t = false := by
  have h := bit_lt_shiftTime hp hi
  refine ⟨?_, ?_, ?_⟩
  · simp [Signs.sckAt, hs, slot_bit hp hi]
  · simp [Signs.sdoAt, hs, slot_bit hp hi]
  · simp [Signs.slatAt, hs, Nat.ne_of_lt h]

/-- A bit time of a gap: SCK low, the first bit of the next word on SDO, SLAT low. -/
theorem lines_gap {g : Signs} (received : Vector Word 9) (hs : g.shifting = true) {p j : Nat} (hp : p < g.count)
    (hj : j < g.gap) (risen : Bool) :
    let t := (Config.wordBits + g.gap) * p + (Config.wordBits + j)
    g.sckAt t risen = false ∧ g.sdoAt t = g.bufferBit (p + 1) 0 ∧ g.slatAt received t = false := by
  have h := gap_lt_shiftTime hp hj
  refine ⟨?_, ?_, ?_⟩
  · simp [Signs.sckAt, hs, slot_gap hp hj]
  · simp [Signs.sdoAt, hs, slot_gap hp hj]
  · simp [Signs.slatAt, hs, Nat.ne_of_lt h]

/-- After the shift: SCK low, SDO free, SLAT high for one bit time when the chain is whole. -/
theorem lines_after {g : Signs} (received : Vector Word 9) (hs : g.shifting = true) {t : Nat} (h : g.shiftTime ≤ t)
    (risen : Bool) :
    g.sckAt t risen = false ∧ g.sdoAt t = Config.sdoAfter g.transfers ∧
      g.slatAt received t = (whole g.count received && t == g.shiftTime) := by
  simp [Signs.sckAt, Signs.sdoAt, Signs.slatAt, hs, slot_after h]

/-! ### The buffer during an exchange (R174) -/

theorem replaceBits_none (r w : Word) : replaceBits 0 r w = w := by
  have e : (BitVec.allOnes 16 : Word) >>> 0 = BitVec.allOnes 16 := rfl
  rw [replaceBits, e, BitVec.and_allOnes, BitVec.not_allOnes, BitVec.and_zero, BitVec.zero_or]

theorem replaceBits_all {n : Nat} (h : 16 ≤ n) (r w : Word) : replaceBits n r w = r := by
  have e : (BitVec.allOnes 16 : Word) >>> n = 0#16 := BitVec.ushiftRight_eq_zero h
  have z : ~~~(0#16 : Word) = BitVec.allOnes 16 := rfl
  rw [replaceBits, e, z, BitVec.and_allOnes, BitVec.and_zero, BitVec.or_zero]

/-- When the shift has ended the buffer holds the words received, as the end of a completed exchange leaves it. -/
theorem bufferAt_end (received : Vector Word 9) {g : Signs} (hc : g.count ≤ 8) :
    g.bufferAt received g.shiftTime = received.toList.take (g.count + 1) := by
  refine List.ext_getElem? (fun p => ?_)
  have hl : received.toList.length = 9 := by simp
  by_cases hp : p < g.count + 1
  · have hb : 16 ≤ Config.wordBits * (g.count + 1) - Config.wordBits * p := by
      simp only [Config.wordBits]; omega
    simp only [Signs.bufferAt, Signs.sampledBefore, slot_after (Nat.le_refl _), List.getElem?_map]
    rw [List.getElem?_range hp, Option.map_some, replaceBits_all hb, receivedAt, List.getElem?_take_of_lt hp,
      List.getD_eq_getElem?_getD, List.getElem?_eq_getElem (by omega)]
    rfl
  · rw [List.getElem?_eq_none (by simp [Signs.bufferAt]; omega), List.getElem?_eq_none (by simp; omega)]

/-! ### The lines of the plug and of a tone (R22, R165) -/

/-- The n-th PCK period of the latest read. -/
theorem plugPeriodAt_eq (c : Compat) {n r : Nat} (hr : r < Config.plugPeriod) :
    c.plugPeriodAt (c.readStart + Config.plugPeriod * n + r) = n := by
  simp only [Compat.plugPeriodAt, Config.plugPeriod] at *
  omega

/-- A TONE output is high in the first sixteenths of a period, as many as its level, of a sounding line not muted. -/
theorem outputAt_iff (l : ToneLine) (n : Nat) :
    l.outputAt n = true ↔ l.sounding ≠ .none ∧ l.mute = false ∧ n % 16 < l.level := by
  unfold ToneLine.outputAt ToneLine.output
  cases l.sounding <;> cases l.mute <;> by_cases h : l.level = 0 <;> simp [h]

end Sys2Proof.Machine
end

