-- ==== Sys2Proof/Tests/Slice0.lean ====
section
/-! SUPPORT. Tests/Slice0.lean: the checks of WellFormed, the book's own worked values, and for every statement with
hypotheses a concrete state and operands that meet them (`witness_<statement>`, one conjunct or theorem for each
clause, at a boundary of its range where it has one). -/

namespace Sys2Proof.Tests

open Sys2Proof.Machine

-- one theorem after another: many kernel evaluations side by side ask for more threads than the check allows
set_option Elab.async false

/-! ### Small states -/

/-- The reset state in a unit mode. -/
def inMode (m : Mode) : State := { State.reset with unit := { State.reset.unit with mode := m, ftr := m.relay } }

/-- An outage that remembers a mode. -/
def inOutage (m : Mode) : State :=
  { inMode .powerOut with
    unit := { (inMode .powerOut).unit with remembered := some m }
    time := { Timebase.reset with category := .dropout } }

/-- A channel of a type in an indication with its interval timer. -/
def channel (k : ChannelType) (i : Indication) (n : Nat) : Channel :=
  { Channel.reset with kind := k, ind := i, timer := n }

/-- A state with one channel replaced. -/
def set1 (c : Chan) (r : Channel) (s : State) : State := s.setChan c r

/-- CONTROLLED with channel 1 a GREEN vehicle, channel 2 a RED vehicle and channel 3 a RED pedestrian, incompatible with
one another, and an ACTUATED step current at full green with a FIXED one behind it. -/
def control : State :=
  { set1 0 (channel .vehicle .green 0) (set1 1 (channel .vehicle .red 0) (set1 2 (channel .pedestrian .red 0)
      (inMode .controlled))) with
    seq := { Sequencer.reset with
      queue := [⟨1, .actuated, false, 1, none⟩, ⟨2, .fixed, false, 2, some 100⟩]
      current := true, phase := .fullGreen, nextSerial := 3 }
    time := { Timebase.reset with category := .normal } }

/-- A state whose half-cycle waits for its sample. -/
def awaiting (d : Drive) (s : State) : State := { s with mon := { s.mon with awaiting := some (Vector.replicate 48 d) } }

/-- A state whose sixteenth supply sample is due, with the sum of the first fifteen. -/
def sixteenth (sum : Nat) (s : State) : State :=
  { s with time := { s.time with sampleDue := true, windowCount := 15, windowSum := sum } }

/-! ### WellFormed -/

theorem test_commandKind_refused_as_unknown : (Instr.unknownKind 0x10#8 0 []).wellFormed = false := by decide
theorem test_unknownKind_too_long_refused : (Instr.unknownKind 0x77#8 0 (List.replicate 60 0)).wellFormed = false := by
  decide
theorem test_unknownKind_accepted : (Instr.unknownKind 0x77#8 0 (List.replicate 59 0)).wellFormed = true := by decide
theorem test_no_word_spells_a_command : decodeTableWord 32 0 = none := by decide

/-! ### Worked values of the book -/

/-- The cells named in R23: (1,2) 1, (1,16) 15, (2,3) 16, (8,12) 88, (15,16) 120. -/
theorem test_pair_cells : pairIndex 0 1 + 1 = 1 ∧ pairIndex 0 15 + 1 = 15 ∧ pairIndex 1 2 + 1 = 16 ∧
    pairIndex 7 11 + 1 = 88 ∧ pairIndex 14 15 + 1 = 120 := by decide

/-- R23: cells 121 to 128 hold 1, 0, 1, 1, 0, 0, 1, 0. -/
theorem test_card_code : (classRead (0b01001101#8 ++ 0#120)).coded = true ∧
    (classRead (0b10110010#8 ++ 0#120)).coded = false := by decide +kernel

/-- Table 4-2. -/
theorem test_initial_greens :
    let t := { Timing.reset with minGreen := 100, addedInitial := 20, maxInitial := 250 }
    initialGreen t 0 = 100 ∧ initialGreen t 3 = 100 ∧ initialGreen t 7 = 140 ∧ initialGreen t 13 = 250 ∧
      initialGreen t 255 = 250 ∧ initialGreen { t with maxInitial := 80 } 255 = 100 := by decide

/-- Table 1-5, rows k = 4 to 8. -/
theorem test_dim_levels :
    (List.range 8).filter (fun h => conducts h 4) = [1, 3, 5, 7] ∧
    (List.range 8).filter (fun h => conducts h 5) = [1, 3, 4, 6, 7] ∧
    (List.range 8).filter (fun h => conducts h 6) = [1, 2, 3, 5, 6, 7] ∧
    (List.range 8).filter (fun h => conducts h 7) = [1, 2, 3, 4, 5, 6, 7] ∧
    (List.range 8).filter (fun h => conducts h 8) = [0, 1, 2, 3, 4, 5, 6, 7] := by decide

/-- The worked categories of R159 at the default thresholds. -/
theorem test_supply_categories :
    let at' := fun k n => nextCategory { Timebase.reset with category := k } n
    at' .normal 165 = .sag ∧ at' .sag 172 = .sag ∧ at' .sag 176 = .normal ∧ at' .normal 99 = .dropout ∧
      at' .dropout 104 = .dropout ∧ at' .dropout 180 = .normal ∧ at' .normal 236 = .high ∧ at' .high 226 = .high := by
  decide

/-- R191: a refused QUEUE STEP carries serial 0. -/
theorem test_refused_queue_step : (match exec (.queueStep 7 2 0 0 0) State.reset with
    | .next t => t.link.sending | _ => none) = some ⟨0xA0#8, 7, [4, 0, 0, 0, 0, 0]⟩ := by decide +kernel

/-- Figure 1-3: after a termination order the staged pattern is amber and the applied one still green. -/
theorem test_staged_and_applied :
    let s := crossing (set1 0 { channel .vehicle .green 0 with staged := ⟨.unlit, .unlit, .steady⟩ } control)
    (((terminateChannel 0 s).chan 0).staged, ((terminateChannel 0 s).chan 0).applied) =
      (⟨.unlit, .steady, .unlit⟩, ⟨.unlit, .unlit, .steady⟩) := by decide +kernel

/-! ### Witnesses: the link -/

theorem witness_StepRunsFront : ({ State.reset with pending := [.millisecond] }).pending = .millisecond :: [] ∧
    State.reset.pending = [] := by decide

theorem witness_FrameRoundTrip : frameOf (.hold 7 255) = some ⟨0x23#8, 7, [255]⟩ ∧
    (∀ k t fs, Instr.hold 7 255 ≠ .unknownKind k t fs) ∧ (Instr.unknownKind 0xFF#8 7 [1]).wellFormed = true :=
  ⟨by decide, fun _ _ _ => by simp, by decide⟩

theorem witness_ReceptionRoundTrip : State.reset.link.receiver = .hunt ∧
    (⟨0x77#8, 7, List.replicate 59 0x7E#8⟩ : Frame).fields.length ≤ 59 := by decide

theorem witness_RowIsArrival : frameOf (.identify 7) = some ⟨0x01#8, 7, []⟩ ∧ (Instr.identify 7).wellFormed = true := by
  decide

/-- The transmitter busy, the reply slot full, and the held slot empty or full. -/
def busy (held : Option Frame) : State :=
  { State.reset with
    link := { Link.reset with sending := some ⟨0x81#8, 1, []⟩, reply := some ⟨0x82#8, 2, []⟩, held := held } }

theorem witness_BusySlots : (frameOf (.identify 7) = some ⟨0x01#8, 7, []⟩ ∧ (Instr.identify 7).wellFormed = true) ∧
    (busy (some ⟨0x01#8, 3, []⟩)).link.held = some ⟨0x01#8, 3, []⟩ ∧
    (busy none).link.held = none ∧ (busy none).link.reply = some ⟨0x82#8, 2, []⟩ := by decide

/-- A state whose receiver is in a state, with a length byte and the bytes received after it. -/
def receiving (r : Receiver) (n : Nat) (bs : List Byte) : State :=
  { State.reset with link := { Link.reset with receiver := r, length := n, assembly := bs } }

theorem witness_ReceiveCharacter_errorFree :
    (State.reset.link.receiver = .hunt ∧ parityError 0x7E#8 false = false) ∧
    (State.reset.link.receiver = .hunt ∧ (0x7F#8 : Byte) ≠ 0x7E#8) ∧
    ((receiving .length 0 []).link.receiver = .length ∧ parityError 3#8 false = false ∧ 3 ≤ (3#8 : Byte).toNat ∧
      (3#8 : Byte).toNat ≤ 62) ∧
    (parityError 62#8 true = false ∧ 3 ≤ (62#8 : Byte).toNat ∧ (62#8 : Byte).toNat ≤ 62) ∧
    ((receiving .body 3 [1]).link.receiver = .body ∧ parityError 1#8 true = false ∧
      (receiving .body 3 [1]).link.assembly.length + 1 < (receiving .body 3 [1]).link.length) := by decide +kernel

theorem witness_ReceiveCharacter_errors :
    ((receiving .body 3 [1]).link.receiver ≠ .hunt ∧ parityError 1#8 false = true) ∧
    ((receiving .length 0 []).link.receiver = .length ∧ parityError 2#8 true = false ∧ (2#8 : Byte).toNat < 3) ∧
    (parityError 63#8 false = false ∧ 62 < (63#8 : Byte).toNat) ∧
    ((receiving .body 3 [1, 7]).link.receiver = .body ∧ parityError 1#8 true = false ∧
      (receiving .body 3 [1, 7]).link.length ≤ (receiving .body 3 [1, 7]).link.assembly.length + 1 ∧
      u8 3 + byteSum ([1, 7] ++ [1#8]) ≠ 0) := by decide +kernel

theorem witness_GapAndUnknownKind : (receiving .body 3 [1]).link.receiver ≠ .hunt ∧
    State.reset.link.receiver = .hunt ∧ State.reset.linkFree ∧ (Instr.unknownKind 0xFF#8 7 []).wellFormed = true :=
  ⟨by decide, rfl, ⟨rfl, rfl, rfl⟩, by decide⟩

/-- A transmitter that sends with nothing flagged, enabled as given. -/
def sendingOnly (flags : BitVec 9) : State :=
  { State.reset with link := { Link.reset with sending := some ⟨0x81#8, 1, []⟩, flags := flags } }

theorem witness_Transmitter : State.reset.link.sending = none ∧
    ((busy none).link.sending = some ⟨0x81#8, 1, []⟩ ∧ (busy none).link.reply = some ⟨0x82#8, 2, []⟩ ∧
      (busy none).link.held = none) ∧
    (busy (some ⟨0x01#8, 3, []⟩)).link.held = some ⟨0x01#8, 3, []⟩ ∧
    ((sendingOnly 0).link.sending = some ⟨0x81#8, 1, []⟩ ∧ (sendingOnly 0).link.reply = none ∧
      (sendingOnly 0).link.flags &&& (sendingOnly 0).link.enable = 0) ∧
    (State.reset.link.sending = none ∧ State.reset.link.reply = none ∧
      has (State.reset.link.flags &&& State.reset.link.enable) Report.mode.index = true ∧
      ∀ q : Report, q.index < Report.mode.index → has (State.reset.link.flags &&& State.reset.link.enable) q.index = false) ∧
    ((sendingOnly 0b100000010).link.sending ≠ none ∧ (sendingOnly 0b100000010).link.reply = none ∧
      has ((sendingOnly 0b100000010).link.flags &&& (sendingOnly 0b100000010).link.enable) Report.fault.index = true ∧
      ∀ q : Report, q.index < Report.fault.index →
        has ((sendingOnly 0b100000010).link.flags &&& (sendingOnly 0b100000010).link.enable) q.index = false) :=
  ⟨rfl, by decide, rfl, by decide +kernel, ⟨rfl, rfl, by decide +kernel, fun q h => absurd h (by cases q <;> decide)⟩,
    by decide, rfl, by decide +kernel, fun q h => by cases q <;> first | decide +kernel | exact absurd h (by decide)⟩

/-- Table 13-8, the STAGE report of a current step, worked by hand: CONTROLLED, serial 1, FULL_GREEN, channel 1, SINGLE, two
records, index 1, eligible serial 2, no queue flag. -/
theorem test_stage_report : reportBytes control .stage = [2, 0, 1, 2, 0, 1, 0, 2, 1, 0, 2, 0] := by decide +kernel

/-- The two cases of TXD: a frame with a character at place 5, its last, and nothing sent. -/
theorem witness_Transmitter_line : (busy none).link.sending = some ⟨0x81#8, 1, []⟩ ∧
    (0x7E#8 :: (⟨0x81#8, 1, []⟩ : Frame).bytes)[4]? = some 0x7B#8 ∧ State.reset.link.sending = none ∧
    ∃ t, exec (.hardwareReset 0) (busy none) = .next t := ⟨rfl, by decide, rfl, _, rfl⟩

/-- R181: the marker 0x7E as the first eleven bit times of a frame: start, eight data bits, even parity, stop. -/
theorem test_marker_on_the_line : (List.range 11).map (busy none).link.txd =
    [false, false, true, true, true, true, true, true, false, false, true] := by decide +kernel

/-- A state with its supervision timer at its last tenth. -/
def lastTenth (s : State) : State := { s with link := { s.link with supervision := 1, statusTimer := 1 } }

theorem witness_LinkTimers : (0 < (lastTenth State.reset).link.statusPeriod ∧ (lastTenth State.reset).link.statusTimer ≤ 1) ∧
    ((lastTenth control).link.supervision = 1 ∧ (lastTenth control).link.lost = false ∧
      (lastTenth control).unit.mode = .controlled) ∧
    ((lastTenth (inMode .entryRed)).unit.mode = .entryRed ∧ (lastTenth (inMode .entryRed)).link.supervision = 1) ∧
    ((lastTenth (inOutage .entryRed)).unit.mode = .powerOut ∧
      (lastTenth (inOutage .entryRed)).unit.remembered = some .entryRed) := by decide

theorem witness_SlotsDrainKept : (busy (some ⟨0x01#8, 3, []⟩)).SlotsDrain ∧
    ∃ t, exec .frameSent (busy (some ⟨0x01#8, 3, []⟩)) = .next t := ⟨⟨by decide, by decide⟩, _, rfl⟩

/-! ### Witnesses: the crystal and the mains -/

/-- CONTROLLED with tone line 1 bound to channel 3, playing at the given moments of its cycles. -/
def tone (locator walk : Option Nat) (confirm : Nat) (k : Sounding) (age : Nat) : State :=
  { control with
    tones := vset control.tones 0 { ToneLine.reset with
      channel := some 2, locator := true, locatorCycle := locator, walkCycle := walk, confirmTimer := confirm
      sounding := k, level := 4, age := age } }

theorem witness_Millisecond : (tone (some 999) none 0 .none 0).lineActive 0 = true ∧
    (tone (some 999) none 0 .none 0).lineActive 1 = false ∧
    (tone (some 38) none 0 .locator 249).lineActive 0 = true ∧ ((tone (some 38) none 0 .locator 249).line 0).age < 250 := by
  decide +kernel

/-- A state whose switch input differs at its tenth sample. -/
def switchAt9 (level : Bool) (s : State) : State :=
  { s with unit := { s.unit with switchLevel := level, switchRun := 9 } }

theorem witness_ScanTick : (switchAt9 false control).unit.switchLevel = false ∧
    (if 9 ≤ (switchAt9 false control).unit.switchRun then true else (switchAt9 false control).unit.switchLevel) = true ∧
    ((switchAt9 false control).unit.mode = .entryRed ∨ (switchAt9 false control).unit.mode = .controlled) := by decide

/-- A LOCKED timebase, paced by the mains or not, with its count of crossings. -/
def locked (paced : Bool) (n : Nominal) (count : Nat) (s : State) : State :=
  { s with time := { s.time with lock := .locked, mainsPaced := paced, nominal := n, mainsCount := count } }

/-- A timebase after a real crossing at 20,000 µs. -/
def crossed (k : LockState) (good : Nat) (s : State) : State :=
  { s with time := { s.time with lock := k, goodCount := good, lastReal := some 20000, lastCrossing := 20000, nominal := .hz50 } }

/-- A timebase whose next mains tenth the row MAINS_TENTH has given. -/
def given (s : State) : State := { s with time := { s.time with tenthGiven := true } }

theorem witness_TenthTick : ((locked true .hz50 0 control).time.lock = .locked ∧ (locked true .hz50 0 control).time.mainsPaced = true) ∧
    (locked true .hz50 8 control).time.mainsCount + 1 ≠ (if (locked true .hz50 8 control).time.sixty then 12 else 10) ∧
    (given (locked true .hz50 9 control)).time.tenthGiven = true ∧
    control.takesTenth .crystalTenth ∧ (locked true .hz50 9 control).takesTenth .mainsTenth ∧
    (locked true .hz60 11 control).takesTenth .mainsTenth := by
  unfold State.takesTenth; decide

theorem witness_TenthTickInputs : State.reset.takesTenth .crystalTenth ∧
    (locked false .hz50 0 State.reset).takesTenth .crystalTenth ∧
    (locked true .hz50 9 State.reset).takesTenth .mainsTenth := by
  unfold State.takesTenth; decide

/-- R157: the row MAINS_TENTH and the crossing it belongs to give one tenth tick, and the count starts again at 0. -/
theorem test_one_tenth_per_count :
    (match exec .mainsTenth (locked true .hz50 9 (crossed .locked 0 control)) with
      | .next t => (match exec (.realCrossingEvent 30000) t with
        | .next u => some (u.time.tenth, u.time.mainsCount, u.time.tenthGiven) | _ => none)
      | _ => none) = some (1, 0, false) := by decide +kernel

theorem witness_CrossingEvent :
    ((crossed .acquiring 0 control).time.synthetic = false ∧ (crossed .acquiring 0 control).time.lastReal = some 20000 ∧
      22499 < 20000 + (if (crossed .acquiring 0 control).time.sixty then 2083 else 2500)) ∧
    (∀ m0, (crossed .acquiring 0 control).time.lastReal = some m0 →
      m0 + (if (crossed .acquiring 0 control).time.sixty then 2083 else 2500) ≤ 22500) ∧
    (crossed .acquiring 0 control).time.takes 30000 = true ∧ (crossed .acquiring 0 control).time.lock ≠ .locked ∧
    (∃ t, exec (.realCrossingEvent 30000) (crossed .acquiring 0 control) = .next t) ∧
    ∃ t, exec .syntheticCrossingEvent (crossed .acquiring 0 control) = .next t :=
  ⟨by decide, fun m0 h => by cases h; decide, by decide, by decide, ⟨_, rfl⟩, _, rfl⟩

/-- LOCKED after a crossing at 20,000 µs: the ninth and the tenth crossing of a count, the tenth already given, a band
that the period 10,201 µs leaves within a tenth, and the first missing crossing. -/
theorem witness_CrossingEvent_locked :
    let s := fun n => locked true .hz50 n (crossed .locked 0 control)
    (∀ n, (s n).time.takes 30000 = true ∧ (s n).time.lock = .locked ∧ (s n).time.mainsPaced = true ∧
      (s n).time.nominal ≠ .auto ∧ ¬ (s n).time.offBand 30000) ∧
    ((s 8).time.mainsCount + 1 < 10 ∧ (s 9).time.mainsCount + 1 = (if (s 9).time.sixty then 12 else 10) ∧
      (given (s 9)).time.tenthGiven = true) ∧
    ((s 0).time.takes 30201 = true ∧ (s 0).time.offBand 30201 ∧ 30201 < (s 0).time.lastTenth + 100000) ∧
    ((s 0).time.synthetic = false ∧ (s 0).time.syntheticDue < (s 0).time.lastTenth + 100000) ∧
    (∃ t, exec (.realCrossingEvent 30000) (s 8) = .next t) ∧ ∃ t, exec .syntheticCrossingEvent (s 0) = .next t :=
  ⟨fun n => ⟨by rfl, rfl, rfl, by simp [locked], fun h => by
      obtain ⟨-, m0, h1, h2⟩ := h
      cases h1
      exact h2 (show 9800 ≤ 10000 ∧ 10000 ≤ 10200 by decide)⟩,
    by decide, ⟨by decide, ⟨rfl, 20000, rfl, by decide⟩, by decide⟩, by decide, ⟨_, rfl⟩, _, rfl⟩

/-- An undecided AUTO timebase after seven good 50 Hz periods. -/
def undecided (run : Nat) (f : Option Freq) : State :=
  { crossed .acquiring 0 State.reset with
    time := { (crossed .acquiring 0 State.reset).time with nominal := .auto, decisionRun := run, candidate := f } }

theorem witness_MainsLock_real :
    (State.reset.time.takes 30000 = true ∧ State.reset.time.lock = .free) ∧
    ((crossed .acquiring 31 control).time.takes 29800 = true ∧ (crossed .acquiring 31 control).time.lock ≠ .free ∧
      (crossed .acquiring 31 control).time.synthetic = false ∧ (crossed .acquiring 31 control).time.sixty = false ∧
      9800 ≤ 29800 - 20000 ∧ (crossed .acquiring 31 control).time.category ≠ .dropout) ∧
    ((crossed .locked 0 control).time.takes 30201 = true ∧ ¬ 30201 - 20000 ≤ 10200) ∧
    ((undecided 7 (some .hz50)).time.nominal = .auto ∧ (undecided 7 (some .hz50)).time.decided = none ∧
      (undecided 7 (some .hz50)).time.candidate = some .hz50 ∧ 8 ≤ (undecided 7 (some .hz50)).time.decisionRun + 1) ∧
    ((undecided 6 (some .hz50)).time.decisionRun + 1 < 8 ∧ (undecided 0 none).time.candidate ≠ some .hz50) ∧
    (undecided 0 none).time.takes 28166 = true := by decide

theorem witness_MainsLock_others :
    ((undecided 7 (some .hz50)).time.synthetic = false ∧ (undecided 7 (some .hz50)).time.lock ≠ .free ∧
      (undecided 7 (some .hz50)).time.nominal = .auto ∧ (undecided 7 (some .hz50)).time.decided = none) ∧
    State.reset.time.lock = .free ∧ (∃ t, exec .syntheticCrossingEvent (undecided 7 (some .hz50)) = .next t) ∧
    (∃ t, exec (.realCrossingEvent 30000) State.reset = .next t) ∧ State.reset.linkFree ∧
    (∃ t, exec (.realCrossingEvent 29800) (crossed .acquiring 31 control) = .next t) ∧ (60#8 : Byte) ≠ 0 :=
  ⟨by decide, rfl, ⟨_, rfl⟩, ⟨_, rfl⟩, ⟨rfl, rfl, rfl⟩, ⟨_, rfl⟩, by decide⟩

/-! ### Witnesses: the Monitor, the supply and the plug -/

theorem witness_LampStatusSample : State.reset.mon.awaiting = none ∧
    ((awaiting .off (inOutage .controlled)).mon.awaiting = some (Vector.replicate 48 .off) ∧
      (awaiting .off (inOutage .controlled)).unit.mode = .powerOut) ∧
    (awaiting .conduct control).mon.awaiting = some (Vector.replicate 48 .conduct) ∧
    (awaiting .conduct control).unit.mode ≠ .powerOut := by decide

/-- A sample that sees no current at all leaves a control mode as it is. -/
theorem witness_SafetyCheckSample : (awaiting .off control).mon.awaiting = some (Vector.replicate 48 .off) ∧
    (awaiting .off control).unit.mode.isControl = true ∧
    ((match exec (.monitorSample 0) (awaiting .off control) with
      | .next t => t.unit.mode.isControl | _ => false) = true) := by decide +kernel

/-- The conflict count of pair (1, 2) at 23, channel 1 having shown green. -/
def nearFault (m : Mode) : State :=
  let s := awaiting .conduct control
  { s with
    unit := { s.unit with mode := m }
    mon := { s.mon with
      conflicts := vset s.mon.conflicts 0 23
      channels := vset s.mon.channels 0 { ChannelWatch.reset with clearance := .greenSeen, flashGreen := 23 } } }

theorem witness_MonitorFault :
    ((nearFault .controlled).mon.awaiting = some (Vector.replicate 48 .conduct) ∧ (nearFault .controlled).unit.mode.isControl = true) ∧
    (compatible (nearFault .controlled).compat.inUse (pairTable.get 0).1 (pairTable.get 0).2 = false ∧
      (nearFault .controlled).mon.conflicts.get 0 = 23 ∧
      has (0b100100#48) (outputOf (pairTable.get 0).1 2) = true ∧ has (0b100100#48) (outputOf (pairTable.get 0).2 2) = true) ∧
    (((nearFault .controlled).chan 0).kind = .vehicle ∧ has (1#48) (outputOf 0 2) = false ∧ has (1#48) (outputOf 0 1) = false ∧
      has (1#48) (outputOf 0 0) = true ∧ ((nearFault .controlled).mon.channels.get 0).clearance = .greenSeen) ∧
    ((nearFault .localFlash).unit.mode = .localFlash ∧ has (0b100#48) (outputOf 0 2) = true ∧
      ((nearFault .localFlash).mon.channels.get 0).flashGreen = 23) ∧
    (awaiting .off State.reset).unit.mode = .startFlash ∧ (awaiting .off State.reset).mon.beside = none ∧
    (nearFault .controlled).mon.record = none := by decide +kernel

/-- A read that completes at the moment of the sample, after a BAD_CODE read, with the plug VALID until then. -/
def together : State :=
  let s := nearFault .controlled
  { s with
    compat := { s.compat with reading := some 0, readStart := 0, previous := some ⟨false, 7⟩, status := .valid }
    time := { s.time with lastCrossing := 3400, clock := 3400 } }

theorem witness_MonitorFault_together :
    together.mon.awaiting = some (Vector.replicate 48 .conduct) ∧ together.mon.record = none ∧
    together.unit.mode.isControl = true ∧ together.compat.previous = some ⟨false, 7⟩ ∧
    (0 : BitVec 128).extractLsb' 120 8 ≠ 0b01001101#8 ∧ together.compat.status ≠ .absent ∧
    together.compat.readStart + 6400 = together.time.lastCrossing + 3000 ∧
    together.time.clock ≤ together.time.lastCrossing + 3000 ∧
    ((together.chan 0).kind = .vehicle ∧ has (1#48) (outputOf 0 0) = true ∧
      (together.mon.channels.get 0).clearance = .greenSeen) := by decide +kernel

/-- R132: the notice of the read and the finding of the sample leave one record with the additional flag. -/
theorem test_notice_then_finding :
    (match exec (.plugReadComplete 0) together with
      | .next t => (match exec (.monitorSample 1) t with | .next u => u.mon.record | _ => none)
      | _ => none) = some ⟨.plug, 0, 0, 0, .controlled, true⟩ := by decide +kernel

/-- CONTROLLED with the amber of channel 1 seen for 269 half-cycles of 270. -/
theorem witness_MonitorFault_shortAmber :
    let s : State := { nearFault .controlled with mon := { (nearFault .controlled).mon with
      channels := vset (nearFault .controlled).mon.channels 0
        { ChannelWatch.reset with clearance := .amberRun, amberCount := 269 } } }
    (s.mon.channels.get 0).clearance = .amberRun ∧
      (s.mon.channels.get 0).amberCount < (if s.time.sixty then 324 else 270) := by decide +kernel

/-- The settings of the reset state lie in their ranges. -/
theorem settingsSafe_sixteenth (sum : Nat) : (sixteenth sum State.reset).SettingsSafe where
  timing := fun c => by
    have h : ((sixteenth sum State.reset).chan c) = Channel.reset := by
      simp [sixteenth, State.chan, State.reset]
    rw [h]
    exact ⟨by constructor <;> decide, by constructor <;> decide⟩
  dim := by show 4 ≤ 6 ∧ 6 ≤ 8; omega
  steps := fun r h => by cases h
  serial := by show 1 ≤ 1 ∧ 1 ≤ 65535; omega
  chatter := fun d => by
    have h : ((sixteenth sum State.reset).det d) = Detector.reset := by simp [sixteenth, State.det, State.reset]
    rw [h]; decide
  detectors := fun d => by
    have h : ((sixteenth sum State.reset).det d) = Detector.reset := by simp [sixteenth, State.det, State.reset]
    rw [h]; decide
  preempts := fun p => by
    have h : ((sixteenth sum State.reset).pre p) = Preempt.reset := by simp [sixteenth, State.pre, State.reset]
    rw [h]; decide
  limits := fun p => by
    have h : ((sixteenth sum State.reset).pre p) = Preempt.reset := by simp [sixteenth, State.pre, State.reset]
    rw [h]; decide
  redFail := by show 10 ≤ 15 ∧ 15 ≤ 25; omega
  start := by show 30 ≤ 60 ∧ 60 ≤ 255 ∧ 20 ≤ 30 ∧ 30 ≤ 255 ∧ 5 ≤ 20; omega
  supply := by show 60 ≤ 100 ∧ 100 + 10 ≤ 170 ∧ 120 ≤ 170 ∧ 170 ≤ 195 ∧ 205 ≤ 230 ∧ 230 ≤ 250; omega
  tones := fun i => by
    have h : ((sixteenth sum State.reset).line i) = ToneLine.reset := by simp [sixteenth, State.line, State.reset]
    rw [h]; decide
  chain := by show 0 ≤ 8 ∧ 2 ≤ 5 ∧ 5 ≤ 255 ∧ 0 ∈ [0, 1, 2, 4, 8, 16, 32, 64]; decide
  supervision := by show 5 ≤ 20 ∧ 20 ≤ 255; omega

theorem witness_SupplySample : State.reset.time.sampleDue = false ∧
    (let s := { State.reset with time := { Timebase.reset with sampleDue := true, windowCount := 14 } }
     s.time.sampleDue = true ∧ s.time.windowCount < 15) ∧
    ((sixteenth 2700 State.reset).time.sampleDue = true ∧ 15 ≤ (sixteenth 2700 State.reset).time.windowCount ∧
      (sixteenth 2700 State.reset).SettingsSafe) := ⟨rfl, by decide, rfl, by decide, settingsSafe_sixteenth 2700⟩

/-- A sum of 1499 and a sample of 100 give a reading of 99, below the default dropout threshold. -/
theorem witness_Outage_entry : (sixteenth 1499 control).time.sampleDue = true ∧ 15 ≤ (sixteenth 1499 control).time.windowCount ∧
    (sixteenth 1499 control).unit.mode ≠ .powerOut ∧ (sixteenth 1499 control).time.category ≠ .dropout ∧
    nextCategory (sixteenth 1499 control).time (((sixteenth 1499 control).time.windowSum + (100#8 : Byte).toNat) / 16) = .dropout ∧
    (sixteenth 1499 control).time.lock ≠ .locked ∧
    (let s := { sixteenth 1499 control with signs := { Signs.reset with count := 1, shifting := true } }
     s.signs.shifting = true) := by decide

/-- An outage with a timer, an owed notice, the switch and an owed link loss. -/
def outageWith (m : Mode) (n : Nat) (k : Option FaultCause) (switch loss : Bool) : State :=
  let s := sixteenth 2700 (inOutage m)
  { s with unit := { s.unit with outageTimer := n, switchLevel := switch, owedLinkLoss := loss }, compat := { s.compat with owed := k } }

theorem witness_Outage_end :
    let s := outageWith .controlled 5 (some .plug) true true
    (s.time.sampleDue = true ∧ 15 ≤ s.time.windowCount ∧ s.unit.mode = .powerOut ∧ s.time.category = .dropout ∧
      nextCategory s.time ((s.time.windowSum + (180#8 : Byte).toNat) / 16) ≠ .dropout ∧
      s.unit.remembered = some .controlled ∧ Mode.controlled ≠ .powerOut) ∧
    (s.unit.outageTimer ≤ s.unit.shortOutage ∧ Mode.controlled.isControl = true ∧ s.compat.owed = some .plug) ∧
    (outageWith .faultFlash 0 none false false).unit.remembered = some .faultFlash ∧
    ((outageWith .localFlash 6 none false false).unit.shortOutage < (outageWith .localFlash 6 none false false).unit.outageTimer) ∧
    ((outageWith .entryRed 5 none true false).compat.owed = none ∧ (outageWith .entryRed 5 none true false).unit.switchLevel = true) ∧
    ((outageWith .controlled 5 none false true).unit.switchLevel = false ∧
      (outageWith .controlled 5 none false true).unit.owedLinkLoss = true) ∧
    (outageWith .controlled 5 none false false).unit.owedLinkLoss = false ∧
    ((outageWith .clearingToFlash 5 none false false).compat.owed = none ∧
      (outageWith .clearingToFlash 5 none false false).unit.remembered = some .clearingToFlash) ∧
    (outageWith .startFlash 5 none false false).unit.remembered = some .startFlash := by decide +kernel

/-- A resume into CONTROLLED with channel 1 held in an indication. -/
def heldOut (m : Mode) (k : ChannelType) (i : Indication) : State :=
  set1 0 { channel k .dark 7 with held := some i } (outageWith m 5 none false false)

/-- The FIXED step and the service that a resume into CONTROLLED leaves as they were. -/
def frozenStep : State :=
  { heldOut .controlled .vehicle .green with
    seq := { Sequencer.reset with
      queue := [⟨1, .fixed, false, 1, some 100⟩], current := true, phase := .fullGreen, stepTimer := 1 } }
def frozenService (r : Preempt) : State :=
  { heldOut .controlled .vehicle .green with
    pres := vset (heldOut .controlled .vehicle .green).pres 0 r, arb := { Arbiter.reset with holder := some 0 } }

theorem witness_Outage_resume :
    (∀ m ∈ [Mode.entryRed, .controlled, .clearingToFlash], m.isControl = true ∧
      ∀ i ∈ [Indication.amber, .redClear, .pedClear, .green],
        let s := heldOut m (if i = .pedClear then .pedestrian else .vehicle) i
        s.compat.owed = none ∧ s.unit.remembered = some m ∧ s.unit.outageTimer ≤ s.unit.shortOutage ∧
        s.unit.switchLevel = false ∧ s.unit.owedLinkLoss = false ∧ (s.chan 0).used = true ∧ (s.chan 0).held = some i) ∧
    (let s := heldOut .controlled .pedestrian .green
     (s.chan 0).held = some .green ∧ (s.chan 0).kind = .pedestrian ∧ ¬ (Mode.controlled = .controlled ∧ ¬ s.preemptsQuiet)) ∧
    (frozenStep.seq.current = true ∧ frozenStep.seq.phase = .fullGreen ∧ frozenStep.seq.transition = none ∧
      frozenStep.record = some ⟨1, .fixed, false, 1, some 100⟩ ∧ frozenStep.seq.force = false ∧ 0 < frozenStep.seq.stepTimer ∧
      frozenStep.preemptsQuiet) ∧
    (∀ r ∈ [{ Preempt.reset with state := .track, serviceTimer := 1 }, { Preempt.reset with state := .dwell, serviceTimer := 1 }],
      (frozenService r).arb.holder = some 0 ∧ ((frozenService r).pre 0).state ∈ [PreemptState.track, .dwell] ∧
      (frozenService r).seq.transition = none ∧ 0 < ((frozenService r).pre 0).serviceTimer ∧
      ∀ q, q ≠ 0 → ((frozenService r).pre q).state = .idle ∧ ((frozenService r).pre q).active = false) := by
  unfold State.preemptsQuiet
  decide +kernel

/-- A read in progress after a previous read, with the disagreement count. -/
def reading (old : Option PlugRead) (n : Nat) (k : PlugStatus) (s : State) : State :=
  { s with compat := { s.compat with previous := old, reading := some 127, disagreements := n, status := k } }

/-- R22: PLD in the first PCK period of a read, the first rising edge of PCK at 50 µs with cell 1 taken, none after the
128th. -/
theorem test_plug_lines : let c := Compat.reset
    [0, 49, 50].map c.pldAt = [true, true, false] ∧
    [49, 50, 6400, 6450].map (fun m => c.pckAt m false) = [false, true, true, false] ∧
    [0, 49, 50, 100].map c.cellsAt = [some 0, some 0, some 1, some 2] := by decide

theorem witness_PlugReadComplete :
    ({ State.reset with compat := { Compat.reset with reading := none } }).compat.reading = none ∧
    State.reset.compat.reading = some 0 ∧ State.reset.compat.previous = none ∧
    (let s := reading (some ⟨true, 1⟩) 4 .valid control
     let cells : BitVec 128 := 0b01001101#8 ++ 1#120
     s.compat.reading = some 127 ∧ s.compat.previous = some ⟨true, 1⟩ ∧ cells.extractLsb' 120 8 = 0b01001101#8 ∧
       cells.extractLsb' 0 120 = 1#120 ∧ s.compat.inUse ≠ 1#120 ∧ s.unit.mode.isControl = true) ∧
    (let s := reading (some ⟨false, 0⟩) 0 .valid control
     (0 : BitVec 128).extractLsb' 120 8 ≠ 0b01001101#8 ∧ s.compat.previous = some ⟨false, 0⟩ ∧ s.compat.status ≠ .absent) ∧
    (let s := reading (some ⟨true, 1⟩) 4 .valid control
     (0 : BitVec 128).extractLsb' 120 8 ≠ 0b01001101#8 ∧ s.compat.previous = some ⟨true, 1⟩ ∧ s.compat.disagreements = 4) := by
  decide +kernel

/-- The owed notice of an outage, for each clause, and a mode that drops it. -/
theorem witness_PlugReadComplete_outage :
    (let s := reading (some ⟨true, 1⟩) 4 .valid (inOutage .controlled)
     s.unit.mode = .powerOut ∧ s.standingMode.isControl = true ∧ s.compat.previous = some ⟨true, 1⟩ ∧
       s.compat.inUse ≠ 1#120 ∧ s.compat.disagreements = 4) ∧
    (let s := reading (some ⟨false, 0⟩) 0 .valid (inOutage .entryRed)
     s.standingMode.isControl = true ∧ s.compat.previous = some ⟨false, 0⟩ ∧ s.compat.status ≠ .absent) ∧
    (reading (some ⟨true, 1⟩) 4 .valid (inMode .localFlash)).unit.mode = .localFlash := by decide +kernel

/-! ### Witnesses: the events of one item -/

theorem witness_IntervalExpiry_clearances :
    (let s := set1 0 (channel .vehicle .amber 0) control
     s.unit.mode.isControl = true ∧ (s.chan 0).timer = 0 ∧ (s.chan 0).used = true ∧ (s.chan 0).ind = .amber ∧
       0 < (s.chan 0).pendingSet.redClear) ∧
    (let s := set1 2 { channel .pedestrian .pedClear 0 with pendingSet := { Timing.reset with redClear := 0 } } control
     s.unit.mode.isControl = true ∧ (s.chan 2).timer = 0 ∧ (s.chan 2).used = true ∧ (s.chan 2).ind = .pedClear ∧
       (s.chan 2).pendingSet.redClear = 0) := by decide +kernel

theorem witness_IntervalExpiry_others :
    (let s := set1 0 (channel .vehicle .redClear 0) (inMode .entryRed)
     s.unit.mode.isControl = true ∧ (s.chan 0).timer = 0 ∧ (s.chan 0).ind = .redClear ∧ s.unit.mode = .entryRed) ∧
    (let s := set1 2 (channel .pedestrian .green 0) control
     s.unit.mode.isControl = true ∧ (s.chan 2).timer = 0 ∧ (s.chan 2).kind = .pedestrian ∧ (s.chan 2).ind = .green ∧
       s.arb.holder = none ∧ ∀ p, (s.pre p).state = .idle ∧ (s.pre p).active = false) := by decide +kernel

/-- A tenth tick while an amber at 1 and at 0, a pedestrian clearance and a walk run, with no preempt asking. -/
theorem witness_IntervalExpiry_tick :
    (let s := set1 0 (channel .vehicle .amber 1) (set1 1 (channel .vehicle .amber 0)
        (set1 2 (channel .pedestrian .pedClear 1) (set1 3 (channel .pedestrian .green 70) control)))
     s.takesTenth .crystalTenth ∧ s.preemptsQuiet ∧
       ((match exec .crystalTenth s with | .next t => t.unit.mode | _ => .faultFlash) ≠ .faultFlash) ∧
       s.unit.mode.isControl = true ∧ (s.chan 0).timer = 0 + 1 ∧ (s.chan 1).timer = 0 ∧
       0 < (s.chan 1).pendingSet.redClear ∧ (s.chan 2).ind = .pedClear ∧ (s.chan 3).ind = .green) ∧
    State.reset.takesTenth .crystalTenth ∧ State.reset.unit.mode.isControl = false := by
  unfold State.takesTenth State.preemptsQuiet; decide +kernel

/-- CONTROLLED with the green timers of channel 1 as given, channel 2 calling. -/
def greenOf1 (g : Green) : State :=
  { control with greens := vset (vset control.greens 0 g) 1 { Green.reset with latch := true } }

theorem witness_GreenTimerEvents :
    (let s : State := { control with seq := { control.seq with queue := [⟨2, .fixed, false, 1, some 100⟩], stepTimer := 1 } }
     s.unit.mode = .controlled ∧ s.seq.current = true ∧ s.seq.phase = .fullGreen ∧
       s.record = some ⟨2, .fixed, false, 1, some 100⟩ ∧ s.seq.stepTimer = 1) ∧
    (let s := greenOf1 { Green.reset with initial := 1, gap := 1, maxTimer := 1 }
     s.unit.mode ≠ .powerOut ∧ (s.chan 0).kind = .vehicle ∧ (s.chan 0).ind = .green ∧ (s.green 0).initial = 1 ∧
       (∀ d, has (s.extends d) 0 = false) ∧ (s.green 0).gap = 1 ∧
       (∃ d, has s.serviceable d = true ∧ compatible s.compat.inUse 0 d = false) ∧ (s.green 0).maxTimer = 1) := by
  decide +kernel

/-- A tenth tick of CONTROLLED that leaves channel 1 GREEN and its FIXED step going on, and one of an outage. -/
theorem witness_GreenTimerEvents_tick :
    (let s : State := { greenOf1 { Green.reset with initial := 5, gap := 9, maxTimer := 2, clock := some 65535 } with
        seq := { control.seq with queue := [⟨2, .fixed, false, 1, some 100⟩, ⟨3, .actuated, false, 2, none⟩], stepTimer := 2 } }
     s.takesTenth .crystalTenth ∧ s.preemptsQuiet ∧ (s.chan 0).ind = .green ∧
       (match exec .crystalTenth s with | .next t => some ((t.chan 0).ind, t.unit.mode) | _ => none) = some (.green, .controlled) ∧
       s.seq.current = true ∧ s.seq.transition = none ∧ s.record = some ⟨2, .fixed, false, 1, some 100⟩ ∧
       s.seq.force = false ∧ 1 < s.seq.stepTimer ∧ (∀ d, has (s.extends d) 0 = false) ∧
       ∃ d, has s.serviceable d = true ∧ compatible s.compat.inUse 0 d = false) ∧
    (inOutage .controlled).takesTenth .crystalTenth ∧ (inOutage .controlled).unit.mode = .powerOut := by
  unfold State.takesTenth State.preemptsQuiet; decide +kernel

/-- `control` with channels 1 and 3 one tenth before their red fail. -/
def twoRedFails : State :=
  let dark : ChannelWatch := { ChannelWatch.reset with lastRed := .dark, redTimer := 14 }
  { control with mon := { control.mon with channels := vset (vset control.mon.channels 0 dark) 2 dark } }

/-- R132: the row of channel 3 finds channel 1 failing at the same tick, which writes the record; channel 3 marks it. -/
theorem test_red_fail_together : (match exec (.redFail 2) twoRedFails with
    | .next t => t.mon.record
    | _ => none) = some ⟨.redFail, 1, 0, twoRedFails.time.tenth, .controlled, true⟩ := by decide +kernel

/-- The other channel of the record's clause: two channels fail together, channel 1 the lower. -/
theorem witness_UnitEvents_together :
    twoRedFails.mon.record = none ∧ maskOf twoRedFails.redFailsNext = 0b101#16 ∧ (0 : Chan) ≤ 2 := by decide +kernel

theorem witness_UnitEvents :
    (let s : State := { State.reset with unit := { UnitState.reset with startFlashTimer := 1 } }
     s.unit.mode = .startFlash ∧ s.unit.startFlashTimer = 1) ∧
    (let s : State := { inMode .entryRed with unit := { (inMode .entryRed).unit with entryRedTimer := 1 } }
     s.unit.mode = .entryRed ∧ s.unit.entryRedTimer = 1) ∧
    (let s : State := { control with mon := { control.mon with
        channels := vset control.mon.channels 0 { ChannelWatch.reset with lastRed := .dark, redTimer := 14 } } }
     s.unit.mode.isControl = true ∧ (s.chan 0).used = true ∧ (s.chan 0).redMonitor = true ∧ s.time.category = .normal ∧
       (s.mon.channels.get 0).lastRed = .dark ∧ (s.mon.channels.get 0).redTimer + 1 = s.mon.redFailTime ∧
       s.mon.record = none) ∧
    ((switchAt9 false control).unit.switchRun = 9 ∧ (switchAt9 false control).unit.switchLevel = false ∧
      (switchAt9 false control).unit.mode = .controlled) ∧
    ((switchAt9 true control).unit.switchRun = 9 ∧ (switchAt9 true control).unit.mode ≠ .clearingToFlash) := by
  decide +kernel

/-- LOCAL_FLASH with detector 1 as given. -/
def detector1 (r : Detector) : State := { inMode .localFlash with dets := vset (inMode .localFlash).dets 0 r }

theorem witness_DetectorLevelChange :
    (((detector1 { Detector.reset with run := 2 }).det 0).run = 2 ∧
      ((detector1 { Detector.reset with run := 2 }).det 0).mode = .off) ∧
    (let s := set1 2 (channel .pedestrian .dark 0) (detector1 { Detector.reset with mode := .pulse, run := 2, window := 8, callMask := 4 })
     (s.det 0).mode = .pulse ∧ (s.det (partner 0)).mode ≠ .pair ∧ (s.det 0).level = false ∧
       s.unit.mode ≠ .controlled ∧ has (s.det 0).callMask 2 = true ∧ (s.chan 2).used = true ∧ s.shown 2 ≠ .green) ∧
    (let s := detector1 { Detector.reset with mode := .presence, run := 2, level := true, fault := .stuckOn }
     (s.det 0).mode = .presence ∧ (s.det 0).level = true ∧ (s.det 0).run = 2) := by decide +kernel

/-- Detectors 1 and 2 a pair in a direction state, detector 2 at a level, both on the point of turning. -/
def pair (k : Direction) (lag : Bool) : State :=
  let s := detector1 { Detector.reset with
    mode := .pair, run := 2, level := true, direction := k, wrongWay := true, extendMask := 1 }
  { set1 0 (channel .vehicle .flash 0) s with
    dets := vset s.dets 1 { Detector.reset with mode := .pair, run := 2, level := lag } }

theorem witness_DetectorLevelChange_pair :
    (isLead 0 = true ∧ ((pair .leadOn false).det 0).mode = .pair ∧
      (pair .leadOn false).turns (.detectorLevelChange 1) (partner 0) = true ∧
      (pair .reverse false).turns (.scanTick 0 0 false) 0 = true ∧ ((pair .reverse false).det 0).wrongWay = true) ∧
    (∃ t, exec (.scanTick 0 0 false) (pair .reverse false) = .next t) ∧
    (let s := pair .leadOn false
     (1 : Det) = partner 0 ∧ (s.det 0).direction = .leadOn ∧ (s.det 1).level = false ∧ has (s.det 0).extendMask 0 = true ∧
       (s.chan 0).kind = .vehicle ∧ s.shown 0 ≠ .green ∧
       (match exec (.detectorLevelChange 1) s with
         | .next t => some ((t.det 0).fault, (t.det 1).fault, (t.chan 0).ind) | _ => none) = some (.ok, .ok, .flash)) := by
  refine ⟨by decide +kernel, ⟨_, rfl⟩, by decide +kernel⟩

/-- CONTROLLED with tone line 1 on channel 3 with detector 1 as its button. -/
def buttoned (confirm : Nat) : State :=
  let s := tone none none confirm .none 0
  let s := { s with tones := vset s.tones 0 { s.line 0 with button := some 0 } }
  { s with dets := vset s.dets 0 { Detector.reset with run := 2 } }

theorem witness_DetectorLevelChange_confirm :
    let s := buttoned 0
    (s.line 0).channel = some 2 ∧ (s.line 0).button = some 0 ∧ (s.det 0).level = false ∧ (s.det 0).run = 2 ∧
    s.lineActive 0 = true ∧ (s.chan 2).ind ≠ .green ∧ (s.line 0).confirmTimer = 0 ∧ (buttoned 1).line 0 ≠ s.line 0 ∧
    (match exec (.detectorLevelChange 0) s with
      | .next t => some ((t.chan 2).ind, t.unit.mode) | _ => none) = some ((s.chan 2).ind, s.unit.mode) := by decide +kernel

theorem witness_DetectorTimerEvents_ticks :
    (let s := set1 2 (channel .pedestrian .dark 0) (detector1
      { Detector.reset with mode := .presence, level := true, delay := 5, delayTimer := 4, locking := true, callMask := 4 })
     s.detOccupied 0 = true ∧ (s.det 0).delayTimer + 1 = (s.det 0).delay ∧ (s.det 0).locking = true ∧
       s.detFaulted 0 = false ∧ (s.det 0).mode ≠ .pair ∧ s.unit.mode ≠ .controlled) ∧
    (let s := detector1 { Detector.reset with mode := .presence, level := true, maxPresence := 255, presence := 153000 }
     (s.det 0).mode ≠ .off ∧ (s.det 0).fault = .ok ∧ (s.det 0).level = true ∧ (s.det 0).maxPresence ≠ 0 ∧
       (s.det 0).presence = (s.det 0).maxPresence * 600 ∧ (s.det 0).maxPresence ≤ 255) ∧
    (let s := detector1 { Detector.reset with mode := .pulse, maxAbsence := 1, absence := 600 }
     (s.det 0).mode ≠ .off ∧ (s.det 0).fault = .ok ∧ (s.det 0).level = false ∧ (s.det 0).maxAbsence ≠ 0 ∧
       (s.det 0).absence = (s.det 0).maxAbsence * 600 ∧ (s.det 0).maxAbsence ≤ 255) := by decide +kernel

theorem witness_DetectorTimerEvents_chatter :
    (let s := detector1 { Detector.reset with mode := .pulse, run := 2, window := 9 }
     (s.det 0).mode ≠ .off ∧ (s.det 0).fault = .ok ∧ (s.det 0).level = false ∧ (s.det 0).run = 2 ∧
       (s.det 0).window < 255 ∧ (s.det 0).chatterLimit = (s.det 0).window + 1) ∧
    (let s : State := { detector1 { Detector.reset with mode := .pulse, fault := .chatter, window := 9, cleanRun := 9 } with
      time := { Timebase.reset with tenth := 9 } }
     (s.time.tenth + 1).toNat % 10 = 0 ∧ (s.det 0).mode ≠ .off ∧ (s.det 0).fault = .chatter ∧
       (s.det 0).window < (s.det 0).chatterLimit ∧ (s.det 0).cleanRun = 9) ∧
    ((detector1 { Detector.reset with mode := .pulse, fault := .chatter, window := 10 }).det 0).chatterLimit ≤ 10 := by
  decide +kernel

/-- A state with preempt 1 as given. -/
def preempt1 (r : Preempt) (s : State) : State := { s with pres := vset s.pres 0 r }

theorem witness_PreemptEvents_inputs :
    (let s := preempt1 { Preempt.reset with run := 2, cfg := { PreemptConfig.reset with enable := true, delay := 1 } } control
     (s.pre 0).run = 2 ∧ s.arb.holder ≠ some 0 ∧ (s.pre 0).state = .idle ∧ (s.pre 0).level = false ∧
       (s.pre 0).cfg.enable = true ∧ (s.pre 0).stuck = false ∧ 0 < (s.pre 0).cfg.delay) ∧
    (let s := preempt1 { Preempt.reset with run := 2, level := true, state := .delaying, delayTimer := 1 } control
     (s.pre 0).run = 2 ∧ s.arb.holder ≠ some 0 ∧ (s.pre 0).state = .delaying ∧ (s.pre 0).level = true) ∧
    (let s := preempt1 { Preempt.reset with
        level := true, state := .delaying, presence := 153000, cfg := { PreemptConfig.reset with maxPresence := 255 } } control
     (s.pre 0).level = true ∧ (s.pre 0).stuck = false ∧ (s.pre 0).cfg.maxPresence ≤ 255 ∧
       (s.pre 0).presence = (s.pre 0).cfg.maxPresence * 600) := by decide +kernel

theorem witness_PreemptEvents_service :
    (let s := preempt1 { Preempt.reset with
        level := true, state := .delaying, delayTimer := 1, cfg := { PreemptConfig.reset with enable := true, delay := 1 } }
        (inMode .localFlash)
     s.unit.mode ≠ .powerOut ∧ (s.pre 0).state = .delaying ∧ (s.pre 0).active = true ∧ (s.pre 0).cfg.enable = true ∧
       (s.pre 0).delayTimer = 1 ∧ s.unit.mode ≠ .controlled) ∧
    (let s : State := { preempt1 { Preempt.reset with state := .track, serviceTimer := 1 } control with
      arb := { Arbiter.reset with holder := some 0 } }
     s.unit.mode = .controlled ∧ s.arb.holder = some 0 ∧ (s.pre 0).serviceTimer = 1 ∧ (s.pre 0).state = .track) ∧
    (let s : State := { preempt1 { Preempt.reset with state := .dwell, serviceTimer := 1 } control with
      arb := { Arbiter.reset with holder := some 0 } }
     (s.pre 0).state = .dwell ∧ s.seq.transition = none ∧ (s.pre 0).active = false) := by decide +kernel

/-- A tenth tick while a request delays and while a TRACK goes on. -/
theorem witness_PreemptEvents_tick :
    (let s := preempt1 { Preempt.reset with
        level := true, state := .delaying, delayTimer := 2, cfg := { PreemptConfig.reset with enable := true, delay := 2 } } control
     s.takesTenth .crystalTenth ∧ s.arb.holder ≠ some 0 ∧ (s.pre 0).state = .delaying ∧ (s.pre 0).cfg.enable = true ∧
       1 < (s.pre 0).delayTimer ∧
       (match exec .crystalTenth s with | .next t => some ((t.pre 0).active, t.unit.mode) | _ => none) = some (true, .controlled)) ∧
    (let s : State := { preempt1 { Preempt.reset with state := .track, serviceTimer := 2 } control with
      arb := { Arbiter.reset with holder := some 0 } }
     s.takesTenth .crystalTenth ∧ s.unit.mode = .controlled ∧ s.arb.holder = some 0 ∧ (s.pre 0).state = .track ∧
       1 < (s.pre 0).serviceTimer ∧ (∀ q, q ≠ 0 → (s.pre q).state = .idle ∧ (s.pre q).active = false) ∧
       (match exec .crystalTenth s with | .next t => t.unit.mode | _ => .faultFlash) = .controlled) := by
  unfold State.takesTenth; decide +kernel

/-- R165, Table 10-2: level 5 of code 3 is high for five sixteenths of each period of 1000 Hz. -/
theorem test_tone_output : let l : ToneLine := { ToneLine.reset with sounding := .locator, level := 5, frequency := 3 }
    l.output = some (1000, 5) ∧ [4, 5, 15, 16].map l.outputAt = [true, false, false, true] := by decide

theorem witness_ToneEvents :
    ((tone (some 999) none 0 .none 0).lineActive 0 = true ∧ ((tone (some 999) none 0 .none 0).line 0).locatorCycle = some 999) ∧
    (((tone none (some 99) 0 .none 0).line 0).walkCycle = some 99 ∧ (tone none (some 99) 0 .none 0).lineActive 0 = true) ∧
    (((tone (some 5) none 1 .confirm 9).line 0).confirmTimer = 1 ∧ (tone (some 5) none 1 .confirm 9).lineActive 0 = true) ∧
    (((tone (some 999) none 1 .confirm 9).line 0).locatorCycle = some 999 ∧ (tone (some 999) none 1 .confirm 9).lineActive 0 = true) := by
  decide +kernel

/-- R170: the confirm that ends at the millisecond of the tick does not suppress it. -/
theorem test_tick_at_confirm_end : (match exec (.locatorTick 0) (tone (some 999) none 1 .confirm 9) with
    | .next t => some ((t.line 0).sounding, (t.line 0).confirmTimer) | _ => none) = some (.locator, 0) := by decide +kernel

/-- A chain of eight modules, module 1 tied to channel 1. -/
def chain (timer : Nat) (start shifting : Bool) (s : State) : State :=
  { s with
    signs := { s.signs with
      count := 8, timer := timer, pendingExchange := start, shifting := shifting
      buffer := if shifting then 0x5AA5#16 :: List.replicate 8 1 else []
      modules := vset (vset s.signs.modules 0 { SignModule.reset with
          latched := some 5, entry := { SignEntry.reset with source := some 0, display := true } })
        1 { SignModule.reset with latched := some 0x8000#16, entry := { SignEntry.reset with display := true } } } }

/-- The nine words of a whole exchange: eight statuses that show message 5, then the marker. -/
def wholeExchange : Vector Word 9 := Vector.ofFn (fun i => if i.val = 8 then 0x5AA5#16 else 0xA005#16)

theorem witness_SignExchange_start :
    (0 < (chain 1 false false control).signs.count ∧ (chain 1 false false control).unit.mode ≠ .powerOut ∧
      (chain 1 false false control).signs.timer = 1) ∧
    ((chain 5 true false control).signs.pendingExchange = true ∧ (chain 5 true false control).signs.shifting = false ∧
      (chain 5 true false control).signs.count ≤ 8) ∧
    (((chain 5 true false control).signs.modules.get 0).entry.source = some 0 ∧
      ((chain 5 true false control).signs.modules.get 1).entry.source = none ∧
      ((chain 5 true false control).signs.modules.get 1).entry.display = true ∧
      ((chain 5 true false control).signs.modules.get 2).entry.display = false) := by decide +kernel

/-- The lines of an exchange: a chain of eight that shifts, with a gap of 8, a whole and a broken exchange. -/
theorem witness_SignExchange_lines :
    ((chain 5 false true control).signs.shifting = true ∧ (chain 5 false true control).signs.count = 8) ∧
    ({ (chain 5 false true control).signs with gap := 8 } : Signs).gap = 8 ∧
    whole 8 wholeExchange = true ∧ whole 8 (Vector.replicate 9 0) = false := by decide +kernel

/-- R174: with N = 8 and G = 64 an exchange lasts 657 bit times, and 89 with N = 3 and G = 8 (11.7). -/
theorem test_exchange_time :
    ({ (chain 5 false true control).signs with gap := 64 } : Signs).exchangeTime wholeExchange = 657 ∧
    ({ Signs.reset with count := 3, gap := 8 } : Signs).exchangeTime
      (Vector.ofFn (fun i => if i.val = 3 then 0x5AA5#16 else 0xA000#16)) = 89 := by decide +kernel

/-- R174: SDO gives the marker 0x5AA5 most significant bit first in the first sixteen bit times; SCK rests in the gap of 8
after them; and the shift of nine words with eight gaps of 8 ends at bit time 208, where SLAT is raised. -/
theorem test_marker_on_the_chain :
    let g : Signs := { (chain 5 false true control).signs with gap := 8 }
    (List.range 16).map g.sdoAt = [false, true, false, true, true, false, true, false,
      true, false, true, false, false, true, false, true] ∧
    g.sckAt 15 true = true ∧ g.sckAt 16 true = false ∧ g.sckAt 24 true = true ∧
    [207, 208, 209].map (g.slatAt wholeExchange) = [false, true, false] := by decide +kernel

theorem witness_SignExchange_end :
    ((chain 5 false true control).signs.shifting = true ∧ (chain 5 false true control).signs.count ≤ 8) ∧
    (wholeExchange.toList.getD 8 0 = 0x5AA5#16 ∧
      ∀ p : Fin 8, (wholeExchange.toList.getD p.val 0).extractLsb' 13 3 = 0b101#3) ∧
    ((Vector.replicate 9 (0 : Word)).toList.getD 8 0 ≠ 0x5AA5#16) ∧
    (((chain 5 false true control).signs.modules.get 0).latched = some 5 ∧ (5 : Word).getLsbD 15 = false ∧
      (0xA005#16 : Word).extractLsb' 0 6 = (5 : Word).extractLsb' 0 6) ∧
    ((chain 5 false true control).signs.modules.get 1).latched = some 0x8000#16 ∧
    ((chain 5 false true control).signs.modules.get 2).latched = none := by decide +kernel

/-! ### Witnesses: the commands of the host -/

/-- The reset state, any state in a mode and `control` have a free link: the premise of every accepted command. -/
theorem witness_linkFree : State.reset.linkFree ∧ control.linkFree ∧ ∀ m, (inMode m).linkFree :=
  ⟨⟨rfl, rfl, rfl⟩, ⟨rfl, rfl, rfl⟩, fun _ => ⟨rfl, rfl, rfl⟩⟩

/-- O35 holds at reset, whose link is free. -/
theorem witness_IdentifyAndStatus : State.reset.linkFree := witness_linkFree.1

/-- O37 at reset, with the two values of the dim byte that are no refusal. -/
theorem witness_SettingCommands : State.reset.linkFree ∧ ((0#8 : Byte) = 0 ∨ (0#8 : Byte) = 1) ∧
    ((1#8 : Byte) = 0 ∨ (1#8 : Byte) = 1) :=
  ⟨witness_linkFree.1, .inl rfl, .inr rfl⟩

theorem witness_ReadCommands : (1 ≤ (16#8 : Byte).toNat ∧ (16#8 : Byte).toNat ≤ 16) ∧
    (1 ≤ (21#8 : Byte).toNat ∧ 1 ≤ (4#8 : Byte).toNat ∧ (4#8 : Byte).toNat ≤ 4 ∧
      (21#8 : Byte).toNat + (4#8 : Byte).toNat ≤ 25) := by decide

theorem witness_SetChannel :
    (recallSuits .vehicle .max = true ∧ State.reset.standingMode.isControl = false ∧
      ChannelType.vehicle ≠ (State.reset.chan 0).kind) ∧
    (let s := set1 3 (channel .vehicle .flash 0) (inMode .localFlash)
     recallSuits .unused .none = true ∧ s.standingMode.isControl = false ∧ (∀ x ∈ s.seq.queue, has x.greenSet 3 = false) ∧
       ∀ p, has (s.pre p).cfg.trackSet 3 = false ∧ has (s.pre p).cfg.dwellSet 3 = false) ∧
    (recallSuits .vehicle .min = true ∧ (control.chan 0).kind = .vehicle ∧ control.unit.mode.isControl = true) := by
  decide +kernel

/-- Rows that mark the pair (1, 16) compatible and set one bit of the diagonal. -/
def rows116 : Vector ChanSet 16 := vset (vset (Vector.replicate 16 0) 0 0x8001#16) 15 1

theorem witness_LoadCompatibility : State.reset.standingMode.isControl = false ∧
    ∀ i j : Chan, i ≠ j → has (rows116.get i) j = has (rows116.get j) i := by decide +kernel

/-- CONTROLLED with a queue of fifteen records. -/
def fifteen : State :=
  { control with seq := { control.seq with queue := List.replicate 15 ⟨1, .actuated, false, 1, none⟩, nextSerial := 65535 } }

theorem witness_QueueStep : fifteen.linkFree ∧ fifteen.seq.queue.length < 16 ∧
    (∀ c, has (1 : ChanSet) c = true → (fifteen.chan c).used = true) ∧
    (∀ i j, has (1 : ChanSet) i = true → has (1 : ChanSet) j = true → compatible fifteen.compat.inUse i j = true) :=
  ⟨⟨rfl, rfl, rfl⟩, by decide, by decide +kernel, by decide +kernel⟩

theorem witness_QueueControls : (control.seq.current = true ∧ control.record = some ⟨1, .actuated, false, 1, none⟩) ∧
    State.reset.seq.current = false ∧ State.reset.seq.mode = .single ∧
    ({ control with seq := { control.seq with mode := .cycle, position := 1 } }).seq.mode = .cycle ∧
    (control.unit.mode = .controlled ∧ control.arb.holder = none) ∧ State.reset.unit.mode ≠ .controlled := by decide

theorem witness_PlaceCall : (∃ c, has (0x8000#16 : ChanSet) c = true ∧ (control.chan c).kind = .unused) ∧
    ∀ c, has (3#16 : ChanSet) c = true → (control.chan c).kind ≠ .unused := by decide +kernel

/-- The fields of a SET DETECTOR for a detector number and a mode. -/
def detectorFields (n mode : Byte) : DetectorFields := ⟨n, mode, 1, 1, 5, 0, 1, 1, 51, 0, 0⟩

theorem witness_SetDetector :
    ((detectorFields 1 3).number = u8 ((0 : Det).val + 1) ∧ (detectorFields 1 3).mode = DetectorMode.pair.code ∧
      (detectorFields 1 3).failAction = FailAction.placeRecall.code ∧ (detectorFields 1 3).locking = flagByte false ∧
      (detectorFields 1 3).wrongWay = flagByte false ∧ isLead 0 = true) ∧
    ((detectorFields 24 2).number = u8 ((23 : Det).val + 1) ∧ (detectorFields 24 2).mode = DetectorMode.pulse.code ∧
      isLead 23 = false ∧ DetectorMode.pulse ≠ .pair ∧ (State.reset.det (partner 23)).mode ≠ .pair) ∧
    ((detector1 { Detector.reset with mode := .pair, fault := .chatter }).det 0).mode = .pair := by decide +kernel

/-- The fields of a SET PREEMPT 1 with its enable, its delay and a track set. -/
def preemptFields (enable delay : Byte) (track : ChanSet) : PreemptFields :=
  ⟨1, 3, delay, 0, 50, 0, 50, track, 2551, 2, 9, 0, 0, enable⟩

theorem witness_SetPreempt :
    let s := preempt1 { Preempt.reset with level := true } control
    let f := preemptFields 1 1 1
    (f.number = u8 ((0 : Pre).val + 1) ∧ f.locking = flagByte false ∧ f.pedTruncate = flagByte false ∧
      f.exitKind = ExitKind.resume.code ∧ f.enable = flagByte true ∧ f.priority.toNat ≤ 3) ∧
    (∀ c, has f.trackSet c = true ∨ has f.dwellSet c = true → (s.chan c).used = true) ∧
    (s.pre 0).state ∈ [PreemptState.idle, .delaying, .pending] ∧ s.arb.holder ≠ some 0 ∧
    (∀ i j, has f.trackSet i = true → has f.trackSet j = true → compatible s.compat.inUse i j = true) ∧
    (∀ i j, has f.dwellSet i = true → has f.dwellSet j = true → compatible s.compat.inUse i j = true) ∧
    (s.pre 0).active = true ∧ 0 < f.delay.toNat ∧ (preemptFields 0 1 1).enable = flagByte false ∧
    ((preemptFields 1 0 1).delay = 0 ∧ (preemptFields 1 0 1).enable = flagByte true ∧ (inMode .localFlash).unit.mode ≠ .controlled) ∧
    ((preempt1 { Preempt.reset with state := .delaying, level := true } control).pre 0).state ∈
      [PreemptState.delaying, .pending] := by decide +kernel

/-- LOCAL_FLASH with nothing in the way of control: channel 1 a vehicle, the plug VALID and matched, one record queued. -/
def readyForControl : State :=
  let s := set1 0 (channel .vehicle .flash 0) (inMode .localFlash)
  { s with
    compat := { s.compat with status := .valid, isMatch := true, hostCopy := some 0 }
    seq := { s.seq with queue := [⟨1, .actuated, false, 1, none⟩] }
    time := { s.time with category := .normal } }

theorem witness_ModeCommands_enterControl :
    (readyForControl.unit.mode = .startFlash ∨ readyForControl.unit.mode = .localFlash) ∧
    ¬ (readyForControl.unit.mode = .startFlash ∧ 0 < readyForControl.unit.startFlashTimer) ∧
    ¬ readyForControl.compat.status ≠ .valid ∧ ¬ readyForControl.compat.isMatch = false ∧ ¬ readyForControl.seq.queue = [] ∧
    ¬ readyForControl.unit.switchLevel = true ∧
    ¬ (readyForControl.time.category ≠ .normal ∧ readyForControl.time.category ≠ .high) ∧
    (¬ ∀ c, (readyForControl.chan c).used = false) ∧
    (¬ ∃ o, (readyForControl.chan (outputChan o)).used = true ∧ (readyForControl.mon.lamps.get o).status = .switchOn) ∧
    (State.reset.unit.mode = .startFlash ∧ 0 < State.reset.unit.startFlashTimer) ∧
    (control.unit.mode ≠ .startFlash ∧ control.unit.mode ≠ .localFlash) := by decide +kernel

theorem witness_ModeCommands_others :
    (inMode .entryRed).unit.mode = .entryRed ∧ control.unit.mode = .controlled ∧
    (inMode .clearingToFlash).unit.mode = .clearingToFlash ∧ (inMode .localFlash).unit.mode = .localFlash ∧
    (let s := set1 0 (channel .vehicle .dark 0) State.reset
     s.unit.mode = .startFlash ∧ ∃ c, (s.chan c).used = true) ∧
    (State.reset.unit.mode = .startFlash ∧ ∀ c, (State.reset.chan c).used = false) ∧
    ((inMode .faultFlash).unit.mode = .faultFlash ∧ (inMode .faultFlash).compat.status ≠ .valid) ∧
    (let s : State := { inMode .faultFlash with compat := { Compat.reset with status := .valid } }
     s.unit.mode = .faultFlash ∧ s.compat.status = .valid) ∧
    (inOutage .controlled).unit.mode = .powerOut := by decide +kernel

theorem witness_ToneAndSignCommands :
    (let f : ToneFields := ⟨8, 3, 24, 7, 8, 0, 1⟩
     f.number = u8 ((7 : Line).val + 1) ∧ f.channel = bindingCode (some (2 : Chan)) ∧
       f.button = bindingCode (some (23 : Det)) ∧ f.frequency.toNat ≤ 7 ∧ (control.chan 2).kind = .pedestrian ∧
       control.unit.mode.isControl = true) ∧
    (let f : SignFields := ⟨8, 16, 1, 63, 63, 63, 4, 0⟩
     f.entry = u8 ((7 : Fin 8).val + 1) ∧ f.source = bindingCode (some (15 : Chan)) ∧ f.message.toNat ≤ 63 ∧
       f.messageGreen.toNat ≤ 63 ∧ f.messageOther.toNat ≤ 63) ∧
    ((8#8 : Byte).toNat ≤ 8 ∧ (64#8 : Byte).toNat ∈ [0, 1, 2, 4, 8, 16, 32, 64]) ∧
    (State.reset.signs.count = (0#8 : Byte).toNat ∧ State.reset.signs.period = max 2 (5#8 : Byte).toNat ∧
      State.reset.signs.gap = (0#8 : Byte).toNat) ∧ State.reset.signs.count ≠ (8#8 : Byte).toNat ∧
    ((chain 5 false true control).linkFree ∧ (chain 5 false true control).signs.count ≠ (0#8 : Byte).toNat ∧
      (chain 5 false true control).signs.shifting = true) := by unfold State.linkFree; decide +kernel

theorem witness_RefusedCommands_setChannel :
    (16 < (17#8 : Byte).toNat) ∧ (2 < (3#8 : Byte).toNat) ∧ recallSuits .pedestrian .max = false ∧
    (recallSuits .vehicle .none = true ∧ ChannelType.vehicle ≠ (control.chan 2).kind ∧ control.standingMode.isControl = true) ∧
    ((readyForControl.standingMode.isControl = false) ∧ ∃ x ∈ readyForControl.seq.queue, has x.greenSet 0 = true) := by
  decide +kernel

theorem witness_RefusedCommands_queue :
    (control.standingMode.isControl = true) ∧
    (State.reset.standingMode.isControl = false ∧
      has ((vset (Vector.replicate 16 (0 : ChanSet)) 0 2).get 0) 1 ≠ has ((vset (Vector.replicate 16 (0 : ChanSet)) 0 2).get 1) 0) ∧
    (let s : State := { control with seq := { control.seq with queue := List.replicate 16 ⟨1, .actuated, false, 1, none⟩ } }
     16 ≤ s.seq.queue.length) ∧
    (control.seq.queue.length < 16 ∧ has (8 : ChanSet) 3 = true ∧ (control.chan 3).used = false) ∧
    ((∀ c, has (3 : ChanSet) c = true → (control.chan c).used = true) ∧ has (3 : ChanSet) 0 = true ∧ has (3 : ChanSet) 1 = true ∧
      compatible control.compat.inUse 0 1 = false) ∧
    1 < (2#8 : Byte).toNat ∧ (0#8 : Byte).toNat = 0 := by decide +kernel

theorem witness_RefusedCommands_detectors :
    (24 < (detectorFields 25 0).number.toNat) ∧
    ((detectorFields 2 3).number = u8 ((1 : Det).val + 1) ∧ isLead 1 = false ∧ (detectorFields 2 3).mode = 3) ∧
    (((detector1 { Detector.reset with mode := .pair }).det (partner 1)).mode = .pair) ∧
    (25 < (22#8 : Byte).toNat + (4#8 : Byte).toNat) := by decide +kernel

theorem witness_RefusedCommands_preempts :
    4 < ({ preemptFields 0 0 0 with number := 5 }).number.toNat ∧
    (∃ c, (has (preemptFields 0 0 8).trackSet c = true ∨ has (preemptFields 0 0 8).dwellSet c = true) ∧ (control.chan c).used = false) ∧
    (∀ c, has (preemptFields 1 1 3).trackSet c = true ∨ has (preemptFields 1 1 3).dwellSet c = true → (control.chan c).used = true) ∧
    ((preempt1 { Preempt.reset with state := .dwell } control).pre 0).serving = true ∧ (control.pre 0).serving = false ∧
    (compatible control.compat.inUse 0 1 = false ∧ has (preemptFields 1 1 3).trackSet 0 = true ∧
      has (preemptFields 1 1 3).trackSet 1 = true) := by decide +kernel

theorem witness_RefusedCommands_others :
    (4 < (5#8 : Byte).toNat) ∧ ((49#8 : Byte) ≠ 0 ∧ (49#8 : Byte) ≠ 50 ∧ (49#8 : Byte) ≠ 60) ∧
    ((1#8 : Byte) = u8 ((0 : Chan).val + 1) ∧ (control.chan 0).kind ≠ .pedestrian) ∧
    (8 < (9#8 : Byte).toNat ∧ (3#8 : Byte).toNat ∉ [0, 1, 2, 4, 8, 16, 32, 64]) ∧ 63 < (64#8 : Byte).toNat ∧
    (commandLength 0x20#8 = some 6 ∧ ([] : List Byte).length ≠ 6) := by decide

/-! ### Witnesses: what every step keeps -/

theorem witness_RelayAndDarkKept : control.RelaySafe ∧ control.DarkSafe ∧ (inOutage .faultFlash).RelaySafe ∧
    (inOutage .faultFlash).DarkSafe ∧ ∃ t, exec .millisecond control = .next t :=
  ⟨rfl, ⟨by decide, by decide, by decide⟩, rfl, ⟨by decide, by decide +kernel, by decide +kernel⟩, _, rfl⟩

theorem witness_OutageKept : (inOutage .controlled).OutageSafe ∧ control.OutageSafe ∧
    ∃ t, exec .millisecond (inOutage .controlled) = .next t :=
  ⟨⟨by decide, fun _ => ⟨.controlled, rfl, by decide⟩, by decide⟩,
    ⟨by decide, fun h => absurd h (by decide), by decide⟩, _, rfl⟩

theorem witness_QueueKept : control.QueueSafe ∧ fifteen.QueueSafe ∧ ∃ t, exec .crystalTenth control = .next t :=
  ⟨⟨by decide, by decide +kernel⟩, ⟨by decide, by decide +kernel⟩, _, rfl⟩

/-- Preempt 1 in DWELL, holding the slot. -/
def dwelling : State :=
  { preempt1 { Preempt.reset with state := .dwell, serviceTimer := 9 } control with arb := { Arbiter.reset with holder := some 0 } }

theorem witness_SlotKept : dwelling.SlotSafe ∧ (dwelling.pre 0).serving = true ∧ ∃ t, exec .crystalTenth dwelling = .next t :=
  ⟨by unfold State.SlotSafe; decide +kernel, by decide +kernel, _, rfl⟩

theorem witness_LatchAndMatchKept : (greenOf1 Green.reset).LatchSafe ∧ (greenOf1 Green.reset).MatchSafe ∧
    ∃ t, exec .crystalTenth (greenOf1 Green.reset) = .next t :=
  ⟨by unfold State.LatchSafe; decide +kernel, by unfold State.MatchSafe; decide, _, rfl⟩

theorem witness_SettingsKept : (sixteenth 2700 State.reset).SettingsSafe ∧
    (∃ t, exec (.supplySample 180) (sixteenth 2700 State.reset) = .next t) ∧
    State.reset.ChainSafe ∧ State.reset.signs.count = 0 ∧ ∃ t, exec .signPeriodExpiry State.reset = .next t :=
  ⟨settingsSafe_sixteenth 2700, ⟨_, rfl⟩, by unfold State.ChainSafe; decide, rfl, _, rfl⟩

theorem witness_ReleaseKept : control.ReleaseSafe ∧ (control.chan 0).ind.released = true ∧
    ∃ t, exec .crystalTenth control = .next t :=
  ⟨⟨by decide, by decide +kernel, by decide, by decide⟩, by decide +kernel, _, rfl⟩

theorem witness_FirstFaultKept :
    let r : FaultRecord := ⟨.conflict, 1, 2, 5, .controlled, false⟩
    let s : State := { inMode .faultFlash with
      mon := { Monitor.reset with record := some r }, compat := { Compat.reset with status := .valid } }
    (∀ straps, Instr.resetFault 7 ≠ .hardwareReset straps) ∧ s.mon.record = some r ∧ ∃ t, exec (.resetFault 7) s = .next t :=
  ⟨by simp, rfl, _, rfl⟩

theorem witness_AmberRunsFull :
    let s := set1 0 (channel .vehicle .amber 1) control
    (∀ straps, Instr.crystalTenth ≠ .hardwareReset straps) ∧ s.unit.mode.isControl = true ∧ (s.chan 0).used = true ∧
      (s.chan 0).ind = .amber ∧ (s.chan 0).timer = 0 + 1 ∧ ∃ t, exec .crystalTenth s = .next t :=
  ⟨by simp, by decide, by decide +kernel, by decide +kernel, by decide +kernel, _, rfl⟩

/-! ### Witnesses: the rules of the blocks -/

/-- TBR 10 and TTR 20: the clock at 10, at 11 and 29, and at 30. -/
theorem witness_GreenTimingArithmetic :
    let a : Timing := { Timing.reset with tbr := 10, ttr := 20, minGap := 10 }
    a.InRange ∧ 10 ≤ a.tbr ∧ (a.tbr < 11 ∧ 11 < a.tbr + a.ttr) ∧ (a.tbr < 29 ∧ 29 < a.tbr + a.ttr) ∧
      (a.tbr < 30 ∧ a.tbr + a.ttr ≤ 30) ∧ a.minGap < a.maxGap ∧ Timing.reset.minGap = Timing.reset.maxGap :=
  ⟨by constructor <;> decide, by decide⟩

theorem witness_EligibleNextStep : (control.seq.mode = .single ∧ control.seq.position = 0 ∧ control.eligible = some 1) ∧
    (let s : State := { control with seq := { control.seq with mode := .cycle, position := 1 } }
     s.seq.mode = .cycle ∧ s.seq.position < s.seq.queue.length ∧ s.eligible = some 0) := by decide +kernel

/-- CONTROLLED at the end of a step of a termination mode: its initial green, gap and step timer at 0 and its minimum green
shown, channel 2 with a call. -/
def ending (k : Termination) (force : Bool) : State :=
  { control with
    greens := vset (vset control.greens 0 { Green.reset with elapsed := 100 }) 1 { Green.reset with latch := true }
    seq := { control.seq with
      queue := [⟨1, k, false, 1, none⟩, ⟨2, .fixed, false, 2, some 100⟩], force := force } }

theorem witness_EligibleNextStep_ends : ∀ x ∈ [(Termination.fixed, false), (.fixed, true), (.actuated, false), (.actuated, true)],
    let s := ending x.1 x.2
    let r : StepRecord := ⟨1, x.1, false, 1, none⟩
    (s.seq.current = true ∧ s.seq.phase = .fullGreen ∧ s.seq.transition = none ∧ s.record = some r) ∧
    (s.seq.hold = false ∧ s.seq.stepTimer = 0 ∧ has s.serviceable 1 = true ∧
      (∀ c, has r.greenSet c = true → (s.chan c).kind = .vehicle ∧ (s.chan c).ind = .green ∧
        (s.chan c).activeSet.minGreen ≤ (s.green c).elapsed ∧ (s.green c).initial = 0 ∧ (s.chan c).recallKind ≠ .max ∧
        (s.green c).gap = 0 ∧ ∀ d, has (s.extends d) c = false)) ∧
    (s.eligible = some 1 ∧ s.seq.queue[1]? = some ⟨2, .fixed, false, 2, some 100⟩) ∧
    (s.unit.mode = .controlled ∧ s.preemptsQuiet ∧ s.seq.owedEnds = 0) := by
  unfold State.preemptsQuiet
  decide +kernel

/-- The other cases: a hold, a step with nothing behind it at full green and at rest, a reduction clock that runs, a walk of the
step that has cleared, and the first selections with a record and with none. -/
theorem witness_EligibleNextStep_rests :
    (let s : State := { ending .fixed true with seq := { (ending .fixed true).seq with hold := true, phase := .resting } }
     s.seq.hold = true ∧ s.seq.phase = .resting ∧ (judgeTermination s).isSome = true) ∧
    (let s : State := { ending .fixed true with seq := { (ending .fixed true).seq with queue := [⟨1, .fixed, false, 1, none⟩] } }
     s.eligible = none ∧ s.record = some ⟨1, .fixed, false, 1, none⟩ ∧ (judgeTermination s).isSome = true) ∧
    ({ ending .fixed true with
      greens := vset (ending .fixed true).greens 0 { Green.reset with elapsed := 100, clock := some 1 } } : State).clockStarts = 0 ∧
    (let s : State := { control with seq := { control.seq with current := false, phase := .none } }
     s.seq.current = false ∧ s.arb.holder = none ∧ s.firstChoice = some 0 ∧ s.seq.queue[0]? = some ⟨1, .actuated, false, 1, none⟩) ∧
    (State.reset.seq.current = false ∧ State.reset.arb.holder = none ∧ State.reset.firstChoice = none) ∧
    (let s : State := { control with seq := { control.seq with mode := .cycle, position := 1 } }
     s.firstChoice = some 1) := by decide +kernel

/-- R42: SINGLE removes the outgoing head, CYCLE moves the position. -/
theorem test_handover_queue : (judgeTermination (ending .fixed false)).map (fun t => (t.seq.queue.map (·.serial), t.seq.position)) =
      some ([2], 0) ∧
    (judgeTermination { ending .fixed false with seq := { (ending .fixed false).seq with mode := .cycle } }).map
      (fun t => (t.seq.queue.map (·.serial), t.seq.position)) = some ([1, 2], 1) := by decide +kernel

/-- A transition to channel 3 alone, which is WAITING. -/
def waiting3 (latch : Bool) (ind : Indication) : State :=
  { set1 0 (channel .vehicle ind 0) control with
    greens := vset control.greens 2 { Green.reset with latch := latch }
    seq := { control.seq with
      phase := .transition, transition := some ⟨4, .step, vset (Vector.replicate 16 .outside) 2 .waiting⟩ } }

theorem witness_StartMoment :
    (judgeStart (waiting3 true .red)).isSome = true ∧ (judgeStart (waiting3 false .red)).isSome = true ∧
    judgeStart (waiting3 true .green) = none ∧ (waiting3 true .red).seq.transition.isSome = true ∧
    has (waiting3 true .red).calls 2 = true ∧ has (waiting3 false .red).calls 2 = false := by decide +kernel

/-- Preempt 2 PENDING at a priority while preempt 1 holds the slot at priority 1. -/
def contested (priority : Nat) : State :=
  { dwelling with
    pres := vset (vset dwelling.pres 0 { (dwelling.pre 0) with cfg := { PreemptConfig.reset with priority := 1 } }) 1
      { Preempt.reset with state := .pending, level := true
                           cfg := { PreemptConfig.reset with priority := priority, enable := true, dwellSet := 2 } } }

theorem witness_PreemptSelection : (judgeSlot (contested 2)).isSome = true ∧ judgeSlot (contested 1) = none := by
  decide +kernel

/-- Preempt 1 holding the slot in a state, with its timer, its input and an interrupted step. -/
def serving (k : PreemptState) (n : Nat) (level interrupted : Bool) (exit : ExitKind) : State :=
  { preempt1 { Preempt.reset with
        state := k, serviceTimer := n, level := level, run := 2, cfg := { PreemptConfig.reset with exitKind := exit } } control with
    seq := { control.seq with current := false, phase := .none }
    arb := { Arbiter.reset with holder := some 0, interrupted := interrupted } }

/-- Dwells that have ended, with a request behind them and with none, and one that has not; the exits by kind, interrupted step and
record; the rests in EXIT with an empty queue whose input turns on and off. -/
theorem witness_PreemptSelection_exit :
    (let s := serving .dwell 0 false true .resume
     s.arb.holder = some 0 ∧ (s.pre 0).state = .dwell ∧ s.seq.transition = none ∧ (s.pre 0).serviceTimer = 0 ∧
       (s.pre 0).active = false ∧ ∀ q, (s.pre q).state ≠ .pending) ∧
    (let s := serving .dwell 0 false true .resume
     (({ s with pres := vset s.pres 1 { Preempt.reset with state := .pending } } : State).pre 1).state = .pending) ∧
    ((serving .dwell 1 false true .resume).pre 0).serviceTimer ≠ 0 ∧
    (∀ k ∈ [ExitKind.resume, .next],
      let s := serving .exit 0 false true k
      s.arb.holder = some 0 ∧ (s.pre 0).state = .exit ∧ s.arb.interrupted = true ∧ (s.pre 0).cfg.exitKind = k ∧
        s.record = some ⟨1, .actuated, false, 1, none⟩ ∧ s.eligible = some 1 ∧
        s.seq.queue[1]? = some ⟨2, .fixed, false, 2, some 100⟩ ∧ (judgeExit s).isSome = true) ∧
    (let s := serving .exit 0 false false .next
     s.arb.interrupted = false ∧ s.firstChoice = some 0 ∧ s.seq.queue[0]? = some ⟨1, .actuated, false, 1, none⟩ ∧
       s.unit.mode = .controlled ∧ s.seq.current = false ∧ s.seq.transition = none ∧ s.seq.owedEnds = 0 ∧
       (∀ q, q ≠ 0 → (s.pre q).state = .idle ∧ (s.pre q).active = false) ∧ (s.pre 0).active = false ∧
       (s.pre 0).pendingAtExit = false) ∧
    (∀ level, let s := serving .exit 0 level false .resume
      let rest : State := { s with seq := { s.seq with queue := [] } }
      rest.firstChoice = none ∧ rest.unit.mode = .controlled ∧ rest.arb.holder = some 0 ∧ (rest.pre 0).state = .exit ∧
        rest.seq.current = false ∧ rest.seq.transition = none ∧ rest.seq.owedEnds = 0 ∧ rest.arb.interrupted = false ∧
        (∀ q, q ≠ 0 → (rest.pre q).state = .idle ∧ (rest.pre q).active = false) ∧ (rest.pre 0).run = 2 ∧
        (rest.pre 0).stuck = false ∧ (rest.pre 0).level = level) := by decide +kernel

/-- R112: an exit by RESUME leaves the interrupted step at the head, one by NEXT removes it. -/
theorem test_exit_queue : [ExitKind.resume, .next].map (fun k =>
    (judgeExit (serving .exit 0 false true k)).map (fun t => (t.seq.queue.map (·.serial), t.arb.holder))) =
      [some ([1, 2], none), some ([2], none)] := by decide +kernel

end Sys2Proof.Tests
end

