-- ==== Sys2Proof/Proofs/GreenTiming.lean ====
section
/-! PROOFS. Proofs/GreenTiming.lean: the loads of a vehicle GREEN entry (R68), the allowed gap case by case, and the
bounds of the initial green and of the allowed gap (R71). -/

namespace Sys2Proof.Machine

/-! ### The loads of a vehicle GREEN entry (R68) -/

theorem pressed_iff (s : State) (c : Chan) :
    s.pressed c = true ↔ (s.serviceable &&& conflictsOf s.compat.inUse c) ≠ 0 := bne_iff_ne

theorem vehicleEntry_eq (c : Chan) (s : State) :
    vehicleEntry c s = { s with
      greens := vset s.greens c
        { initial := initialGreen (s.chan c).activeSet (s.green c).actCount, elapsed := 0
          gap := (s.chan c).activeSet.maxGap, maxTimer := (s.chan c).activeSet.maxGreen, maxOut := false
          clock := if (s.serviceable &&& conflictsOf s.compat.inUse c) ≠ 0 then some 0 else none
          actCount := 0, latch := false } } := by
  simp only [vehicleEntry, Green.start, State.setGreen, pressed_iff]

/-! ### The initial green (R68, R71) -/

theorem minGreen_le_initialGreen (a : Timing) (count : Nat) : a.minGreen ≤ initialGreen a count :=
  le_max_left _ _

theorem initialGreen_le_maxGreen {a : Timing} (h : a.InRange) (count : Nat) : initialGreen a count ≤ a.maxGreen :=
  max_le h.greens ((min_le_left _ _).trans h.initials)

/-! ### The cases of the allowed gap (R71) -/

theorem allowedGap_none (a : Timing) : allowedGap a none = a.maxGap := rfl

theorem allowedGap_before {a : Timing} {t : Nat} (h : t ≤ a.tbr) : allowedGap a (some t) = a.maxGap :=
  if_pos h

theorem allowedGap_reducing {a : Timing} {t : Nat} (hb : a.tbr < t) (hr : t < a.tbr + a.ttr) :
    allowedGap a (some t) = a.maxGap - (a.maxGap - a.minGap) * (t - a.tbr) / a.ttr :=
  (if_neg hb.not_ge).trans (if_pos hr)

theorem allowedGap_after {a : Timing} {t : Nat} (hb : a.tbr < t) (hr : a.tbr + a.ttr ≤ t) :
    allowedGap a (some t) = a.minGap :=
  (if_neg hb.not_ge).trans (if_neg hr.not_gt)

/-- The allowed gap stands at one of its ends unless the clock is between TBR and TBR + TTR. -/
theorem allowedGap_cases (a : Timing) (clock : Option Nat) :
    allowedGap a clock = a.maxGap ∨ allowedGap a clock = a.minGap ∨
      ∃ t, a.tbr < t ∧ t < a.tbr + a.ttr ∧ clock = some t := by
  cases clock with
  | none => exact .inl (allowedGap_none a)
  | some t =>
    rcases le_or_gt t a.tbr with hb | hb
    · exact .inl (allowedGap_before hb)
    · rcases lt_or_ge t (a.tbr + a.ttr) with hr | hr
      · exact .inr (.inr ⟨t, hb, hr, rfl⟩)
      · exact .inr (.inl (allowedGap_after hb hr))

/-! ### The bounds of the allowed gap (R71) -/

/-- The reduction is less than a range that is not empty, as the clock is less than TTR past TBR. -/
theorem reduction_lt {range elapsed ttr : Nat} (ht : elapsed < ttr) (hr : 0 < range) :
    range * elapsed / ttr < range :=
  Nat.div_lt_of_lt_mul (by simpa only [Nat.mul_comm] using Nat.mul_lt_mul_of_pos_left ht hr)

/-- The strict form in the second case: the division truncates, so MinGap is not reached before the third. -/
theorem minGap_lt_allowedGap {a : Timing} {t : Nat} (hb : a.tbr < t) (hr : t < a.tbr + a.ttr)
    (hg : a.minGap < a.maxGap) : a.minGap < allowedGap a (some t) := by
  have red : (a.maxGap - a.minGap) * (t - a.tbr) / a.ttr < a.maxGap - a.minGap :=
    reduction_lt (by omega) (by omega)
  rw [allowedGap_reducing hb hr]
  omega

theorem allowedGap_le_maxGap {a : Timing} (hg : a.minGap ≤ a.maxGap) (clock : Option Nat) :
    allowedGap a clock ≤ a.maxGap := by
  obtain hmax | hmin | ⟨t, hb, hr, rfl⟩ := allowedGap_cases a clock
  · exact hmax.le
  · exact hmin.trans_le hg
  · exact (allowedGap_reducing hb hr).trans_le (Nat.sub_le _ _)

theorem allowedGap_of_gaps_eq {a : Timing} (hg : a.minGap = a.maxGap) (clock : Option Nat) :
    allowedGap a clock = a.maxGap := by
  obtain hmax | hmin | ⟨t, hb, hr, rfl⟩ := allowedGap_cases a clock
  · exact hmax
  · exact hmin.trans hg
  · simp [allowedGap_reducing hb hr, hg]

theorem minGap_le_allowedGap {a : Timing} (hg : a.minGap ≤ a.maxGap) (clock : Option Nat) :
    a.minGap ≤ allowedGap a clock := by
  obtain hmax | hmin | ⟨t, hb, hr, rfl⟩ := allowedGap_cases a clock
  · exact hg.trans_eq hmax.symm
  · exact hmin.ge
  · rcases hg.eq_or_lt with he | hlt
    · exact he.trans_le (allowedGap_of_gaps_eq he _).ge
    · exact (minGap_lt_allowedGap hb hr hlt).le

/-- Settles O57: the loads by `vehicleEntry_eq`, the gap by its cases, the bounds by the relations of R2. -/
theorem greenTimingArithmetic : Obligations.GreenTimingArithmetic := by
  refine ⟨fun c s => vehicleEntry_eq c s, fun a => ⟨allowedGap_none a, fun _ => allowedGap_before,
    fun _ => allowedGap_reducing, fun _ => allowedGap_after, fun h => ⟨?range, ?constant, ?above, ?initial⟩⟩⟩
  case range => exact fun clock => ⟨minGap_le_allowedGap h.gaps clock, allowedGap_le_maxGap h.gaps clock⟩
  case constant => exact allowedGap_of_gaps_eq
  case above => exact fun _ => minGap_lt_allowedGap
  case initial => exact fun count => ⟨minGreen_le_initialGreen a count, initialGreen_le_maxGreen h count⟩

end Sys2Proof.Machine
end

