-- ==== Sys2Proof/Proofs/LinkReads.lean ====
section
/-! PROOFS. Proofs/LinkReads.lean: the answer of a command that only reads, on a free link, and the two commands by which
the host asks for the unit's identity and status (R188). -/

namespace Sys2Proof.Machine

/-! ### Commands that only read (R184) -/

/-- A command whose service changes nothing leaves the heard state, with its one reply begun. -/
theorem command_of_read {f : Frame} {service : State → Served} {s : State} (hs : s.linkFree)
    (hr : (service (heard s)).1 = heard s) :
    command f service s = .next (answered (heard s)
      { kind := f.kind + 0x80#8, tag := f.tag, fields := (service (heard s)).2 }) := by
  have ht : (service (heard s)).1.linkFree := by rw [hr]; exact heard_free hs
  rw [command_free hs ht, hr]

/-! ### What the two answers read of the heard state (R187, R188) -/

@[simp] theorem heard_rate (s : State) : (heard s).link.rate = s.link.rate := by
  obtain ⟨m, h⟩ := heard_cases s; rw [h]

/-- The fields of IDENTIFY, with the part number 416 written out in its two bytes. -/
theorem serveIdentify_heard (s : State) :
    (serveIdentify (heard s)).2 = [0, 1, 0xA0#8, 1, 16, 24, 4, 8, 8, 16, s.link.rate.code] := by
  rw [← heard_rate s]
  rfl

/-- The status content once the asking frame is heard: the link is never LOST, the flags are those that hearing leaves,
and every other byte is as it was before the frame. -/
theorem statusBytes_heard (s : State) :
    (heard s).statusBytes = [s.unit.mode.code] ++ reportMaskBytes (heard s).link.flags ++
      reportMaskBytes s.link.enable ++ [0, s.link.lastError.code] ++ wordBytes s.link.errors ++
      u32 s.time.tenth.toNat ++ [s.time.lock.code, s.time.category.code, s.compat.status.code,
        flagByte s.compat.isMatch, flagByte s.mon.record.isSome] := by
  obtain ⟨m, h⟩ := heard_cases s
  rw [h]
  rfl

/-! ### IDENTIFY and STATUS (R188) -/

theorem exec_identify_free {s : State} (tag : Byte) (hs : s.linkFree) :
    exec (.identify tag) s = .next (answered (heard s)
      ⟨0x81#8, tag, [0, 1, 0xA0#8, 1, 16, 24, 4, 8, 8, 16, s.link.rate.code]⟩) := by
  have read : exec (.identify tag) s = _ := command_of_read hs (service := serveIdentify) rfl
  rw [read, serveIdentify_heard]
  rfl

theorem exec_status_free {s : State} (tag : Byte) (hs : s.linkFree) :
    exec (.status tag) s = .next (answered (heard s) ⟨0x82#8, tag, resultOk :: (heard s).statusBytes⟩) :=
  command_of_read hs (service := serveStatus) rfl

/-- Settles O35: both only read, so each leaves the heard state, and the bytes that hearing may change are named by
`statusBytes_heard`. -/
theorem identifyAndStatus : Obligations.IdentifyAndStatus := by
  intro tag s hs
  refine ⟨exec_identify_free tag hs, ?status⟩
  case status =>
    rw [exec_status_free tag hs, statusBytes_heard]
    rfl

end Sys2Proof.Machine
end

/-! PROOFS. The elementary acts of the part: every command is a chain of them, so that an invariant is proved once for
each act and carried to every command by one induction. -/

namespace Sys2Proof.Machine

/-! ### The ranges of the settings, record by record -/

/-- The settings of a preempt lie in their ranges (R103). -/
def PreemptConfig.InRange (c : PreemptConfig) : Prop :=
  (c.priority ≤ 3 ∧ c.trackTime ≤ 2550 ∧ 10 ≤ c.dwellMin ∧ c.dwellMin ≤ 2550 ∧ 1 ≤ c.maxPresence ∧
    c.maxPresence ≤ 255) ∧ (c.delay ≤ 255 ∧ c.minGreen ≤ 255 ∧ c.pedClear ≤ 255)

/-- The settings of a detector lie in their ranges (R100). -/
def Detector.InRange (r : Detector) : Prop :=
  (2 ≤ r.chatterLimit ∧ r.chatterLimit ≤ 50) ∧ (r.delay ≤ 255 ∧ r.maxPresence ≤ 255 ∧ r.maxAbsence ≤ 255)

/-- The start settings lie in their ranges (R150). -/
def UnitState.InRange (u : UnitState) : Prop :=
  30 ≤ u.startFlashTime ∧ u.startFlashTime ≤ 255 ∧ 20 ≤ u.entryRedTime ∧ u.entryRedTime ≤ 255 ∧ u.shortOutage ≤ 20

/-- The supply thresholds lie in their ranges (R161). -/
def Timebase.InRange (t : Timebase) : Prop :=
  60 ≤ t.dropout ∧ t.dropout + 10 ≤ t.sag ∧ 120 ≤ t.sag ∧ t.sag ≤ 195 ∧ 205 ≤ t.high ∧ t.high ≤ 250

/-- The settings of a tone line lie in their ranges (R164). -/
def ToneLine.InRange (l : ToneLine) : Prop := l.frequency ≤ 7 ∧ l.dayVolume ≤ 7 ∧ l.nightVolume ≤ 7

/-- The settings of the sign chain lie in their ranges (R177). -/
def Signs.InRange (g : Signs) : Prop :=
  g.count ≤ 8 ∧ 2 ≤ g.period ∧ g.period ≤ 255 ∧ g.gap ∈ [0, 1, 2, 4, 8, 16, 32, 64]

/-- A chain of no modules is at rest (R171). -/
def Signs.AtRest (g : Signs) : Prop :=
  g.count = 0 → g.shifting = false ∧ g.sck = false ∧ g.sdo = false ∧ g.slat = false

/-- The supervision time lies in its range (R189). -/
def Link.InRange (l : Link) : Prop := 5 ≤ l.supervisionTime ∧ l.supervisionTime ≤ 255

/-- The slots of the link drain (R184, R185). -/
def Link.Drains (l : Link) : Prop := (l.held ≠ none → l.reply ≠ none) ∧ (l.reply ≠ none → l.sending ≠ none)

/-! ### What an elementary act may do to a record -/

/-- A move of one channel's run state: the lamps of a dark mode stay dark, a channel is released only with no incompatible
channel released, and a `steady` move leaves an AMBER and a RED_CLEAR of a control mode alone. -/
structure ChanMove (steady : Bool) (s : State) (c : Chan) (r : Channel) : Prop where
  kind : r.kind = (s.chan c).kind
  held : r.held = (s.chan c).held
  applied : r.applied = (s.chan c).applied
  pending : r.pendingSet = (s.chan c).pendingSet
  active : (s.chan c).pendingSet.InRange → (s.chan c).activeSet.InRange → r.activeSet.InRange
  dark : s.unit.mode.relay = false → (s.chan c).ind = .dark → (s.chan c).staged = Pattern.dark →
    r.ind = .dark ∧ r.staged = Pattern.dark
  release : r.ind.released = true → (s.chan c).ind.released = true ∨
    (s.unit.mode.isControl = true ∧ ∀ j, compatible s.compat.inUse c j = false → (s.chan j).ind.released = false)
  runs : steady = true → s.unit.mode.isControl = true → (s.chan c).ind = .amber ∨ (s.chan c).ind = .redClear →
    r.ind = (s.chan c).ind ∧ r.timer = (s.chan c).timer

/-- What SET CHANNEL stores in a channel record and its green record (R17, R18). -/
structure Retype (s : State) (c : Chan) (r : Channel) (g : Green) : Prop where
  shown : r.ind = (s.chan c).ind ∧ r.timer = (s.chan c).timer ∧ r.staged = (s.chan c).staged ∧
    r.applied = (s.chan c).applied ∧ r.held = (s.chan c).held
  sets : r.pendingSet.InRange ∧ (r.activeSet = r.pendingSet ∨ r.activeSet = (s.chan c).activeSet)
  latch : r.kind = .unused → g.latch = true → (s.chan c).kind = .unused ∧ (s.green c).latch = true
  stays : s.unit.mode.isControl = true → r.kind = (s.chan c).kind
  free : r.kind = .unused → (s.chan c).kind ≠ .unused → ∀ q ∈ s.seq.queue, has q.greenSet c = false

/-- The first fault of a record is kept, its additional-fault mark never cleared (R131). -/
def RecordKept (old new : Option FaultRecord) : Prop :=
  ∀ r, old = some r → ∃ b, new = some { r with additional := b } ∧ (r.additional = true → b = true)

theorem RecordKept.refl (r : Option FaultRecord) : RecordKept r r := fun r h => ⟨r.additional, h, id⟩

theorem RecordKept.trans {a b c : Option FaultRecord} (h : RecordKept a b) (k : RecordKept b c) : RecordKept a c := by
  intro r hr
  obtain ⟨x, hx, hx'⟩ := h r hr
  obtain ⟨y, hy, hy'⟩ := k _ hx
  exact ⟨y, hy, fun e => hy' (hx' e)⟩

/-! ### The acts -/

/-- One elementary act of the part. The acts on one block come with what they keep of its settings; the changes of unit
mode and the replacement of the in-use table, which touch several blocks at once, are acts of their own. A `steady` act
ends no AMBER and no RED_CLEAR of a control mode: their expiries are the acts that are not. -/
inductive Act (steady : Bool) : State → State → Prop where
  | link {s : State} (l : Link)
      (hs : l.held = s.link.held ∧ l.reply = s.link.reply ∧ l.sending = s.link.sending)
      (hr : s.link.InRange → l.InRange) : Act steady s { s with link := l }
  | dim {s : State} (on : Bool) (k : Nat) (hk : 4 ≤ k ∧ k ≤ 8) :
      Act steady s { s with lamps := { s.lamps with dimOn := on, dimLevel := k } }
  | time {s : State} (t : Timebase) (hc : t.category = s.time.category) (hn : t.tenth = s.time.tenth)
      (hr : s.time.InRange → t.InRange) : Act steady s { s with time := t }
  | compat {s : State} (p : Compat) (hu : p.inUse = s.compat.inUse) (ho : p.owed = none → s.compat.owed = none)
      (hm : s.MatchSafe → p.isMatch = (p.hostCopy == some p.inUse)) : Act steady s { s with compat := p }
  | greens {s : State} (g : Vector Green 16)
      (hl : ∀ c, (g.get c).latch = true → (s.green c).latch = true ∨ (s.chan c).used = true) :
      Act steady s { s with greens := g }
  | seq {s : State} (q : Sequencer) (hq : ∀ r ∈ q.queue, r ∈ s.seq.queue)
      (hl : q.queue.length ≤ s.seq.queue.length) (hn : q.nextSerial = s.seq.nextSerial) : Act steady s { s with seq := q }
  | queued {s : State} (m : Termination) (skip : Bool) (set : ChanSet) (time : Option Nat)
      (hl : s.seq.queue.length < Config.queueCapacity) (hc : pairwiseCompatible s.compat.inUse set = true)
      (hu : set &&& ~~~ s.usedMask = 0) (ht : ∀ n, StepRecord.timeSafe ⟨n, m, skip, set, time⟩) :
      Act steady s (appendStep m skip set time s)
  | dets {s : State} (d : Vector Detector 24) (m : DetectorMasks)
      (hr : ∀ i, (s.det i).InRange → (d.get i).InRange) : Act steady s { s with dets := d, detMasks := m }
  | slot {s : State} (p : Vector Preempt 4) (a : Arbiter)
      (hr : ∀ i, (s.pre i).cfg.InRange → (p.get i).cfg.InRange)
      (hs : s.SlotSafe → ∀ i, (p.get i).serving = true → a.holder = some i) :
      Act steady s { s with pres := p, arb := a }
  | mon {s : State} (m : Monitor) (hr : 10 ≤ s.mon.redFailTime ∧ s.mon.redFailTime ≤ 25 →
      10 ≤ m.redFailTime ∧ m.redFailTime ≤ 25) (hk : RecordKept s.mon.record m.record) : Act steady s { s with mon := m }
  | unit {s : State} (u : UnitState)
      (hm : u.mode = s.unit.mode ∧ u.ftr = s.unit.ftr ∧ u.remembered = s.unit.remembered)
      (hr : s.unit.InRange → u.InRange) : Act steady s { s with unit := u }
  | tones {s : State} (v : Vector ToneLine 8) (hr : ∀ i, (s.line i).InRange → (v.get i).InRange) :
      Act steady s { s with tones := v }
  | signs {s : State} (g : Signs) (hr : s.signs.InRange → g.InRange) (hl : s.signs.AtRest → g.AtRest) :
      Act steady s { s with signs := g }
  | chan {s : State} (c : Chan) (r : Channel) (h : ChanMove steady s c r) : Act steady s (s.setChan c r)
  | retype {s : State} (c : Chan) (r : Channel) (g : Green) (h : Retype s c r g) :
      Act steady s ((s.setChan c r).setGreen c g)
  | held {s : State} (c : Chan) (i : Option Indication) (hm : s.unit.mode = .powerOut)
      (hd : s.standingMode.relay = false → i.getD .dark = .dark) (hr : heldReleased i = false) :
      Act steady s (s.setChan c { s.chan c with held := i })
  | crossing {s : State} : Act steady s (crossing s)
  | replace {s : State} (t : PairTable) : Act steady s (replaceTable t s)
  | faultFlash {s : State} (hm : s.unit.mode ≠ .powerOut) : Act steady s (enterFaultFlash s)
  | clearing {s : State} (k : FlashCause) (hm : s.unit.mode = .entryRed ∨ s.unit.mode = .controlled) :
      Act steady s (enterClearing k s)
  | entryRed {s : State} (hm : s.unit.mode = .startFlash ∨ s.unit.mode = .localFlash) : Act steady s (enterEntryRed s)
  | controlled {s : State} (hm : s.unit.mode = .entryRed) : Act steady s (enterControlled s)
  | localFlash {s : State} (hm : s.unit.mode = .startFlash ∨ (s.unit.mode = .clearingToFlash ∧ s.allRed = true)) :
      Act steady s (enterLocalFlash s)
  | powerOut {s : State} (t : Timebase) (l : Link) (hc : s.time.category ≠ .dropout)
      (ht : t.category = .dropout ∧ t.tenth = s.time.tenth) (hr : s.time.InRange → t.InRange)
      (hl : ∃ m, l = { s.link with flags := m }) : Act steady s (enterPowerOut { s with time := t, link := l })
  | supply {s : State} (k : Supply) (hk : k ≠ .dropout) (hm : s.unit.mode ≠ .powerOut) :
      Act steady s { s with time := { s.time with category := k } }

/-- A chain of steady acts. -/
abbrev Acts : State → State → Prop := Relation.ReflTransGen (Act true)

/-- A chain of acts that may end intervals. -/
abbrev Expiries : State → State → Prop := Relation.ReflTransGen (Act false)

theorem Act.acts {s t : State} (h : Act true s t) : Acts s t := .single h

theorem Act.expiries {s t : State} (h : Act false s t) : Expiries s t := .single h

/-- A property that every act keeps is kept by a chain of them. -/
theorem chain_keeps {P : State → Prop} {b : Bool} (step : ∀ s t, Act b s t → P s → P t) {s t : State}
    (h : Relation.ReflTransGen (Act b) s t) (hs : P s) : P t := by
  induction h with
  | refl => exact hs
  | tail _ ha ih => exact step _ _ ha ih

theorem Act.weaken {s t : State} (h : Act true s t) : Act false s t := by
  cases h with
  | link l hs hr => exact .link l hs hr
  | dim on k hk => exact .dim on k hk
  | time t hc hn hr => exact .time t hc hn hr
  | compat p hu ho hm => exact .compat p hu ho hm
  | greens g hl => exact .greens g hl
  | seq q hq hl hn => exact .seq q hq hl hn
  | queued m skip set time hl hc hu ht => exact .queued m skip set time hl hc hu ht
  | dets d m hr => exact .dets d m hr
  | slot p a hr hs => exact .slot p a hr hs
  | mon m hr hk => exact .mon m hr hk
  | unit u hm hr => exact .unit u hm hr
  | tones v hr => exact .tones v hr
  | signs g hr hl => exact .signs g hr hl
  | chan c r h => exact .chan c r { h with runs := fun x => by cases x }
  | retype c r g h => exact .retype c r g h
  | held c i hm hd hr => exact .held c i hm hd hr
  | crossing => exact .crossing
  | replace t => exact .replace t
  | faultFlash hm => exact .faultFlash hm
  | clearing k hm => exact .clearing k hm
  | entryRed hm => exact .entryRed hm
  | controlled hm => exact .controlled hm
  | localFlash hm => exact .localFlash hm
  | powerOut t l hc ht hr hl => exact .powerOut t l hc ht hr hl
  | supply k hk hm => exact .supply k hk hm

/-- A chain of steady acts is a chain of acts of either kind. -/
theorem Acts.any {b : Bool} {s t : State} (h : Acts s t) : Relation.ReflTransGen (Act b) s t := by
  cases b
  · exact Relation.ReflTransGen.mono (fun _ _ => Act.weaken) _ _ h
  · exact h

/-- A fold of an operation that is a chain of acts is a chain of acts. -/
theorem foldl_acts {α : Type} (f : State → α → State) (h : ∀ s a, Acts s (f s a)) (l : List α) (s : State) :
    Acts s (l.foldl f s) := by
  induction l generalizing s with
  | nil => exact .refl
  | cons a l ih => exact (h s a).trans (ih _)

/-! ### Shorter forms of the acts on one block -/

/-- An update of the link that touches neither its slots nor its supervision time. -/
theorem link_acts {s : State} (l : Link) (hs : l.held = s.link.held ∧ l.reply = s.link.reply ∧ l.sending = s.link.sending)
    (hr : l.supervisionTime = s.link.supervisionTime) : Acts s { s with link := l } :=
  Act.acts (.link l hs (fun h => by simpa [Link.InRange, hr] using h))

theorem flag_acts (r : Report) (s : State) : Acts s (flag r s) := link_acts _ ⟨rfl, rfl, rfl⟩ rfl

theorem flagIf_acts (b : Bool) (r : Report) (s : State) : Acts s (flagIf b r s) := by
  rcases flagIf_cases b r s with h | h
  · rw [h]
  · rw [h]; exact flag_acts r s

theorem noting_acts (o s : State) : Acts s (noting o s) :=
  ((flagIf_acts _ _ _).trans (flagIf_acts _ _ _)).trans (flagIf_acts _ _ _)

/-- An update of the green records that sets no latch. -/
theorem greens_acts {s : State} (g : Vector Green 16) (h : ∀ c, (g.get c).latch = true → (s.green c).latch = true) :
    Acts s { s with greens := g } := Act.acts (.greens g (fun c e => .inl (h c e)))

theorem setGreen_acts {s : State} {c : Chan} {g : Green} (h : g.latch = true → (s.green c).latch = true) :
    Acts s (s.setGreen c g) := by
  refine greens_acts _ (fun j e => ?_)
  rw [vset_get] at e
  split at e
  · next hj => subst hj; exact h e
  · exact e

/-- An update of the sequencer that leaves the queue. -/
theorem seq_acts {s : State} (q : Sequencer) (hq : q.queue = s.seq.queue) (hn : q.nextSerial = s.seq.nextSerial) :
    Acts s { s with seq := q } := Act.acts (.seq q (fun r h => hq ▸ h) (by rw [hq]) hn)

/-- An update of the preempts and the slot that moves no preempt into or out of service. -/
theorem pres_acts {s : State} (p : Vector Preempt 4)
    (h : ∀ i, (p.get i).cfg = (s.pre i).cfg ∧ ((p.get i).serving = true → (s.pre i).serving = true)) :
    Acts s { s with pres := p } :=
  Act.acts (.slot p s.arb (fun i hi => by rw [(h i).1]; exact hi) (fun k i e => k i ((h i).2 e)))

theorem setPre_acts {s : State} {p : Pre} {r : Preempt} (hc : r.cfg = (s.pre p).cfg)
    (hs : r.serving = true → (s.pre p).serving = true) : Acts s (s.setPre p r) := by
  refine pres_acts _ (fun i => ?_)
  rw [vset_get]
  split
  · next hj => subst hj; exact ⟨hc, hs⟩
  · exact ⟨rfl, id⟩

/-- An update of the Monitor's run state. -/
theorem mon_acts {s : State} (m : Monitor) (hr : m.redFailTime = s.mon.redFailTime) (hk : m.record = s.mon.record) :
    Acts s { s with mon := m } := Act.acts (.mon m (fun h => by rw [hr]; exact h) (by rw [hk]; exact RecordKept.refl _))

/-- An update of the unit's timers, cause and switch. -/
theorem unit_acts {s : State} (u : UnitState)
    (hm : u.mode = s.unit.mode ∧ u.ftr = s.unit.ftr ∧ u.remembered = s.unit.remembered)
    (hr : u.startFlashTime = s.unit.startFlashTime ∧ u.entryRedTime = s.unit.entryRedTime ∧
      u.shortOutage = s.unit.shortOutage) : Acts s { s with unit := u } :=
  Act.acts (.unit u hm (fun h => by obtain ⟨h1, h2, h3⟩ := hr; simpa [UnitState.InRange, h1, h2, h3] using h))

/-- An update of the timebase that touches neither the category, the tenth counter nor the thresholds. -/
theorem time_acts {s : State} (t : Timebase) (hc : t.category = s.time.category) (hn : t.tenth = s.time.tenth)
    (hr : t.dropout = s.time.dropout ∧ t.sag = s.time.sag ∧ t.high = s.time.high) : Acts s { s with time := t } :=
  Act.acts (.time t hc hn (fun h => by obtain ⟨h1, h2, h3⟩ := hr; simpa [Timebase.InRange, h1, h2, h3] using h))

/-- An update of the playing state of the tone lines. -/
theorem tones_acts {s : State} (v : Vector ToneLine 8)
    (h : ∀ i, (v.get i).frequency = (s.line i).frequency ∧ (v.get i).dayVolume = (s.line i).dayVolume ∧
      (v.get i).nightVolume = (s.line i).nightVolume) : Acts s { s with tones := v } :=
  Act.acts (.tones v (fun i hi => by
    obtain ⟨h1, h2, h3⟩ := h i
    simpa [ToneLine.InRange, h1, h2, h3] using hi))

/-- An update of the sign chain that asks for an exchange, sets its timer or its flags. -/
theorem signs_acts {s : State} (g : Signs) (hc : g.count = s.signs.count ∧ g.period = s.signs.period ∧
    g.gap = s.signs.gap) (hl : g.shifting = s.signs.shifting ∧ g.sck = s.signs.sck ∧ g.sdo = s.signs.sdo ∧
    g.slat = s.signs.slat) : Acts s { s with signs := g } := by
  obtain ⟨h1, h2, h3⟩ := hc
  obtain ⟨k1, k2, k3, k4⟩ := hl
  exact Act.acts (.signs g (fun h => by simpa [Signs.InRange, h1, h2, h3] using h)
    (fun h => by simpa [Signs.AtRest, h1, k1, k2, k3, k4] using h))

/-- An update of the detectors' run state. -/
theorem dets_acts {s : State} (d : Vector Detector 24) (m : DetectorMasks)
    (h : ∀ i, (d.get i).chatterLimit = (s.det i).chatterLimit ∧ (d.get i).delay = (s.det i).delay ∧
      (d.get i).maxPresence = (s.det i).maxPresence ∧ (d.get i).maxAbsence = (s.det i).maxAbsence) :
    Acts s { s with dets := d, detMasks := m } :=
  Act.acts (.dets d m (fun i hi => by
    obtain ⟨h1, h2, h3, h4⟩ := h i
    simpa [Detector.InRange, h1, h2, h3, h4] using hi))

theorem setDet_acts {s : State} {d : Det} {r : Detector} (h : r.chatterLimit = (s.det d).chatterLimit ∧
    r.delay = (s.det d).delay ∧ r.maxPresence = (s.det d).maxPresence ∧ r.maxAbsence = (s.det d).maxAbsence) :
    Acts s (s.setDet d r) := by
  refine dets_acts _ s.detMasks (fun i => ?_)
  rw [vset_get]
  split
  · next hj => subst hj; exact h
  · exact ⟨rfl, rfl, rfl, rfl⟩

/-! ### Call latches and tone lines -/

theorem requestLatches_acts (m : ChanSet) (s : State) : Acts s (requestLatches m s) := by
  obtain ⟨g, h⟩ := requestLatches_eq m s
  rw [h]
  refine Act.acts (.greens g (fun c hc => ?_))
  have e : g.get c = (requestLatches m s).green c := by rw [h]; rfl
  rw [e, requestLatches_green] at hc
  split at hc
  · next k => exact .inr k.2.1
  · exact .inl hc

theorem actuated_latch (s : State) (c : Chan) (g : Green) : (actuated s c g).latch = g.latch := by
  unfold actuated
  split
  · split
    · split <;> rfl
    · rfl
  · rfl

theorem actuate_acts (m : ChanSet) (s : State) : Acts s (actuate m s) := by
  unfold actuate
  split
  · exact .refl
  · refine greens_acts _ (fun c h => ?_)
    rw [vmap_get] at h
    split at h
    · rwa [actuated_latch] at h
    · exact h

/-- Two tone lines with the same stored values of frequency and volume. -/
def ToneLine.SameVoice (a b : ToneLine) : Prop :=
  b.frequency = a.frequency ∧ b.dayVolume = a.dayVolume ∧ b.nightVolume = a.nightVolume

theorem arbitrate_voice (b : Bool) (l : ToneLine) : l.SameVoice (l.arbitrate b) := by
  unfold ToneLine.arbitrate
  split
  · exact ⟨rfl, rfl, rfl⟩
  · split <;> exact ⟨rfl, rfl, rfl⟩

theorem follow_voice (o n : Indication) (l : ToneLine) : l.SameVoice (l.follow o n) := by
  unfold ToneLine.follow
  split
  · exact ⟨rfl, rfl, rfl⟩
  · simp only
    split
    · split
      · exact ⟨rfl, rfl, rfl⟩
      · split <;> exact ⟨rfl, rfl, rfl⟩
    · exact ⟨rfl, rfl, rfl⟩

theorem begun_voice (i : Indication) (l : ToneLine) : l.SameVoice (l.begun i) := by
  unfold ToneLine.begun
  simp only
  split
  · exact ⟨rfl, rfl, rfl⟩
  · split <;> exact ⟨rfl, rfl, rfl⟩

theorem confirm_voice (i : Indication) (l : ToneLine) : l.SameVoice (l.confirm i) := by
  unfold ToneLine.confirm
  split <;> exact ⟨rfl, rfl, rfl⟩

theorem millisecond_voice (b : Bool) (l : ToneLine) : l.SameVoice (l.millisecond b) := by
  unfold ToneLine.millisecond
  simp only
  split
  · split <;> exact ⟨rfl, rfl, rfl⟩
  · exact arbitrate_voice b l.count

theorem ToneLine.SameVoice.trans {a b c : ToneLine} (h : a.SameVoice b) (k : b.SameVoice c) : a.SameVoice c :=
  ⟨k.1.trans h.1, k.2.1.trans h.2.1, k.2.2.trans h.2.2⟩

theorem lineAfresh_voice (s : State) (i : Line) (l : ToneLine) : l.SameVoice (lineAfresh s i l) := by
  unfold lineAfresh
  split
  · exact (begun_voice _ l).trans (arbitrate_voice _ _)
  · exact ⟨rfl, rfl, rfl⟩

/-- A bank of tone lines replaced by lines with the same voice. -/
theorem voices_acts {s : State} (f : Line → ToneLine → ToneLine)
    (h : ∀ (i : Line) (l : ToneLine), l.SameVoice (f i l)) :
    Acts s { s with tones := vmap f s.tones } := tones_acts _ (fun i => by rw [vmap_get]; exact h i _)

theorem tonesFollow_acts (c : Chan) (o n : Indication) (s : State) : Acts s (tonesFollow c o n s) := by
  refine voices_acts _ (fun i l => ?_)
  split
  · exact (follow_voice o n l).trans (arbitrate_voice _ _)
  · exact ⟨rfl, rfl, rfl⟩

theorem confirmRequest_acts (d : Det) (s : State) : Acts s (confirmRequest d s) := by
  refine voices_acts _ (fun i l => ?_)
  split
  · exact (confirm_voice _ l).trans (arbitrate_voice _ _)
  · exact ⟨rfl, rfl, rfl⟩

theorem signsFollow_acts (c : Chan) (s : State) : Acts s (signsFollow c s) := by
  unfold signsFollow
  split
  · exact signs_acts _ ⟨rfl, rfl, rfl⟩ ⟨rfl, rfl, rfl, rfl⟩
  · exact .refl

theorem leaveGreen_acts (c : Chan) (s : State) : Acts s (leaveGreen c s) := by
  have h1 : Acts s (s.setGreen c (s.green c).idle) := setGreen_acts id
  have h2 : ∀ (t : State) (m : ChanSet), Acts t { t with seq := { t.seq with owedEnds := m } } :=
    fun t m => seq_acts _ rfl rfl
  unfold leaveGreen handLocking
  exact (h1.trans (h2 _ _)).trans (requestLatches_acts _ _)

end Sys2Proof.Machine

/-! PROOFS. The channels, the step sequencer, the preempts and the unit mode as chains of acts. -/

namespace Sys2Proof.Machine

/-! ### Channels (R5 to R9) -/

theorem setChan_setChan (s : State) (c : Chan) (a b : Channel) : (s.setChan c a).setChan c b = s.setChan c b := by
  simp [State.setChan, vset]

theorem loaded_eq (s : State) (c : Chan) (n : Nat) (f : Timing → Timing → Timing) :
    loadTimer c n (copyActive c f s) =
      s.setChan c { s.chan c with activeSet := f (s.chan c).pendingSet (s.chan c).activeSet, timer := n } := by
  simp [loadTimer, copyActive, setChan_setChan]

theorem copyGreen_inRange {p a : Timing} (hp : p.InRange) (ha : a.InRange) : (copyGreen p a).InRange :=
  ⟨hp.minGreen, hp.addedInitial, hp.maxInitial, hp.maxGap, hp.minGap, hp.tbr, hp.ttr, hp.maxGreen, ha.amber, ha.redClear,
    ha.walk, ha.pedClear, hp.greens, hp.initials, hp.gaps⟩

theorem copyAmber_inRange {p a : Timing} (hp : p.InRange) (ha : a.InRange) : (copyAmber p a).InRange :=
  ⟨ha.minGreen, ha.addedInitial, ha.maxInitial, ha.maxGap, ha.minGap, ha.tbr, ha.ttr, ha.maxGreen, hp.amber, ha.redClear,
    ha.walk, ha.pedClear, ha.greens, ha.initials, ha.gaps⟩

theorem copyRedClear_inRange {p a : Timing} (hp : p.InRange) (ha : a.InRange) : (copyRedClear p a).InRange :=
  ⟨ha.minGreen, ha.addedInitial, ha.maxInitial, ha.maxGap, ha.minGap, ha.tbr, ha.ttr, ha.maxGreen, ha.amber, hp.redClear,
    ha.walk, ha.pedClear, ha.greens, ha.initials, ha.gaps⟩

theorem copyWalk_inRange {p a : Timing} (hp : p.InRange) (ha : a.InRange) : (copyWalk p a).InRange :=
  ⟨ha.minGreen, ha.addedInitial, ha.maxInitial, ha.maxGap, ha.minGap, ha.tbr, ha.ttr, ha.maxGreen, ha.amber, ha.redClear,
    hp.walk, ha.pedClear, ha.greens, ha.initials, ha.gaps⟩

theorem copyPedClear_inRange {p a : Timing} (hp : p.InRange) (ha : a.InRange) : (copyPedClear p a).InRange :=
  ⟨ha.minGreen, ha.addedInitial, ha.maxInitial, ha.maxGap, ha.minGap, ha.tbr, ha.ttr, ha.maxGreen, ha.amber, ha.redClear,
    ha.walk, hp.pedClear, ha.greens, ha.initials, ha.gaps⟩

/-- A channel with a record stored enters an indication: one move of the channel, and what its tones, signs and greens
follow with. -/
theorem enter_stored_chain {b : Bool} {s : State} {c : Chan} {r : Channel} {i : Indication}
    (h : ChanMove b s c { r with ind := i, staged := patternOf r i }) :
    Relation.ReflTransGen (Act b) s (enter c i (s.setChan c r)) := by
  have tail (u : State) (o : Indication) : Relation.ReflTransGen (Act b) u (signsFollow c (tonesFollow c o i u)) :=
    Acts.any ((tonesFollow_acts c o i u).trans (signsFollow_acts c _))
  have moved : Relation.ReflTransGen (Act b) s (s.setChan c { r with ind := i, staged := patternOf r i }) :=
    .single (.chan c _ h)
  unfold enter
  simp only [setChan_chan, setChan_setChan]
  split
  · exact (moved.trans (tail _ _)).trans (Acts.any (leaveGreen_acts c _))
  · exact moved.trans (tail _ _)

/-- A channel that is not DARK enters an indication with its timer loaded and part of its active set copied: a released
indication only from a released one or with no incompatible channel released. -/
theorem enter_loaded_chain {b : Bool} {s : State} {c : Chan} {i : Indication} {n : Nat} {f : Timing → Timing → Timing}
    (hf : ∀ {p a : Timing}, p.InRange → a.InRange → (f p a).InRange) (hd : (s.chan c).ind ≠ .dark)
    (hr : i.released = true → (s.chan c).ind.released = true ∨
      (s.unit.mode.isControl = true ∧ ∀ j, compatible s.compat.inUse c j = false → (s.chan j).ind.released = false))
    (ht : b = true → ¬ ((s.chan c).ind = .amber ∨ (s.chan c).ind = .redClear)) :
    Relation.ReflTransGen (Act b) s (enter c i (loadTimer c n (copyActive c f s))) := by
  rw [loaded_eq]
  exact enter_stored_chain ⟨rfl, rfl, rfl, rfl, hf, fun _ k => absurd k hd, hr, fun hb _ k => absurd k (ht hb)⟩

theorem enterPedClear_acts {c : Chan} {s : State} (h : (s.chan c).ind = .green) : Acts s (enterPedClear c s) :=
  enter_loaded_chain copyPedClear_inRange (by simp [h]) (fun _ => .inl (by simp [h, Indication.released])) (by simp [h])

theorem terminateChannel_acts (c : Chan) (s : State) : Acts s (terminateChannel c s) := by
  unfold terminateChannel
  simp only
  split
  · next h =>
    split
    · exact .refl
    · exact enter_loaded_chain copyAmber_inRange (by simp [h]) (fun _ => .inl (by simp [h, Indication.released]))
        (by simp [h])
    · exact enterPedClear_acts h
  · exact .refl

theorem terminateAll_acts (m : ChanSet) (s : State) : Acts s (terminateAll m s) := by
  refine foldl_acts _ (fun s c => ?_) _ s
  split
  · exact terminateChannel_acts c s
  · exact .refl

theorem cutClearance_acts (n : Nat) (c : Chan) (s : State) : Acts s (cutClearance n c s) := by
  unfold cutClearance
  simp only
  split
  · next h =>
    obtain ⟨-, hi, -⟩ := h
    have move : ChanMove true s c { s.chan c with timer := n } :=
      ⟨rfl, rfl, rfl, rfl, fun _ k => k, fun _ k => absurd k (by simp [hi]), fun k => .inl k,
        fun _ _ k => absurd k (by simp [hi])⟩
    exact (Act.chan c _ move).acts
  · exact .refl

theorem cutClearances_acts (n : Nat) (m : ChanSet) (s : State) : Acts s (cutClearances n m s) := by
  refine foldl_acts _ (fun s c => ?_) _ s
  split
  · exact .refl
  · exact cutClearance_acts n c s

theorem setChan_keep_eq (s : State) (c : Chan) : s.setChan c (s.chan c) = s := by
  have : vset s.chans c (s.chan c) = s.chans := bank_ext (fun j => by
    rw [vset_get]; split
    · next hj => rw [hj]; rfl
    · rfl)
  simp [State.setChan, this]

/-- The expiry of an interval (R7 to R9). -/
theorem expireChannel_expiries (c : Chan) (s : State) : Expiries s (expireChannel c s) := by
  have clearance (hi : (s.chan c).ind = .amber ∨ (s.chan c).ind = .pedClear) : Expiries s (enterClearance c s) := by
    have hd : (s.chan c).ind ≠ .dark := by rcases hi with hi | hi <;> simp [hi]
    unfold enterClearance
    simp only
    split
    · exact enter_loaded_chain copyRedClear_inRange hd (by simp [Indication.released]) (by simp)
    · exact enter_loaded_chain copyRedClear_inRange hd (by simp [Indication.released]) (by simp)
  unfold expireChannel
  simp only
  split
  · next hi => exact clearance (.inl hi)
  · next hi => exact clearance (.inr hi)
  · next hi =>
    have move : ChanMove false s c { s.chan c with ind := .red, staged := patternOf (s.chan c) .red } :=
      ⟨rfl, rfl, rfl, rfl, fun _ k => k, fun _ k => absurd k (by simp [hi]), fun k => absurd k (by simp [Indication.released]),
        by simp⟩
    have := enter_stored_chain move
    rwa [setChan_keep_eq] at this
  · next hi =>
    split
    · exact Acts.any (enterPedClear_acts hi)
    · exact .refl
  all_goals exact .refl

/-- A channel at its start moment, every incompatible one RED or DARK (R44). -/
theorem startChannel_acts {c : Chan} {s : State} (hm : s.unit.mode.isControl = true)
    (hj : ∀ j, compatible s.compat.inUse c j = false → (s.chan j).ind.released = false) : Acts s (startChannel c s) := by
  unfold startChannel
  simp only
  split
  · next h =>
    have hd : (s.chan c).ind ≠ .dark := by simp [h]
    split
    · exact .refl
    · have e : copyActive c copyGreen s =
          s.setChan c { s.chan c with activeSet := copyGreen (s.chan c).pendingSet (s.chan c).activeSet } := rfl
      rw [e]
      refine (enter_stored_chain (s := s) (c := c) (i := .green)
        (r := { s.chan c with activeSet := copyGreen (s.chan c).pendingSet (s.chan c).activeSet })
        ⟨rfl, rfl, rfl, rfl, copyGreen_inRange, fun _ k => absurd k hd, fun _ => .inr ⟨hm, hj⟩,
        fun _ _ k => absurd k (by simp [h])⟩).trans ?_
      exact setGreen_acts (fun k => by simp [Green.start] at k)
    · have walked : Acts s (enter c .green (loadTimer c (s.chan c).pendingSet.walk (copyActive c copyWalk s))) :=
        enter_loaded_chain copyWalk_inRange hd (fun _ => .inr ⟨hm, hj⟩) (by simp [h])
      exact walked.trans (setGreen_acts (fun k => by cases k))
  · exact .refl

/-! ### The step sequencer (R39 to R51) -/

theorem beginTransition_acts (m : ChanSet) (o : Owner) (s : State) : Acts s (beginTransition m o s) :=
  seq_acts _ rfl rfl

theorem beginStepTransition_acts (m : ChanSet) (s : State) : Acts s (beginStepTransition m s) :=
  (beginTransition_acts m .step s).trans (terminateAll_acts _ _)

theorem setClass_acts (c : Chan) (k : TransitionClass) (s : State) : Acts s (setClass c k s) := by
  unfold setClass
  split
  · exact seq_acts _ rfl rfl
  · exact .refl

theorem setClass_parts (c : Chan) (k : TransitionClass) (s : State) :
    (setClass c k s).chans = s.chans ∧ (setClass c k s).unit = s.unit ∧ (setClass c k s).compat = s.compat := by
  unfold setClass
  split <;> exact ⟨rfl, rfl, rfl⟩

theorem startMoment_acts {c : Chan} {s : State} (hm : s.unit.mode.isControl = true)
    (hj : ∀ j, compatible s.compat.inUse c j = false → (s.chan j).ind.released = false) : Acts s (startMoment c s) := by
  unfold startMoment
  split
  · exact setClass_acts _ _ _
  · obtain ⟨h1, h2, h3⟩ := setClass_parts c .started s
    refine (setClass_acts c .started s).trans (startChannel_acts (by rwa [h2]) (fun j => ?_))
    rw [h3, State.chan, h1]
    exact hj j

/-- A start moment leaves no incompatible channel released (R44). -/
theorem mayStart_clear {s : State} {t : Transition} {c : Chan} (h : s.mayStart t s.clearMask c = true) (j : Chan)
    (hj : compatible s.compat.inUse c j = false) : (s.chan j).ind.released = false := by
  simp only [State.mayStart, Bool.and_eq_true, beq_iff_eq] at h
  have k := mask_eq_zero.mp h.2 j
  simp only [conflictsOf, State.clearMask, has_and, has_not, has_maskOf, hj] at k
  cases hi : (s.chan j).ind <;> simp_all [Indication.released]

theorem toHead_mem {q : List StepRecord} {i : Nat} {r : StepRecord} (h : r ∈ toHead q i) : r ∈ q := by
  unfold toHead at h
  split at h
  · next x hx =>
    rcases List.mem_cons.mp h with h | h
    · exact h ▸ List.mem_of_getElem? hx
    · exact List.mem_of_mem_eraseIdx h
  · exact h

theorem toHead_length (q : List StepRecord) (i : Nat) : (toHead q i).length = q.length := by
  unfold toHead
  split
  · next x hx =>
    obtain ⟨hi, -⟩ := List.getElem?_eq_some_iff.mp hx
    rw [List.length_cons, List.length_eraseIdx_of_lt hi]
    omega
  · rfl

theorem makeCurrent_acts (i : Nat) (drop : Bool) (s : State) : Acts s (makeCurrent i drop s) := by
  unfold makeCurrent
  simp only
  refine Relation.ReflTransGen.trans (Act.acts (Act.seq _ ?_ ?_ ?_)) (beginStepTransition_acts _ _)
  · intro r hr
    split at hr
    · exact hr
    · simp only at hr
      split at hr
      · exact toHead_mem (List.mem_of_mem_eraseIdx hr)
      · exact toHead_mem hr
  · split
    · exact Nat.le_refl _
    · simp only
      split
      · exact (List.length_eraseIdx_le _ _).trans (toHead_length _ _).le
      · exact (toHead_length _ _).le
  · split <;> rfl

/-! ### The preempts (R105 to R113) -/

theorem move_acts {r q : Preempt} (h : r.move = some q) : q.cfg = r.cfg ∧ (q.serving = true → r.serving = true) := by
  refine ⟨(move_same h).2.2.2.2, fun k => ?_⟩
  unfold Preempt.move at h
  split at h
  · split at h <;> cases h
    simp [Preempt.serving] at k
  · split at h
    · cases h; simp [Preempt.serving] at k
    · split at h <;> cases h
      simp [Preempt.serving] at k
  · split at h <;> cases h
    simp [Preempt.serving] at k
  · next hs => simp [Preempt.serving, hs]
  all_goals cases h

theorem truncate_acts (cfg : PreemptConfig) (m : ChanSet) (s : State) : Acts s (truncate cfg m s) := by
  have cut (s : State) : Acts s (cutGreens cfg.minGreen m s) := by
    refine greens_acts _ (fun c h => ?_)
    rw [vmap_get] at h
    split at h <;> exact h
  have owed (u : State) (o : ChanSet) : Acts u { u with seq := { u.seq with owedEnds := o } } := seq_acts _ rfl rfl
  have four (a b c : ChanSet) : Acts s (terminateAll c
      { terminateAll a (cutGreens cfg.minGreen m s) with
        seq := { (terminateAll a (cutGreens cfg.minGreen m s)).seq with owedEnds := b } }) :=
    (((cut s).trans (terminateAll_acts a _)).trans (owed _ b)).trans (terminateAll_acts c _)
  unfold truncate
  simp only
  split
  · exact (four _ _ _).trans (cutClearances_acts _ _ _)
  · exact four _ _ _

/-- A change of the slot and of one preempt, judged with only the holder in service before. -/
theorem setPre_slot_acts {s : State} {p : Pre} {r : Preempt} {a : Arbiter} (hc : r.cfg = (s.pre p).cfg)
    (hs : s.SlotSafe → r.serving = true → a.holder = some p)
    (ho : s.SlotSafe → ∀ q, q ≠ p → (s.pre q).serving = true → a.holder = some q) :
    Acts s { s.setPre p r with arb := a } := by
  refine Act.acts (.slot (vset s.pres p r) a (fun i h => ?_) (fun k i h => ?_))
  · rw [vset_get]
    split
    · next hj => subst hj; rw [hc]; exact h
    · exact h
  · rw [vset_get] at h
    split at h
    · next hj => subst hj; exact hs k h
    · next hj => exact ho k i hj h

theorem setPre_keep_eq (s : State) (p : Pre) : s.setPre p (s.pre p) = s := by
  have : vset s.pres p (s.pre p) = s.pres := bank_ext (fun j => by
    rw [vset_get]; split
    · next hj => rw [hj]; rfl
    · rfl)
  simp [State.setPre, this]

theorem terminateAll_pre (m : ChanSet) (s : State) (p : Pre) : ((terminateAll m s).pre p).cfg = (s.pre p).cfg :=
  ((terminateAll_keeps m s).levels p).2.2.2.2

/-- An operation on the channels leaves the preempts and the slot. -/
def SlotSame (s t : State) : Prop := t.pres = s.pres ∧ t.arb = s.arb

theorem SlotSame.trans {s t u : State} (h : SlotSame s t) (k : SlotSame t u) : SlotSame s u :=
  ⟨k.1.trans h.1, k.2.trans h.2⟩

theorem requestLatches_slot (m : ChanSet) (s : State) : SlotSame s (requestLatches m s) := by
  obtain ⟨g, h⟩ := requestLatches_eq m s
  rw [h]; exact ⟨rfl, rfl⟩

theorem leaveGreen_slot (c : Chan) (s : State) : SlotSame s (leaveGreen c s) := by
  unfold leaveGreen handLocking
  simp only
  obtain ⟨g, h⟩ := requestLatches_eq (maskOf (fun j => j == c) &&& State.lockingConds
    { s.setGreen c (s.green c).idle with
      seq := { (s.setGreen c (s.green c).idle).seq with
        owedEnds := eraseBit (s.setGreen c (s.green c).idle).seq.owedEnds c } })
    { s.setGreen c (s.green c).idle with
      seq := { (s.setGreen c (s.green c).idle).seq with
        owedEnds := eraseBit (s.setGreen c (s.green c).idle).seq.owedEnds c } }
  rw [h]
  exact ⟨rfl, rfl⟩

theorem signsFollow_slot (c : Chan) (s : State) : SlotSame s (signsFollow c s) := by
  unfold signsFollow
  split <;> exact ⟨rfl, rfl⟩

theorem enter_slot (c : Chan) (i : Indication) (s : State) : SlotSame s (enter c i s) := by
  have told (r : Channel) : SlotSame s (signsFollow c (tonesFollow c (s.chan c).ind i (s.setChan c r))) :=
    SlotSame.trans (t := tonesFollow c (s.chan c).ind i (s.setChan c r)) ⟨rfl, rfl⟩ (signsFollow_slot c _)
  unfold enter
  simp only
  split
  · exact (told _).trans (leaveGreen_slot c _)
  · exact told _

theorem terminateChannel_slot (c : Chan) (s : State) : SlotSame s (terminateChannel c s) := by
  unfold terminateChannel
  simp only
  split
  · split
    · exact ⟨rfl, rfl⟩
    · exact enter_slot _ _ _
    · exact enter_slot _ _ _
  · exact ⟨rfl, rfl⟩

theorem foldl_slot {α : Type} (f : State → α → State) (h : ∀ s a, SlotSame s (f s a)) (l : List α) (s : State) :
    SlotSame s (l.foldl f s) := by
  induction l generalizing s with
  | nil => exact ⟨rfl, rfl⟩
  | cons a l ih => exact (h s a).trans (ih _)

theorem terminateAll_slot (m : ChanSet) (s : State) : SlotSame s (terminateAll m s) := by
  refine foldl_slot _ (fun s c => ?_) _ s
  split
  · exact terminateChannel_slot c s
  · exact ⟨rfl, rfl⟩

theorem truncate_slot (cfg : PreemptConfig) (m : ChanSet) (s : State) : SlotSame s (truncate cfg m s) := by
  have four (a b c : ChanSet) : SlotSame s (terminateAll c
      { terminateAll a (cutGreens cfg.minGreen m s) with
        seq := { (terminateAll a (cutGreens cfg.minGreen m s)).seq with owedEnds := b } }) :=
    SlotSame.trans (t := { terminateAll a (cutGreens cfg.minGreen m s) with seq := _ })
      (terminateAll_slot a (cutGreens cfg.minGreen m s)) (terminateAll_slot c _)
  unfold truncate
  simp only
  split
  · refine (four _ _ _).trans (foldl_slot _ (fun s c => ?_) _ _)
    split
    · exact ⟨rfl, rfl⟩
    · unfold cutClearance; simp only; split <;> exact ⟨rfl, rfl⟩
  · exact four _ _ _

/-- A preempt takes the slot of a holder that is not in service (R108). -/
theorem enterService_acts {p : Pre} {s : State} (h : ∀ q, s.arb.holder = some q → (s.pre q).serving = false) :
    Acts s (enterService p s) := by
  unfold enterService
  simp only
  have h1 : Acts s (stopStep s) := seq_acts _ rfl rfl
  have h2 : Acts (stopStep s) { stopStep s with
      arb := { (stopStep s).arb with holder := some p, interrupted := s.arb.interrupted || s.seq.current } } :=
    Act.acts (.slot _ _ (fun _ k => k) (fun k i e => by
      have := h i (k i e)
      exact absurd e (by simpa [State.pre] using this)))
  have h3 := (beginTransition_acts (s.pre p).firstTarget .preempt { stopStep s with
    arb := { (stopStep s).arb with holder := some p, interrupted := s.arb.interrupted || s.seq.current } }).trans
    (truncate_acts (s.pre p).cfg (s.pre p).firstTarget _)
  refine ((h1.trans h2).trans h3).trans ?_
  have same := truncate_slot (s.pre p).cfg (s.pre p).firstTarget (beginTransition (s.pre p).firstTarget .preempt
    { stopStep s with
      arb := { (stopStep s).arb with holder := some p, interrupted := s.arb.interrupted || s.seq.current } })
  generalize truncate _ _ _ = u at same ⊢
  obtain ⟨hp, ha⟩ := same
  have hc : (u.pre p).cfg = (s.pre p).cfg := by simp [State.pre, hp]
  refine setPre_slot_acts (a := u.arb) hc.symm (fun _ _ => by rw [ha]; rfl) (fun k q _ e => k q e)

/-! ### Changes of unit mode and notices -/

theorem recordFinding_acts (s : State) (f : Finding) : Acts s (recordFinding s f) := by
  obtain ⟨r, m, e, hn, ho⟩ := recordFinding_cases s f
  rw [e]
  have h1 : Acts s { s with mon := { s.mon with record := some r } } :=
    Act.acts (.mon _ id (fun old h => ⟨true, by rw [ho old h], fun _ => rfl⟩))
  exact h1.trans (link_acts _ ⟨rfl, rfl, rfl⟩ rfl)

theorem recordFindings_acts (fs : List Finding) (s : State) : Acts s (recordFindings fs s) :=
  foldl_acts _ recordFinding_acts fs s

theorem faultNotice_acts (fs : List Finding) (s : State) : Acts s (faultNotice fs s) := by
  obtain ⟨r, m, e⟩ := recordFindings_eq fs s
  rcases faultNotice_cases fs s with ⟨-, h⟩ | ⟨-, -, h⟩ | ⟨-, hm, -, h⟩
  · rw [h]
  · rw [h]; exact recordFindings_acts fs s
  · rw [h]; exact (recordFindings_acts fs s).tail (.faultFlash (by rw [e]; exact hm))

theorem monitorNotice_acts (fs : List Finding) (s : State) : Acts s (monitorNotice fs s) := by
  obtain ⟨k, h, -⟩ := monitorNotice_eq fs s
  rw [h]
  exact (faultNotice_acts fs s).trans (mon_acts _ rfl rfl)

theorem linkLoss_acts (s : State) : Acts s (linkLoss s) := by
  unfold linkLoss
  split
  · next h => exact (Act.clearing _ h).acts
  · split
    · exact unit_acts _ ⟨rfl, rfl, rfl⟩ ⟨rfl, rfl, rfl⟩
    · exact .refl

theorem switchOn_acts (s : State) : Acts s (switchOn s) := by
  unfold switchOn
  split
  · next h => exact (Act.clearing _ h).acts
  · exact .refl

/-! ### The judgments of a moment -/

theorem judgeRequests_acts {s t : State} (h : judgeRequests s = some t) : Acts s t := by
  unfold judgeRequests at h
  split at h
  · cases h
  · split at h <;> cases h
    next hm => exact setPre_acts (move_acts hm).1 (move_acts hm).2

theorem judgeSlot_acts {s t : State} (h : judgeSlot s = some t) : Acts s t := by
  unfold judgeSlot at h
  split at h
  · cases h
  · next p _ =>
    split at h
    · next hh => cases h; exact enterService_acts (fun q k => by simp [hh] at k)
    · next q hq =>
      have out : (s.pre q).putOut.serving = false := by
        simp only [Preempt.putOut, Preempt.serving]
        split <;> rfl
      split at h <;> cases h
      refine (setPre_acts (p := q) (r := (s.pre q).putOut) rfl (fun k => by simp [out] at k)).trans
        (enterService_acts (fun i k => ?_))
      have : i = q := by simpa [hq] using k.symm
      subst this
      simpa using out

/-- A judgment of the slot holder that changes its run state and leaves it in or out of service as it was. -/
theorem judgeStage_acts {s t : State} (h : judgeStage s = some t) : Acts s t := by
  unfold judgeStage at h
  split at h
  · cases h
  · simp only at h
    split at h <;> cases h
    exact setPre_acts rfl id

theorem judgeStart_acts {s t : State} (hm : s.unit.mode = .controlled) (h : judgeStart s = some t) : Acts s t := by
  unfold judgeStart at h
  split at h
  · cases h
  · simp only at h
    split at h <;> cases h
    next c hc => exact startMoment_acts (by rw [hm]; rfl) (mayStart_clear (List.find?_some hc))

theorem judgeFull_acts {s t : State} (h : judgeFull s = some t) : Acts s t := by
  have gone : Acts s { s with seq := { s.seq with transition := none } } := seq_acts _ rfl rfl
  unfold judgeFull at h
  split at h
  · cases h
  · split at h
    · split at h
      · cases h; exact seq_acts _ rfl rfl
      · simp only at h
        split at h
        · next p _ =>
          cases h
          refine gone.trans (setPre_acts (atFullGreen_same _).2.2.2.2 (fun k => ?_))
          unfold Preempt.atFullGreen at k
          split at k
          · next he => simp [Preempt.serving, he]
          · next he => simp [Preempt.serving, he]
          all_goals exact k
        · cases h; exact gone
    · cases h

theorem judgeTrack_acts {s t : State} (h : judgeTrack s = some t) : Acts s t := by
  unfold judgeTrack at h
  split at h
  · cases h
  · next p _ =>
    simp only at h
    split at h <;> cases h
    next hk =>
    refine Relation.ReflTransGen.trans ?_ (terminateAll_acts _ _)
    refine Relation.ReflTransGen.trans ?_ (beginTransition_acts _ _ _)
    exact setPre_acts rfl (fun _ => by simp [Preempt.serving, hk.1])

theorem judgeDwell_acts {s t : State} (h : judgeDwell s = some t) : Acts s t := by
  unfold judgeDwell at h
  split at h
  · cases h
  · next p hp =>
    simp only at h
    split at h
    · next hk =>
      split at h <;> cases h
      · refine setPre_slot_acts rfl (fun _ k => by simp [Preempt.serving] at k) (fun k q hq e => ?_)
        exact absurd (Option.some.inj ((k q e).symm.trans hp)) hq
      · exact setPre_acts rfl (fun _ => by simp [Preempt.serving, hk.1])
    · cases h

theorem judgeExit_acts {s t : State} (h : judgeExit s = some t) : Acts s t := by
  unfold judgeExit at h
  split at h
  · cases h
  · next p hp =>
    simp only at h
    split at h
    · split at h <;> cases h
      refine Relation.ReflTransGen.trans ?_ (makeCurrent_acts _ _ _)
      refine setPre_slot_acts rfl (fun _ k => ?_) (fun k q hq e => ?_)
      · simp only [Preempt.serving] at k
        split at k <;> simp at k
      · exact absurd (Option.some.inj ((k q e).symm.trans hp)) hq
    · cases h

theorem judgeTermination_acts {s t : State} (h : judgeTermination s = some t) : Acts s t := by
  unfold judgeTermination at h
  split at h
  · split at h
    · cases h
    · split at h
      · split at h
        · cases h; exact makeCurrent_acts _ _ _
        · split at h <;> cases h
          exact seq_acts _ rfl rfl
      · split at h <;> cases h
        exact seq_acts _ rfl rfl
  · cases h

theorem judgeFirst_acts {s t : State} (h : judgeFirst s = some t) : Acts s t := by
  unfold judgeFirst at h
  split at h
  · cases h
  · split at h <;> cases h
    exact makeCurrent_acts _ _ _

theorem judgeClearing_acts {s t : State} (hm : s.unit.mode = .clearingToFlash) (h : judgeClearing s = some t) :
    Acts s t := by
  unfold judgeClearing at h
  split at h
  · cases h; exact terminateAll_acts _ _
  · split at h <;> cases h
    next ha => exact (Act.localFlash (.inr ⟨hm, ha⟩)).acts

/-- Every judgment of a moment is a chain of acts. -/
theorem judge_acts {s t : State} (h : judge s = some t) : Acts s t := by
  rcases judge_cases h with h | h | ⟨hm, h | h | h | h | h | h | h | h | h | h⟩ | ⟨hm, h⟩
  · unfold judgeClocks at h
    simp only at h
    split at h <;> cases h
    refine greens_acts _ (fun c k => ?_)
    rw [vmap_get] at k
    split at k <;> exact k
  · exact judgeRequests_acts h
  · exact judgeSlot_acts h
  · unfold judgeOwed at h
    simp only at h
    split at h <;> cases h
    exact terminateAll_acts _ _
  · exact judgeStage_acts h
  · exact judgeStart_acts hm h
  · exact judgeFull_acts h
  · exact judgeTrack_acts h
  · exact judgeDwell_acts h
  · exact judgeExit_acts h
  · exact judgeTermination_acts h
  · exact judgeFirst_acts h
  · exact judgeClearing_acts hm h

/-- The settling of a moment is a chain of acts. -/
theorem settle_acts (old new : State) : Acts new (settle old new) :=
  settle_induction (fun t => Acts new t) (fun _ _ hj h => (h.trans (judge_acts hj)).trans (noting_acts _ _)) old new
    (noting_acts old new)

end Sys2Proof.Machine

/-! PROOFS. The detectors, the plug and the time as chains of acts. -/

namespace Sys2Proof.Machine

/-! ### What the detector block may do (R84 to R98) -/

/-- Two detector records with the same stored configuration. -/
structure Detector.SameConfig (a b : Detector) : Prop where
  mode : b.mode = a.mode
  callMask : b.callMask = a.callMask
  extendMask : b.extendMask = a.extendMask
  delay : b.delay = a.delay
  locking : b.locking = a.locking
  maxPresence : b.maxPresence = a.maxPresence
  maxAbsence : b.maxAbsence = a.maxAbsence
  chatterLimit : b.chatterLimit = a.chatterLimit
  failAction : b.failAction = a.failAction
  wrongWay : b.wrongWay = a.wrongWay

theorem Detector.SameConfig.refl (a : Detector) : a.SameConfig a := ⟨rfl, rfl, rfl, rfl, rfl, rfl, rfl, rfl, rfl, rfl⟩

theorem Detector.SameConfig.trans {a b c : Detector} (h : a.SameConfig b) (k : b.SameConfig c) : a.SameConfig c :=
  ⟨k.1.trans h.1, k.2.trans h.2, k.3.trans h.3, k.4.trans h.4, k.5.trans h.5, k.6.trans h.6, k.7.trans h.7,
    k.8.trans h.8, k.9.trans h.9, k.10.trans h.10⟩

/-- What the detector block does at an event: its records, its masks and the green records and tone lines it tells change,
and the link's flags; no configuration changes, and a latch is set on a used channel only. -/
structure DetStep (s t : State) : Prop where
  frame : ∃ d m g v f, t = { s with dets := d, detMasks := m, greens := g, tones := v, link := { s.link with flags := f } }
  config : ∀ i, (s.det i).SameConfig (t.det i)
  latch : ∀ c, (t.green c).latch = true → (s.green c).latch = true ∨ (s.chan c).used = true
  voice : ∀ i, (s.line i).SameVoice (t.line i)

theorem DetStep.refl (s : State) : DetStep s s :=
  ⟨⟨_, _, _, _, _, rfl⟩, fun _ => .refl _, fun _ h => .inl h, fun _ => ⟨rfl, rfl, rfl⟩⟩

theorem DetStep.trans {s t u : State} (h : DetStep s t) (k : DetStep t u) : DetStep s u where
  frame := by
    obtain ⟨d, m, g, v, f, e⟩ := h.frame
    obtain ⟨d', m', g', v', f', e'⟩ := k.frame
    exact ⟨d', m', g', v', f', by rw [e', e]⟩
  config i := (h.config i).trans (k.config i)
  latch c e := by
    obtain ⟨d, m, g, v, f, e'⟩ := h.frame
    have hc : t.chan c = s.chan c := by rw [e']; rfl
    exact (k.latch c e).elim (h.latch c) (fun x => .inr (hc ▸ x))
  voice i := (h.voice i).trans (k.voice i)

theorem DetStep.foldl {α : Type} (f : State → α → State) (h : ∀ s a, DetStep s (f s a)) (l : List α) (s : State) :
    DetStep s (l.foldl f s) := by
  induction l generalizing s with
  | nil => exact .refl s
  | cons a l ih => exact (h s a).trans (ih _)

/-- A step of the detector block under a condition. -/
theorem DetStep.ite {p : Prop} [Decidable p] {s a b : State} (ha : p → DetStep s a) (hb : ¬ p → DetStep s b) :
    DetStep s (if p then a else b) := by
  split
  · next h => exact ha h
  · next h => exact hb h

theorem DetStep.acts {s t : State} (h : DetStep s t) : Acts s t := by
  obtain ⟨d, m, g, v, f, e⟩ := h.frame
  have hd : Acts s { s with dets := d, detMasks := m } := dets_acts d m (fun i => by
    have k := h.config i
    rw [e] at k
    exact ⟨k.chatterLimit, k.delay, k.maxPresence, k.maxAbsence⟩)
  have hg : Acts { s with dets := d, detMasks := m } { s with dets := d, detMasks := m, greens := g } :=
    Act.acts (.greens g (fun c k => h.latch c (by rw [e]; exact k)))
  have hv : Acts { s with dets := d, detMasks := m, greens := g }
      { s with dets := d, detMasks := m, greens := g, tones := v } := tones_acts v (fun i => by
    have k := h.voice i
    rw [e] at k
    exact k)
  rw [e]
  exact ((hd.trans hg).trans hv).trans (link_acts _ ⟨rfl, rfl, rfl⟩ rfl)

theorem setDet_step {s : State} {d : Det} {r : Detector} (h : (s.det d).SameConfig r) : DetStep s (s.setDet d r) := by
  refine ⟨⟨_, _, _, _, _, rfl⟩, fun i => ?_, fun _ h => .inl h, fun _ => ⟨rfl, rfl, rfl⟩⟩
  by_cases e : i = d
  · subst e; simpa using h
  · rw [setDet_det_other s r e]; exact .refl _

theorem requestLatches_step (m : ChanSet) (s : State) : DetStep s (requestLatches m s) := by
  obtain ⟨g, h⟩ := requestLatches_eq m s
  refine ⟨⟨s.dets, s.detMasks, g, s.tones, s.link.flags, h⟩, fun i => ?_, fun c k => ?_, fun i => ?_⟩
  · rw [h]; exact .refl _
  · rw [requestLatches_green] at k
    split at k
    · next e => exact .inr e.2.1
    · exact .inl k
  · rw [h]; exact ⟨rfl, rfl, rfl⟩

theorem actuate_latch (m : ChanSet) (s : State) (c : Chan) : ((actuate m s).green c).latch = (s.green c).latch := by
  unfold actuate
  split
  · rfl
  · simp only [State.green, vmap_get]
    split
    · exact actuated_latch _ _ _
    · rfl

theorem actuate_step (m : ChanSet) (s : State) : DetStep s (actuate m s) := by
  obtain ⟨g, h⟩ := actuate_eq m s
  refine ⟨⟨s.dets, s.detMasks, g, s.tones, s.link.flags, h⟩, fun i => ?_, fun c k => ?_, fun i => ?_⟩
  · rw [h]; exact .refl _
  · rw [actuate_latch] at k; exact .inl k
  · rw [h]; exact ⟨rfl, rfl, rfl⟩

theorem confirmRequest_step (d : Det) (s : State) : DetStep s (confirmRequest d s) := by
  refine ⟨⟨s.dets, s.detMasks, s.greens, _, s.link.flags, rfl⟩, fun _ => .refl _, fun _ h => .inl h, fun i => ?_⟩
  simp only [confirmRequest, State.line, vmap_get]
  split
  · exact (confirm_voice _ _).trans (arbitrate_voice _ _)
  · exact ⟨rfl, rfl, rfl⟩

/-- New masks of the DETECTOR report, with its flag. -/
theorem masks_step (m : DetectorMasks) (s : State) : DetStep s (flag .detector { s with detMasks := m }) :=
  ⟨⟨s.dets, m, s.greens, s.tones, _, rfl⟩, fun _ => .refl _, fun _ h => .inl h, fun _ => ⟨rfl, rfl, rfl⟩⟩

theorem markChanged_step (d : Det) (s : State) : DetStep s (markChanged d s) := masks_step _ s

theorem setFault_step (d : Det) (k : DetectorFault) (s : State) : DetStep s (setFault d k s) := by
  unfold setFault
  split
  · exact .refl s
  · refine DetStep.trans ?_ (markChanged_step d _)
    exact setDet_step ⟨rfl, rfl, rfl, rfl, rfl, rfl, rfl, rfl, rfl, rfl⟩

theorem handBegun_step (old s : State) : DetStep s (handBegun old s) := requestLatches_step _ s

theorem ownOnEdge_step (d : Det) (s : State) : DetStep s (ownOnEdge d s) := by
  have cleared : DetStep s (if (s.det d).fault = .noActivity then setFault d .ok s else s) := by
    split
    · exact setFault_step _ _ _
    · exact .refl s
  unfold ownOnEdge
  simp only
  refine cleared.trans ?_
  generalize (if (s.det d).fault = .noActivity then setFault d .ok s else s) = u
  have counted : ∀ u : State, DetStep u (u.setDet d { u.det d with
      volume := (u.det d).volume + 1, presence := 0, absence := 0, window := min 255 ((u.det d).window + 1) }) :=
    fun u => setDet_step ⟨rfl, rfl, rfl, rfl, rfl, rfl, rfl, rfl, rfl, rfl⟩
  split
  · exact (counted _).trans (setFault_step _ _ _)
  · exact counted _

theorem ownOffEdge_step (d : Det) (s : State) : DetStep s (ownOffEdge d s) := by
  have zero : DetStep s (s.setDet d { s.det d with presence := 0 }) :=
    setDet_step ⟨rfl, rfl, rfl, rfl, rfl, rfl, rfl, rfl, rfl, rfl⟩
  unfold ownOffEdge
  simp only
  split
  · exact zero.trans (setFault_step _ _ _)
  · exact zero

theorem turnLevel_step (d : Det) (s : State) : DetStep s (turnLevel d s) := by
  have turned : DetStep s (s.setDet d { s.det d with level := !(s.det d).level, run := 0 }) :=
    setDet_step ⟨rfl, rfl, rfl, rfl, rfl, rfl, rfl, rfl, rfl, rfl⟩
  unfold turnLevel
  simp only
  split
  · exact turned
  · exact turned.trans (confirmRequest_step d _)

theorem ownEdge_step (d : Det) (s : State) : DetStep s (ownEdge d s) := by
  have edge (u : State) (b : Bool) : DetStep u (if b then ownOnEdge d u else ownOffEdge d u) := by
    split
    · exact ownOnEdge_step d u
    · exact ownOffEdge_step d u
  unfold ownEdge
  simp only
  refine (turnLevel_step d s).trans ?_
  split
  · exact .refl _
  · refine DetStep.trans ?_ (edge _ _)
    exact setDet_step ⟨rfl, rfl, rfl, rfl, rfl, rfl, rfl, rfl, rfl, rfl⟩
  all_goals exact edge _ _

theorem singleActuation_step (d : Det) (s : State) : DetStep s (singleActuation d s) := by
  unfold singleActuation
  simp only
  split
  · split
    · exact actuate_step _ _
    · exact (requestLatches_step _ _).trans (actuate_step _ _)
    all_goals exact .refl s
  · exact .refl s

theorem countReverse_step (d : Det) (s : State) : DetStep s (countReverse d s) := by
  have counted : DetStep s (s.setDet d { s.det d with reverse := (s.det d).reverse + 1 }) :=
    setDet_step ⟨rfl, rfl, rfl, rfl, rfl, rfl, rfl, rfl, rfl, rfl⟩
  unfold countReverse
  simp only
  split
  · exact counted.trans (masks_step _ _)
  · exact counted

theorem pairEdges_step (d : Det) (was a b : Bool) (s : State) : DetStep s (pairEdges d was a b s) := by
  unfold pairEdges
  simp only
  have moved (k : Direction) (n : Nat) : DetStep s (s.setDet d { s.det d with direction := k, delayTimer := n }) :=
    setDet_step ⟨rfl, rfl, rfl, rfl, rfl, rfl, rfl, rfl, rfl, rfl⟩
  split
  · refine DetStep.ite (fun _ => moved _ _) (fun _ => ?_)
    refine DetStep.trans ?_ (actuate_step _ _)
    exact moved _ _
  · refine DetStep.trans ?_ (setDet_step (d := d) ⟨rfl, rfl, rfl, rfl, rfl, rfl, rfl, rfl, rfl, rfl⟩)
    exact moved _ _
  · refine DetStep.trans ?_ (countReverse_step _ _)
    exact moved _ _
  · exact moved _ _

theorem pairLevels_step (d : Det) (m : DetSet) (s : State) : DetStep s (pairLevels d m s) := by
  unfold pairLevels
  simp only
  refine DetStep.ite (fun _ => DetStep.trans ?_ (handBegun_step s _)) (fun _ => .refl s)
  refine DetStep.trans (DetStep.ite (p := has m d = true) (fun _ => ownEdge_step d s) (fun _ => .refl s)) ?_
  generalize (if has m d = true then ownEdge d s else s) = u
  refine DetStep.trans
    (DetStep.ite (p := has m (partner d) = true) (fun _ => ownEdge_step (partner d) u) (fun _ => .refl u)) ?_
  generalize (if has m (partner d) = true then ownEdge (partner d) u else u) = v
  refine DetStep.ite (fun _ => pairEdges_step _ _ _ _ _) (fun _ => ?_)
  refine DetStep.trans (DetStep.ite (p := has m d = true) (fun _ => singleActuation_step d v) (fun _ => .refl v)) ?_
  exact DetStep.ite (fun _ => singleActuation_step (partner d) _) (fun _ => .refl _)

theorem detectorLevels_step (m : DetSet) (s : State) : DetStep s (detectorLevels m s) := by
  unfold detectorLevels
  exact DetStep.foldl _ (fun s d => DetStep.ite (fun _ => pairLevels_step d m s) (fun _ => .refl s)) _ s

/-- Every detector record replaced by one of the same configuration. -/
theorem mapDets_step {s : State} (f : Det → Detector → Detector) (h : ∀ (d : Det) (r : Detector), r.SameConfig (f d r)) :
    DetStep s { s with dets := vmap f s.dets } := by
  refine ⟨⟨vmap f s.dets, s.detMasks, s.greens, s.tones, s.link.flags, rfl⟩, fun i => ?_, fun c k => ?_, fun i => ?_⟩
  · simp only [State.det, vmap_get]
    exact h i _
  · exact .inl (by simpa only [State.green] using k)
  · simp only [State.line]
    exact ⟨rfl, rfl, rfl⟩

theorem scanDetectors_step (m : BitVec 24) (s : State) : DetStep s (scanDetectors m s) := by
  unfold scanDetectors
  simp only
  refine DetStep.trans ?_ (detectorLevels_step _ _)
  exact mapDets_step _ (fun _ _ => ⟨rfl, rfl, rfl, rfl, rfl, rfl, rfl, rfl, rfl, rfl⟩)

theorem takeTimedFault_step (s : State) (d : Det) : DetStep s (takeTimedFault s d) := by
  unfold takeTimedFault
  split
  · exact setFault_step _ _ _
  · exact .refl s

theorem endWindow_step (s : State) (d : Det) : DetStep s (endWindow s d) := by
  have stored (n : Nat) : DetStep s (s.setDet d { s.det d with window := 0, cleanRun := n }) :=
    setDet_step ⟨rfl, rfl, rfl, rfl, rfl, rfl, rfl, rfl, rfl, rfl⟩
  unfold endWindow
  simp only
  refine DetStep.ite (fun _ => .refl s) (fun _ => DetStep.ite (fun _ => ?_) (fun _ => stored _))
  refine DetStep.ite (fun _ => DetStep.trans ?_ (setFault_step _ _ _)) (fun _ => stored _)
  exact stored _

theorem endWindows_step (s : State) : DetStep s (endWindows s) := by
  unfold endWindows
  exact DetStep.foldl _ endWindow_step _ s

theorem detectorTick_config (b : Bool) (r : Detector) : r.SameConfig (r.tick b) := by
  unfold Detector.tick
  split
  · exact .refl r
  · exact ⟨rfl, rfl, rfl, rfl, rfl, rfl, rfl, rfl, rfl, rfl⟩

theorem tickDetectors_step (s : State) : DetStep s (tickDetectors s) := by
  have faults : DetStep s ((List.finRange 24).foldl takeTimedFault
      { s with dets := vmap (fun d r => r.tick (s.detOccupied d)) s.dets }) := by
    refine DetStep.trans ?_ (DetStep.foldl _ takeTimedFault_step _ _)
    exact mapDets_step _ (fun _ _ => detectorTick_config _ _)
  unfold tickDetectors
  simp only
  refine DetStep.trans ?_ (handBegun_step s _)
  exact DetStep.ite (fun _ => faults.trans (endWindows_step _)) (fun _ => faults)

/-! ### The preemption inputs and the switch (R104, R139) -/

theorem scanPreempts_acts (m : BitVec 4) (s : State) : Acts s (scanPreempts m s) := by
  refine pres_acts _ (fun i => ?_)
  rw [vmap_get]
  simp only
  split <;> exact ⟨rfl, id⟩

theorem tickPreempts_acts (s : State) : Acts s (tickPreempts s) := by
  refine pres_acts _ (fun i => ?_)
  rw [vmap_get]
  exact ⟨rfl, id⟩

theorem turnSwitch_acts (s : State) : Acts s (turnSwitch s) := by
  have turned : Acts s { s with unit := { s.unit with switchLevel := !s.unit.switchLevel, switchRun := 0 } } :=
    unit_acts _ ⟨rfl, rfl, rfl⟩ ⟨rfl, rfl, rfl⟩
  unfold turnSwitch
  simp only
  split
  · exact turned.trans (switchOn_acts _)
  · exact turned

theorem scanSwitch_acts (b : Bool) (s : State) : Acts s (scanSwitch b s) := by
  unfold scanSwitch
  simp only
  split
  · exact turnSwitch_acts s
  · exact unit_acts _ ⟨rfl, rfl, rfl⟩ ⟨rfl, rfl, rfl⟩

/-! ### The plug (R22 to R29) -/

/-- An update of the compatibility state that leaves the two tables and an owed notice. -/
theorem compat_acts {s : State} (p : Compat) (h : p.inUse = s.compat.inUse ∧ p.hostCopy = s.compat.hostCopy ∧
    p.isMatch = s.compat.isMatch ∧ p.owed = s.compat.owed) : Acts s { s with compat := p } := by
  obtain ⟨h1, h2, h3, h4⟩ := h
  exact Act.acts (.compat p h1 (by rw [h4]; exact id) (fun k => by rw [h1, h2, h3]; exact k))

theorem setPlugStatus_acts (k : PlugStatus) (s : State) : Acts s (setPlugStatus k s) :=
  (compat_acts { s.compat with status := k } ⟨rfl, rfl, rfl, rfl⟩).trans (flagIf_acts _ _ _)

theorem plugNotice_acts (k : FaultCause) (s : State) : Acts s (plugNotice k s) := by
  rcases plugNotice_cases k s with ⟨hm, h⟩ | ⟨-, -, h⟩ | ⟨-, -, h⟩ | ⟨-, h⟩
  · obtain ⟨r, m, e, -⟩ := recordFinding_cases s ⟨k, 0, 0⟩
    have entered : Acts s (enterFaultFlash (recordFinding s ⟨k, 0, 0⟩)) :=
      (recordFinding_acts s _).tail (.faultFlash (by rw [e]; intro he; change s.unit.mode = _ at he; simp [he] at hm; cases hm))
    rw [h]
    rcases keepSample_cases s (enterFaultFlash (recordFinding s ⟨k, 0, 0⟩)) with ⟨-, e⟩ | ⟨-, e⟩
    · rw [e]; exact entered
    · rw [e]; exact entered.trans (mon_acts _ rfl rfl)
  · rw [h]; exact recordFinding_acts _ _
  · rw [h]
    exact Act.acts (.compat _ rfl (fun e => by cases ho : s.compat.owed <;> simp [ho] at e ⊢) id)
  · rw [h]

theorem applyContent_acts (t : PairTable) (s : State) : Acts s (applyContent t s) := by
  unfold applyContent
  split
  · exact .refl
  · exact (Act.replace t).acts

theorem completeRead_acts (cells : BitVec 128) (s : State) : Acts s (completeRead cells s) := by
  have read : Acts s { s with compat := { s.compat with reading := none, previous := some (classRead cells) } } :=
    compat_acts _ ⟨rfl, rfl, rfl, rfl⟩
  have confirmed (r : PlugRead) (u : State) : Acts u (confirmRead r u) := by
    have agreed : Acts u { u with compat := { u.compat with disagreements := 0 } } :=
      compat_acts _ ⟨rfl, rfl, rfl, rfl⟩
    unfold confirmRead
    simp only
    refine agreed.trans ?_
    split
    · exact (setPlugStatus_acts _ _).trans (applyContent_acts _ _)
    · split
      · exact setPlugStatus_acts _ _
      · exact (setPlugStatus_acts _ _).trans (plugNotice_acts _ _)
  have disagreed (u : State) : Acts u (disagreeRead u) := by
    have counted : Acts u { u with compat := { u.compat with disagreements := u.compat.disagreements + 1 } } :=
      compat_acts _ ⟨rfl, rfl, rfl, rfl⟩
    unfold disagreeRead
    simp only
    split
    · exact .refl
    · split
      · exact (counted.trans (setPlugStatus_acts _ _)).trans (plugNotice_acts _ _)
      · exact counted
  unfold completeRead
  simp only
  split
  · exact read
  · split
    · exact read.trans (confirmed _ _)
    · exact read.trans (disagreed _)

/-! ### The tenth tick (R152, R4, R126, R141) -/

/-- The tenth counter and the interval timers at one tenth tick, what a tick does before anything follows from it. -/
def tickOnce (s : State) : State := tickChannels (tickCounter s)

theorem tickGreens_acts (s : State) : Acts s (tickGreens s) := by
  refine greens_acts _ (fun c h => ?_)
  rw [vmap_get] at h
  split at h <;> exact h

theorem tickStep_acts (s : State) : Acts s (tickStep s) := by
  unfold tickStep
  split
  · exact seq_acts _ rfl rfl
  · exact .refl

theorem unitTick_acts (s : State) : Acts s { s with unit := s.unit.tick } := by
  refine unit_acts _ ?_ ?_
  all_goals
    unfold UnitState.tick
    split <;> exact ⟨rfl, rfl, rfl⟩

theorem tickMonitor_acts (s : State) : Acts s (tickMonitor s).1 := by
  unfold tickMonitor
  split
  · exact mon_acts _ rfl rfl
  · exact .refl

theorem tickSigns_acts (s : State) : Acts s (tickSigns s) := by
  unfold tickSigns Signs.tick
  split
  · split <;> exact signs_acts _ ⟨rfl, rfl, rfl⟩ ⟨rfl, rfl, rfl, rfl⟩
  · exact .refl

theorem tickStatus_acts (s : State) : Acts s (tickStatus s) := by
  unfold tickStatus
  split
  · exact .refl
  · split
    · exact link_acts _ ⟨rfl, rfl, rfl⟩ rfl
    · exact Relation.ReflTransGen.trans (link_acts { s.link with statusTimer := s.link.statusPeriod * 10 }
        ⟨rfl, rfl, rfl⟩ rfl) (flag_acts _ _)

theorem loseLink_acts (s : State) : Acts s (loseLink s) :=
  Relation.ReflTransGen.trans (link_acts { s.link with supervision := 0, lost := true } ⟨rfl, rfl, rfl⟩ rfl)
    (flagIf_acts _ _ _)

theorem tickSupervision_acts (s : State) : Acts s (tickSupervision s) := by
  unfold tickSupervision
  split
  · exact loseLink_acts s
  · exact link_acts _ ⟨rfl, rfl, rfl⟩ rfl

theorem driveTick_acts (s : State) : Acts (tickOnce s) (driveTick s).1 := by
  have timers := ((((tickStep_acts (tickOnce s)).trans (tickGreens_acts _)).trans (tickDetectors_step _).acts).trans
    (tickPreempts_acts _)).trans (tickMonitor_acts _)
  exact ((timers.trans (unitTick_acts _)).trans (tickSigns_acts _)).trans
    ((tickStatus_acts _).trans (tickSupervision_acts _))

/-- An entry into an indication touches no other channel (R11). -/
theorem enter_chan (c : Chan) (i : Indication) (s : State) (j : Chan) : (enter c i s).chan j =
    if j = c then { s.chan c with ind := i, staged := patternOf (s.chan c) i } else s.chan j := by
  have req (m : ChanSet) (u : State) : (requestLatches m u).chans = u.chans := by
    obtain ⟨g, h⟩ := requestLatches_eq m u; rw [h]
  have sig (u : State) : (signsFollow c u).chans = u.chans := by unfold signsFollow; split <;> rfl
  have leave (u : State) : (leaveGreen c u).chans = u.chans := req _ _
  have stored (r : Channel) : ((s.setChan c r).chan j) = if j = c then r else s.chan j := by
    split
    · next h => rw [h, setChan_chan]
    · next h => exact setChan_chan_other s r h
  rw [← stored]
  unfold enter State.chan
  simp only
  split
  · rw [leave, sig]; rfl
  · rw [sig]; rfl

theorem loaded_chan (s : State) (c j : Chan) (n : Nat) (f : Timing → Timing → Timing) (h : j ≠ c) :
    (loadTimer c n (copyActive c f s)).chan j = s.chan j := by
  rw [loaded_eq, setChan_chan_other _ _ h]

theorem expireChannel_other {c j : Chan} (s : State) (h : j ≠ c) : (expireChannel c s).chan j = s.chan j := by
  unfold expireChannel
  simp only
  split
  · unfold enterClearance; simp only; split <;> rw [enter_chan, if_neg h, loaded_chan _ _ _ _ _ h]
  · unfold enterClearance; simp only; split <;> rw [enter_chan, if_neg h, loaded_chan _ _ _ _ _ h]
  · rw [enter_chan, if_neg h]
  · split
    · unfold enterPedClear; rw [enter_chan, if_neg h, loaded_chan _ _ _ _ _ h]
    · rfl
  all_goals rfl

theorem expireAll_expiries (m : ChanSet) (s : State) : Expiries s (expireAll m s) := by
  unfold expireAll
  induction List.finRange 16 generalizing s with
  | nil => exact .refl
  | cons c l ih =>
    rw [List.foldl_cons]
    refine Relation.ReflTransGen.trans ?_ (ih _)
    split
    · exact expireChannel_expiries c s
    · exact .refl

/-- A channel whose interval does not expire is left by the expiries of a tick. -/
theorem expireAll_chan {m : ChanSet} {c : Chan} (h : has m c = false) (s : State) :
    (expireAll m s).chan c = s.chan c := by
  unfold expireAll
  induction List.finRange 16 generalizing s with
  | nil => rfl
  | cons a l ih =>
    rw [List.foldl_cons, ih]
    split
    · next e => exact expireChannel_other s (fun x => by rw [x, e] at h; cases h)
    · rfl

theorem takeEntryRedEnd_acts (b : Bool) (s : State) : Acts s (takeEntryRedEnd b s) := by
  unfold takeEntryRedEnd
  split
  · next h =>
    simp only [Bool.and_eq_true, beq_iff_eq] at h
    exact (Act.controlled h.2).acts.trans (settle_acts _ _)
  · exact .refl

/-- One tenth tick: the counter and the interval timers once and a chain of acts, the expiries of the channels whose
intervals had run out, and a chain of acts. -/
theorem tenthTick_acts (s : State) : ∃ v, Acts (tickOnce s) v ∧ Acts (expireAll s.expiring v) (tenthTick s) := by
  refine ⟨monitorNotice (redFindings (driveTick s).2) (driveTick s).1,
    (driveTick_acts s).trans (monitorNotice_acts _ _), ?_⟩
  have first := settle_acts s (expireAll s.expiring (monitorNotice (redFindings (driveTick s).2) (driveTick s).1))
  unfold tenthTick
  simp only
  have second := first.trans (takeEntryRedEnd_acts (s.unit.mode == .entryRed && s.unit.entryRedTimer == 1) _)
  split
  · exact (second.trans (linkLoss_acts _)).trans (settle_acts _ _)
  · exact second

end Sys2Proof.Machine

/-! PROOFS. The crossings, the commands and the link as chains of acts, and every command as one of five shapes. -/

namespace Sys2Proof.Machine

/-! ### Crossing events and ticks (R153 to R157) -/

/-- A chain of acts with one tenth tick in it, and the expiries of the channels whose intervals had run out before it. -/
def Ticks (s t : State) : Prop := ∃ u v w, Acts s u ∧ Acts (tickOnce u) v ∧ w = expireAll u.expiring v ∧ Acts w t

/-- A chain of acts with at most one tenth tick in it. -/
def Does (s t : State) : Prop := Acts s t ∨ Ticks s t

theorem Does.after {s t u : State} (h : Acts s t) (k : Does t u) : Does s u :=
  k.elim (fun k => .inl (h.trans k)) (fun ⟨v, w, x, a, b⟩ => .inr ⟨v, w, x, h.trans a, b⟩)

theorem Does.then {s t u : State} (h : Does s t) (k : Acts t u) : Does s u :=
  h.elim (fun h => .inl (h.trans k)) (fun ⟨v, w, x, a, b, c, d⟩ => .inr ⟨v, w, x, a, b, c, d.trans k⟩)

theorem tenthAt_ticks (m : Nat) (s : State) : Ticks s (tenthAt m s) := by
  obtain ⟨v, h1, h2⟩ := tenthTick_acts { s with time := { s.time.seen m with lastTenth := m } }
  exact ⟨_, v, _, time_acts { s.time.seen m with lastTenth := m } rfl rfl ⟨rfl, rfl, rfl⟩, h1, rfl, h2⟩

theorem fallbackTick_does (b : Bool) (m : Nat) (s : State) : Does s (fallbackTick b m s) := by
  unfold fallbackTick
  split
  · exact .inr (tenthAt_ticks m s)
  · exact .inl .refl

theorem dropLock_acts (s : State) : Acts s (dropLock s) :=
  Relation.ReflTransGen.trans
    (time_acts { s.time with lock := .acquiring, goodCount := 0, mainsPaced := false, tenthGiven := false } rfl rfl
      ⟨rfl, rfl, rfl⟩) (flagIf_acts _ _ _)

theorem missLock_acts (s : State) : Acts s (missLock s) := by
  unfold missLock
  split
  · exact .refl
  · exact dropLock_acts s

theorem goodLock_acts (b : Bool) (s : State) : Acts s (goodLock b s) := by
  unfold goodLock
  split
  · exact .refl
  · exact .refl
  · split
    · exact .refl
    · split
      · exact time_acts _ rfl rfl ⟨rfl, rfl, rfl⟩
      · exact Relation.ReflTransGen.trans
          (time_acts { s.time with
            goodCount := Config.lockCount, lock := .locked, mainsPaced := false, tenthGiven := false } rfl rfl
            ⟨rfl, rfl, rfl⟩) (flag_acts _ _)

theorem decide1_acts (p : Nat) (s : State) : Acts s (decide1 p s) := by
  unfold decide1
  simp only
  generalize (if Freq.good .hz50 p then some Freq.hz50 else if Freq.good .hz60 p then some Freq.hz60 else none) = k
  cases k with
  | none => exact time_acts _ rfl rfl ⟨rfl, rfl, rfl⟩
  | some f =>
    simp only
    generalize (if s.time.candidate = some f then s.time.decisionRun + 1 else 1) = n
    split
    · exact time_acts _ rfl rfl ⟨rfl, rfl, rfl⟩
    · exact Relation.ReflTransGen.trans
        (time_acts { s.time with decided := some f, decisionRun := 0, candidate := none } rfl rfl ⟨rfl, rfl, rfl⟩)
        (flag_acts _ _)

theorem lockAtCrossing_acts (p : Option Nat) (s : State) : Acts s (lockAtCrossing p s) := by
  unfold lockAtCrossing
  simp only
  split
  · exact dropLock_acts s
  · cases p with
    | none => exact .refl
    | some p =>
      have judged : Acts s (if s.time.working.good p then goodLock s.time.undecided s else missLock s) := by
        split
        · exact goodLock_acts _ s
        · exact missLock_acts s
      simp only
      generalize (if s.time.working.good p then goodLock s.time.undecided s else missLock s) = u at judged ⊢
      split
      · exact judged.trans (decide1_acts p u)
      · exact judged

theorem mainsCount_acts (s : State) : Acts s (mainsCount s).1 := by
  unfold mainsCount
  split
  · split <;> exact time_acts _ rfl rfl ⟨rfl, rfl, rfl⟩
  · exact .refl

theorem endCount_does (m : Nat) (s : State) : Does s (endCount m s) := by
  rcases endCount_cases m s with ⟨-, h⟩ | ⟨-, h⟩
  · rw [h]; exact .inl (time_acts _ rfl rfl ⟨rfl, rfl, rfl⟩)
  · rw [h]; exact .inr (tenthAt_ticks m s)

theorem realCrossing_does (m : Nat) (s : State) : Does s (realCrossing m s) := by
  have dated (u : State) : Acts u { u with
      time := { u.time.seen m with lastReal := some m, lastCrossing := m, synthetic := false } } :=
    time_acts _ rfl rfl ⟨rfl, rfl, rfl⟩
  have counted := (((lockAtCrossing_acts (s.time.period m) s).trans (dated _)).tail Act.crossing).trans
    (mainsCount_acts _)
  unfold realCrossing
  simp only
  split
  · exact Does.after counted (endCount_does m _)
  · exact Does.after counted (fallbackTick_does _ m _)

theorem syntheticCrossing_does (s : State) : Does s (syntheticCrossing s) := by
  have dated (u : State) (m : Nat) : Acts u { u with
      time := { u.time.seen m with lastCrossing := m, synthetic := true } } := time_acts _ rfl rfl ⟨rfl, rfl, rfl⟩
  have missed : Acts s (if s.time.synthetic then s
      else if s.time.undecided then { missLock s with
        time := { (missLock s).time with decisionRun := 0, candidate := none } } else missLock s) := by
    split
    · exact .refl
    · split
      · exact (missLock_acts s).trans (time_acts _ rfl rfl ⟨rfl, rfl, rfl⟩)
      · exact missLock_acts s
  unfold syntheticCrossing
  exact Does.after ((missed.trans (dated _ _)).tail Act.crossing) (fallbackTick_does _ _ _)

theorem crystalTenth_does (s : State) : Does s (crystalTenth s) := by
  unfold crystalTenth
  split
  · exact .inl .refl
  · simp only
    split
    · exact Does.after (time_acts { s.time with mainsPaced := true, mainsCount := 0 } rfl rfl ⟨rfl, rfl, rfl⟩)
        (.inr (tenthAt_ticks _ _))
    · exact .inr (tenthAt_ticks _ s)

/-! ### The shapes of a command -/

/-- What a command does between its slots: a chain of acts, with one tenth tick or none, one expiry, the restart of an
accepted RESET FAULT, or the end of an outage. -/
inductive Middle : State → State → Prop where
  | does {s t : State} (h : Does s t) : Middle s t
  | expiry {s : State} (c : Chan) (h : (s.chan c).timer = 0) : Middle s (settle s (expireChannel c s))
  | recover {s : State} (hm : s.unit.mode = .faultFlash) (hv : s.compat.status = .valid) :
      Middle s (settle s (restart (emptyRecord s)))
  | resume {s u : State} (k : Supply) (h : Acts s u) (hs : s.unit.mode = .powerOut) (hm : u.unit.mode = .powerOut)
      (hk : k ≠ .dropout) :
      Middle s (settle u (leavePowerOut (flag .supply { u with time := { u.time with category := k } })))

theorem Middle.acts {s t : State} (h : Acts s t) : Middle s t := .does (.inl h)

/-! ### The supply (R158, R159) -/

theorem missLock_eq (s : State) : ∃ t m, missLock s = { s with time := t, link := { s.link with flags := m } } ∧
    t.category = s.time.category ∧ t.tenth = s.time.tenth ∧
    t.dropout = s.time.dropout ∧ t.sag = s.time.sag ∧ t.high = s.time.high := by
  unfold missLock
  split
  · exact ⟨s.time, s.link.flags, rfl, rfl, rfl, rfl, rfl, rfl⟩
  · unfold dropLock
    simp only
    rcases flagIf_cases (s.time.lock != .acquiring) .supply { s with
      time := { s.time with lock := .acquiring, goodCount := 0, mainsPaced := false, tenthGiven := false } } with h | h
    · exact ⟨_, s.link.flags, h, rfl, rfl, rfl, rfl, rfl⟩
    · exact ⟨_, _, h, rfl, rfl, rfl, rfl, rfl⟩

/-- A change of the category that enters, leaves or does not touch POWER_OUT. -/
theorem changeCategory_middle {k : Supply} {s u : State} (hu : Acts s u) (hs : u.unit.mode = s.unit.mode)
    (hk : k ≠ u.time.category) :
    Middle s (changeCategory k u) := by
  unfold changeCategory
  simp only
  split
  · next hd =>
    obtain ⟨t, m, e, h1, h2, h3, h4, h5⟩ := missLock_eq (flag .supply { u with time := { u.time with category := k } })
    have entered : Act true u (enterPowerOut (missLock (flag .supply { u with time := { u.time with category := k } }))) := by
      rw [e]
      exact .powerOut t _ (fun x => hk (hd.trans x.symm)) ⟨h1.trans hd, h2⟩
        (fun h => by simpa [Timebase.InRange, h3, h4, h5, flag] using h) ⟨m, rfl⟩
    exact .does (Does.after ((hu.tail entered).trans (settle_acts _ _)) (fallbackTick_does _ _ _))
  · next hd =>
    split
    · next hm => exact .resume k hu (hs ▸ hm) hm hd
    · next hm => exact .acts (((hu.tail (.supply k hd hm)).trans (flag_acts .supply _)).trans (settle_acts _ _))

theorem takeSample_middle (n : Nat) (s : State) : Middle s (takeSample n s) := by
  unfold takeSample
  simp only
  split
  · exact .acts (time_acts { s.time with
      sampleDue := false, windowCount := s.time.windowCount + 1, windowSum := s.time.windowSum + n } rfl rfl
      ⟨rfl, rfl, rfl⟩)
  · unfold completeWindow
    simp only
    have emptied (r : Nat) : Acts s { s with
        time := { s.time with sampleDue := false, windowCount := 0, windowSum := 0, reading := r } } :=
      time_acts _ rfl rfl ⟨rfl, rfl, rfl⟩
    split
    · exact .acts (emptied _)
    · next hk => exact changeCategory_middle (emptied _) rfl hk

/-! ### The signs (R173 to R177) -/

theorem startExchange_acts {s : State} (h : 0 < s.signs.count) : Acts s (startExchange s) :=
  Act.acts (.signs _ id (fun _ e => by have : s.signs.count = 0 := e; omega))

theorem endExchange_acts (v : Vector Word 9) {s : State} (h : s.signs.shifting = true) : Acts s (endExchange v s) := by
  have ended (b : Bool) (l : List Word) (m : Vector SignModule 8) : Acts s { s with
      signs := { s.signs with
        shifting := false, sck := false, slat := false, sdo := Config.sdoAfter s.signs.transfers
        transfers := s.signs.transfers + 1, chainError := b, buffer := l, modules := m } } :=
    Act.acts (.signs _ id (fun k e => by have := (k e).1; simp [h] at this))
  unfold endExchange
  simp only
  refine Relation.ReflTransGen.trans ?_ (flagIf_acts _ _ _)
  split
  · exact ended _ _ _
  · exact ended _ _ _

theorem isGap_mem {n : Nat} (h : isGap n = true) : n ∈ [0, 1, 2, 4, 8, 16, 32, 64] := by
  simp only [isGap, Bool.or_eq_true, beq_iff_eq] at h
  simp only [List.mem_cons, List.not_mem_nil, or_false]
  omega

theorem changeChain_acts {n p g : Nat} (hn : n ≤ 8) (hp : 2 ≤ p ∧ p ≤ 255) (hg : isGap g = true) (s : State) :
    Acts s (changeChain n p g s) := by
  have abandoned (u : State) : (abandonExchange u).signs.shifting = false := by
    unfold abandonExchange
    split
    · rfl
    · next h => simpa using h
  have frame (u : State) : ∃ x, abandonExchange u = { u with signs := x } := by
    unfold abandonExchange
    split
    · exact ⟨_, rfl⟩
    · exact ⟨u.signs, rfl⟩
  unfold changeChain
  simp only
  obtain ⟨x, e⟩ := frame s
  have hx : x.shifting = false := by have := abandoned s; rwa [e] at this
  rw [e]
  refine Relation.ReflTransGen.trans (Act.acts (.signs _ ?_ ?_)) (flagIf_acts _ _ _)
  · exact fun _ => ⟨hn, hp.1, hp.2, isGap_mem hg⟩
  · intro _ hc
    have hc : n = 0 := hc
    simp only [hc, if_true]
    exact ⟨hx, rfl, rfl, rfl⟩

/-! ### The commands of the host -/

theorem Act.stored {s : State} {c : Chan} {k : ChannelType} {flags : Byte} {rc : Recall} {t : Timing}
    (ht : t.InRange) (hf : k = .unused → s.inASet c = false)
    (hm : k ≠ (s.chan c).kind → s.standingMode.isControl = false) :
    Act true s ((s.setChan c (storeChannel k flags rc t s.unit.mode.copiesTiming (s.chan c))).setGreen c
      (if k = (s.chan c).kind then s.green c else greenAtType k (s.green c))) := by
  refine .retype c _ _ ⟨⟨rfl, rfl, rfl, rfl, rfl⟩, ⟨ht, ?_⟩, ?_, fun hc => ?_, ?_⟩
  · simp only [storeChannel]
    split
    · exact .inl rfl
    · exact .inr rfl
  · intro hk hl
    have hk : k = .unused := hk
    split at hl
    · next e => exact ⟨e.symm.trans hk, hl⟩
    · simp [hk, greenAtType] at hl
  · by_contra e
    have calm := hm e
    have out : s.unit.mode ≠ .powerOut := fun x => by rw [x] at hc; cases hc
    rw [State.standingMode, if_neg out, hc] at calm
    cases calm
  · intro hk _ q hq
    have := hf hk
    simp only [State.inASet, Bool.or_eq_false_iff, List.any_eq_false] at this
    simpa using this.1 q hq

theorem setGreen_keep_eq (s : State) (c : Chan) : s.setGreen c (s.green c) = s := by
  have : vset s.greens c (s.green c) = s.greens := bank_ext (fun j => by
    rw [vset_get]; split
    · next hj => rw [hj]; rfl
    · rfl)
  simp [State.setGreen, this]

theorem stopRedWatch_acts (c : Chan) (s : State) : Acts s (stopRedWatch c s) := by
  unfold stopRedWatch
  split
  · exact .refl
  · exact mon_acts _ rfl rfl

theorem stopRedWatch_eq (c : Chan) (s : State) : ∃ m, stopRedWatch c s = { s with mon := m } := by
  unfold stopRedWatch
  split
  · exact ⟨s.mon, rfl⟩
  · exact ⟨_, rfl⟩

theorem restageFlash_acts (c : Chan) (s : State) : Acts s (restageFlash c s) := by
  unfold restageFlash
  split
  · next h =>
    have move : ChanMove true s c { s.chan c with staged := patternOf (s.chan c) .flash } :=
      ⟨rfl, rfl, rfl, rfl, fun _ k => k, fun _ k => absurd k (by simp [h]), .inl, fun _ _ k => absurd k (by simp [h])⟩
    exact (Act.chan c _ move).acts
  · exact .refl

theorem typeIndication_cases (m : Mode) (k : ChannelType) :
    (m = .localFlash ∧ typeIndication m k = .flash) ∨ typeIndication m k = .dark := by
  unfold typeIndication
  split
  · next h => exact .inl ⟨h.1, rfl⟩
  · exact .inr rfl

theorem showType_acts {c : Chan} {k : ChannelType} {s : State} (hs : s.standingMode.isControl = false) :
    Acts s (showType c k s) := by
  have calm : s.unit.mode.isControl = false := by
    unfold State.standingMode at hs
    split at hs
    · next h => rw [h]; rfl
    · exact hs
  have quiet : (typeIndication s.standingMode k).released = false := by
    rcases typeIndication_cases s.standingMode k with ⟨-, h⟩ | h <;> rw [h] <;> rfl
  have zero : Act true s (loadTimer c 0 s) :=
    .chan c _ ⟨rfl, rfl, rfl, rfl, fun _ k => k, fun _ a b => ⟨a, b⟩, .inl, fun _ m => by simp [calm] at m⟩
  unfold showType
  simp only
  split
  · next hm =>
    refine zero.acts.tail (.held c _ hm (fun hr => ?_) ?_)
    · have hr : s.standingMode.relay = false := hr
      split
      · rfl
      · rcases typeIndication_cases s.standingMode k with ⟨h, -⟩ | h
        · simp [h, Mode.relay] at hr
        · exact h
    · split
      · rfl
      · exact quiet
  · next hm =>
    have stand : s.standingMode = s.unit.mode := by simp [State.standingMode, hm]
    split
    · exact zero.acts
    · refine zero.acts.trans ?_
      have moved : ChanMove true (loadTimer c 0 s) c
          { (loadTimer c 0 s).chan c with
            ind := typeIndication s.standingMode k
            staged := patternOf ((loadTimer c 0 s).chan c) (typeIndication s.standingMode k) } := by
        refine ⟨rfl, rfl, rfl, rfl, fun _ k => k, fun hr _ _ => ?_, fun h => by simp [quiet] at h, fun _ m => ?_⟩
        · rcases typeIndication_cases s.standingMode k with ⟨h, -⟩ | h
          · rw [stand] at h
            have hr : s.unit.mode.relay = false := hr
            simp [h, Mode.relay] at hr
          · exact ⟨h, by rw [h]; rfl⟩
        · have m : s.unit.mode.isControl = true := m
          simp [calm] at m
      have := enter_stored_chain moved
      rwa [setChan_keep_eq] at this

theorem clampTo_range {lo hi v : Nat} (h : lo ≤ hi) : lo ≤ clampTo lo hi v ∧ clampTo lo hi v ≤ hi := by
  unfold clampTo
  split
  · omega
  · split <;> omega

theorem clamped_inRange (t : Timing) : t.clamped.InRange := by
  have a := @clampTo_range 10 2550 t.minGreen (by omega)
  have b := @clampTo_range 0 255 t.addedInitial (by omega)
  have c := @clampTo_range 0 2550 t.maxInitial (by omega)
  have d := @clampTo_range 0 99 t.maxGap (by omega)
  have e := @clampTo_range 0 99 t.minGap (by omega)
  have f := @clampTo_range 0 2550 t.tbr (by omega)
  have g := @clampTo_range 0 2550 t.ttr (by omega)
  have h := @clampTo_range 10 2550 t.maxGreen (by omega)
  have i := @clampTo_range 30 100 t.amber (by omega)
  have j := @clampTo_range 0 60 t.redClear (by omega)
  have k := @clampTo_range 10 2550 t.walk (by omega)
  have l := @clampTo_range 30 2550 t.pedClear (by omega)
  constructor <;>
    simp only [Timing.clamped, Timing.ranged, Timing.raiseMaxGreen, Timing.lowerMaxInitial, Timing.lowerMinGap] <;> omega

theorem applyChannel_acts {c : Chan} {k : ChannelType} {flags : Byte} {rc : Recall} {t : Timing} {s : State}
    (ht : t.InRange) (hf : k = .unused → s.inASet c = false)
    (hm : k ≠ (s.chan c).kind → s.standingMode.isControl = false) : Acts s (applyChannel c k flags rc t s) := by
  have stored := (Act.stored (s := s) (c := c) (flags := flags) (rc := rc) ht hf hm).acts
  unfold applyChannel
  simp only
  split
  · next e =>
    rw [if_pos e] at stored
    have same : (s.setChan c (storeChannel k flags rc t s.unit.mode.copiesTiming (s.chan c))).setGreen c (s.green c) =
        s.setChan c (storeChannel k flags rc t s.unit.mode.copiesTiming (s.chan c)) :=
      setGreen_keep_eq (s.setChan c (storeChannel k flags rc t s.unit.mode.copiesTiming (s.chan c))) c
    rw [same] at stored
    exact (stored.trans (stopRedWatch_acts c _)).trans (restageFlash_acts c _)
  · next e =>
    rw [if_neg e] at stored
    obtain ⟨m, em⟩ := stopRedWatch_eq c (s.setChan c (storeChannel k flags rc t s.unit.mode.copiesTiming (s.chan c)))
    have watch := stopRedWatch_acts c
      ((s.setChan c (storeChannel k flags rc t s.unit.mode.copiesTiming (s.chan c))).setGreen c
        (greenAtType k (s.green c)))
    obtain ⟨m', em'⟩ := stopRedWatch_eq c
      ((s.setChan c (storeChannel k flags rc t s.unit.mode.copiesTiming (s.chan c))).setGreen c
        (greenAtType k (s.green c)))
    have same : (stopRedWatch c (s.setChan c
        (storeChannel k flags rc t s.unit.mode.copiesTiming (s.chan c)))).setGreen c (greenAtType k (s.green c)) =
        stopRedWatch c ((s.setChan c (storeChannel k flags rc t s.unit.mode.copiesTiming (s.chan c))).setGreen c
          (greenAtType k (s.green c))) := by
      unfold stopRedWatch
      have chan : ((s.setChan c (storeChannel k flags rc t s.unit.mode.copiesTiming (s.chan c))).setGreen c
          (greenAtType k (s.green c))).chan c =
          (s.setChan c (storeChannel k flags rc t s.unit.mode.copiesTiming (s.chan c))).chan c := rfl
      rw [chan]
      split <;> rfl
    have green : (stopRedWatch c (s.setChan c
        (storeChannel k flags rc t s.unit.mode.copiesTiming (s.chan c)))).green c = s.green c := by rw [em]; rfl
    rw [green, same]
    refine (stored.trans watch).trans (showType_acts ?_)
    rw [em']
    exact hm e

theorem writeDetector_acts {d : Det} {r : Detector} {s : State} (h : (s.det d).InRange → r.InRange) :
    Acts s (writeDetector d r s) := by
  have written : Acts s (s.setDet d r.restarted) := by
    refine Act.acts (.dets _ s.detMasks (fun i hi => ?_))
    rw [vset_get]
    split
    · next e => subst e; exact h hi
    · exact hi
  unfold writeDetector
  split
  · exact .refl
  · simp only
    split
    · exact written.trans (markChanged_step d _).acts
    · exact written

theorem applyDetector_acts {d : Det} {r : Detector} {s : State} (h : r.InRange) : Acts s (applyDetector d r s) := by
  have lagged (m : DetectorMode) (u : State) (hu : (s.det (partner d)).InRange ↔ (u.det (partner d)).InRange) :
      Acts u (writeDetector (partner d) { s.det (partner d) with mode := m } u) :=
    writeDetector_acts (fun k => by
      have := hu.mpr k
      exact this)
  have other : (writeDetector d r s).det (partner d) = s.det (partner d) := by
    have ne : partner d ≠ d := by
      intro e
      have := congrArg Fin.val e
      unfold partner at this
      split at this <;> simp only at this <;> omega
    unfold writeDetector
    split
    · rfl
    · simp only
      split
      · exact setDet_det_other s _ ne
      · exact setDet_det_other s _ ne
  have both : Acts s (if isLead d then
      writeDetector (partner d)
        { s.det (partner d) with mode := lagMode (s.det d).mode r.mode (s.det (partner d)).mode } (writeDetector d r s)
      else writeDetector d r s) := by
    split
    · exact (writeDetector_acts (fun _ => h)).trans (lagged _ _ (by rw [other]))
    · exact writeDetector_acts (fun _ => h)
  unfold applyDetector
  simp only
  generalize (if isLead d then
      writeDetector (partner d)
        { s.det (partner d) with mode := lagMode (s.det d).mode r.mode (s.det (partner d)).mode } (writeDetector d r s)
      else writeDetector d r s) = u at both ⊢
  split
  · exact both.trans (requestLatches_acts _ _)
  · exact both

theorem clearQueue_acts (s : State) : Acts s (clearQueue s) := by
  have cleared : Acts s { s with seq := { s.seq with queue := clearedQueue s, position := 0 } } := by
    refine Act.acts (.seq _ (fun r h => ?_) ?_ rfl)
    · simp only [clearedQueue, State.record] at h
      split at h
      · exact List.mem_of_getElem? (Option.mem_toList.mp h)
      · cases h
    · simp only [clearedQueue, State.record]
      split
      · cases hq : s.seq.queue[s.seq.position]? with
        | none => simp
        | some r =>
          obtain ⟨hi, -⟩ := List.getElem?_eq_some_iff.mp hq
          simp only [Option.toList_some, List.length_singleton]
          omega
      · simp
  unfold clearQueue
  exact cleared.tail (.slot s.pres _ (fun _ k => k) (fun k i e => k i e))

theorem changeQueueMode_acts (m : QueueMode) (s : State) : Acts s (changeQueueMode m s) := by
  unfold changeQueueMode
  split
  · exact Act.acts (.seq _ (fun r h => List.mem_of_mem_drop h) (by simp) rfl)
  · exact seq_acts _ rfl rfl

theorem applyTimebase_does (n : Nominal) (s : State) : Does s (applyTimebase n s) := by
  have stored : Acts s { s with time := s.time.nominalStored n } := by
    unfold Timebase.nominalStored
    split <;> exact time_acts _ rfl rfl ⟨rfl, rfl, rfl⟩
  unfold applyTimebase
  exact Does.after ((stored.trans (dropLock_acts _)).trans (flagIf_acts _ _ _)) (fallbackTick_does _ _ _)

theorem toNat_le_255 (b : Byte) : b.toNat ≤ 255 := by have := b.isLt; omega

end Sys2Proof.Machine

/-! PROOFS. Every command as acts, a change of the slots, one of the shapes, and a change of the slots. -/

namespace Sys2Proof.Machine

/-! ### The service of a host command -/

theorem serveSetChannel_acts (a b c d : Byte) (t : TimingFields) (s : State) :
    Acts s (serveSetChannel a b c d t s).1 := by
  unfold serveSetChannel
  split
  · split
    · exact .refl
    · split
      · exact .refl
      · next hm =>
        split
        · exact .refl
        · next hf =>
          refine (applyChannel_acts (clamped_inRange _) (fun hk => ?_) (fun hk => ?_)).trans (settle_acts _ _)
          · simpa [hk] using hf
          · simpa [hk] using hm
  · exact .refl

theorem serveSetDimming_acts (a b : Byte) (s : State) : Acts s (serveSetDimming a b s).1 := by
  unfold serveSetDimming
  split
  · exact (Act.dim _ _ (clampTo_range (by omega))).acts
  · exact .refl

theorem serveLoadCompatibility_acts (rows : Vector ChanSet 16) (s : State) :
    Acts s (serveLoadCompatibility rows s).1 := by
  unfold serveLoadCompatibility
  split
  · exact .refl
  · split
    · exact .refl
    · have loaded : Acts s { s with compat := { s.compat with
          hostCopy := some (tableOfRows rows), isMatch := some (tableOfRows rows) == some s.compat.inUse } } :=
        Act.acts (.compat _ rfl id (fun _ => rfl))
      exact loaded.trans (flagIf_acts _ _ _)

theorem storedTime_safe (m : Termination) (n k : Nat) (skip : Bool) (set : ChanSet) :
    StepRecord.timeSafe ⟨k, m, skip, set, storedTime m n⟩ := by
  cases m with
  | fixed =>
    obtain ⟨h1, h2⟩ := @clampTo_range 10 6000 n (by omega)
    exact ⟨_, rfl, h1, h2⟩
  | actuated => rfl

theorem serveQueueStep_acts (a b : Byte) (set : ChanSet) (w : Word) (s : State) :
    Acts s (serveQueueStep a b set w s).1 := by
  unfold serveQueueStep
  split
  · split
    · exact .refl
    · next hl =>
      split
      · exact .refl
      · next hu =>
        split
        · exact .refl
        · next hc =>
          refine (Act.acts (.queued _ _ set _ (by omega) (by simpa using hc) (by simpa using hu) ?_)).trans
            (settle_acts _ _)
          exact fun n => storedTime_safe _ _ _ _ _
  · exact .refl

theorem serveSetQueueMode_acts (a : Byte) (s : State) : Acts s (serveSetQueueMode a s).1 := by
  unfold serveSetQueueMode
  split
  · exact (changeQueueMode_acts _ s).trans (settle_acts _ _)
  · exact .refl

theorem serveHold_acts (a : Byte) (s : State) : Acts s (serveHold a s).1 := by
  unfold serveHold
  split
  · refine Relation.ReflTransGen.trans ?_ (settle_acts _ _)
    exact seq_acts _ rfl rfl
  · exact .refl

theorem serveForceEnd_acts (s : State) : Acts s (serveForceEnd s).1 := by
  unfold serveForceEnd
  split
  · exact .refl
  · refine Relation.ReflTransGen.trans ?_ (settle_acts _ _)
    exact seq_acts _ rfl rfl

theorem serveReadQueue_same (a : Byte) (s : State) : (serveReadQueue a s).1 = s := by
  unfold serveReadQueue
  split <;> rfl

theorem servePlaceCall_acts (m : ChanSet) (s : State) : Acts s (servePlaceCall m s).1 := by
  unfold servePlaceCall
  split
  · exact .refl
  · exact (requestLatches_acts m s).trans (settle_acts _ _)

theorem storeDetector_inRange (f : DetectorFields) (m : DetectorMode) (l w : Bool) (a : FailAction) (r : Detector) :
    (storeDetector f m l a w r).InRange :=
  ⟨clampTo_range (by omega), toNat_le_255 _, toNat_le_255 _, toNat_le_255 _⟩

theorem serveSetDetector_acts (f : DetectorFields) (s : State) : Acts s (serveSetDetector f s).1 := by
  unfold serveSetDetector
  split
  · split
    · exact .refl
    · exact (applyDetector_acts (storeDetector_inRange _ _ _ _ _ _)).trans (settle_acts _ _)
  · exact .refl

theorem serveReadDetectors_acts (a b c : Byte) (s : State) : Acts s (serveReadDetectors a b c s).1 := by
  unfold serveReadDetectors
  split
  · split
    · simp only
      split
      · refine dets_acts _ s.detMasks (fun i => ?_)
        rw [vmap_get]
        split <;> exact ⟨rfl, rfl, rfl, rfl⟩
      · exact .refl
    · exact .refl
  · exact .refl

theorem storedPreempt_inRange {f : PreemptFields} {l t e : Bool} {k : ExitKind} (h : f.priority.toNat ≤ 3) :
    (storedPreempt f l t k e).InRange := by
  have a := toNat_le_255 f.maxPresence
  have b := @clampTo_range 10 2550 f.dwellMin.toNat (by omega)
  refine ⟨⟨h, Nat.min_le_left _ _, b.1, b.2, Nat.le_max_left _ _, ?_⟩, toNat_le_255 _, toNat_le_255 _, toNat_le_255 _⟩
  simp only [storedPreempt]
  omega

theorem serveSetPreempt_acts (f : PreemptFields) (s : State) : Acts s (serveSetPreempt f s).1 := by
  unfold serveSetPreempt
  split
  · split
    · exact .refl
    · next hp =>
      split
      · exact .refl
      · split
        · exact .refl
        · next p l t k e _ _ _ _ _ _ _ =>
          refine Relation.ReflTransGen.trans ?_ (settle_acts _ _)
          have range : (storedPreempt f l t k e).InRange := storedPreempt_inRange (by omega)
          refine Act.acts (.slot (vset s.pres p ((s.pre p).reconfigured (storedPreempt f l t k e))) s.arb
            (fun i hi => ?_) (fun safe i hi => ?_))
          · rw [vset_get]
            split
            · exact range
            · exact hi
          · rw [vset_get] at hi
            split at hi
            · cases hi
            · exact safe i hi
  · exact .refl

theorem serveReadPreempt_same (a : Byte) (s : State) : (serveReadPreempt a s).1 = s := by
  unfold serveReadPreempt
  split <;> rfl

theorem serveEnterControl_acts (s : State) : Acts s (serveEnterControl s).1 := by
  unfold serveEnterControl
  split
  · next h =>
    split
    · exact (Act.entryRed h).acts.trans (settle_acts _ _)
    · exact .refl
  · exact .refl

theorem setCause_acts (k : FlashCause) (s : State) : Acts s (setCause k s) := unit_acts _ ⟨rfl, rfl, rfl⟩ ⟨rfl, rfl, rfl⟩

theorem serveEnterFlash_acts (s : State) : Acts s (serveEnterFlash s).1 := by
  unfold serveEnterFlash
  split
  · next h => exact (Act.clearing _ (.inl h)).acts.trans (settle_acts _ _)
  · next h => exact (Act.clearing _ (.inr h)).acts.trans (settle_acts _ _)
  · exact .refl
  · exact .refl
  · next h =>
    split
    · exact .refl
    · exact ((setCause_acts .host s).tail (.localFlash (.inl h))).trans (settle_acts _ _)
  · exact .refl
  · exact .refl

theorem serveResetFault_middle (s : State) : Middle s (serveResetFault s).1 := by
  unfold serveResetFault
  split
  · next hm =>
    split
    · next hv => exact .recover hm hv
    · exact .acts .refl
  · exact .acts .refl

theorem serveSetStart_acts (a b c d : Byte) (s : State) : Acts s (serveSetStart a b c d s).1 := by
  have r1 := @clampTo_range 30 255 a.toNat (by omega)
  have r2 := @clampTo_range 20 255 b.toNat (by omega)
  have r3 := @clampTo_range 0 20 c.toNat (by omega)
  have r4 := @clampTo_range 10 25 d.toNat (by omega)
  have times : Acts s { s with unit := { s.unit with
      startFlashTime := clampTo 30 255 a.toNat, entryRedTime := clampTo 20 255 b.toNat
      shortOutage := clampTo 0 20 c.toNat } } :=
    Act.acts (.unit _ ⟨rfl, rfl, rfl⟩ (fun _ => ⟨r1.1, r1.2, r2.1, r2.2, r3.2⟩))
  exact times.tail (.mon { s.mon with redFailTime := clampTo 10 25 d.toNat } (fun _ => r4) (RecordKept.refl _))

theorem serveSetTimebase_does (a : Byte) (s : State) : Does s (serveSetTimebase a s).1 := by
  unfold serveSetTimebase
  split
  · exact applyTimebase_does _ s
  · exact .inl .refl

theorem serveSetSupply_acts (a b c : Byte) (s : State) : Acts s (serveSetSupply a b c s).1 := by
  have r1 := @clampTo_range 120 195 b.toNat (by omega)
  have r2 := @clampTo_range 205 250 c.toNat (by omega)
  have r3 := @clampTo_range 60 (clampTo 120 195 b.toNat - 10) a.toNat (by omega)
  exact Act.acts (.time _ rfl rfl (fun _ => ⟨r3.1, by simp only; omega, r1.1, r1.2, r2.1, r2.2⟩))

theorem serveSetTone_acts (f : ToneFields) (s : State) : Acts s (serveSetTone f s).1 := by
  unfold serveSetTone
  split
  · next i ch bt _ _ _ =>
    split
    · exact .refl
    · next h =>
      have h7 : f.frequency.toNat ≤ 7 := by omega
      have range : (storeTone f ch bt (s.line i)).InRange := ⟨h7, Nat.min_le_left _ _, Nat.min_le_left _ _⟩
      have stored : Acts s { s with tones := vset s.tones i (storeTone f ch bt (s.line i)) } := by
        refine Act.acts (.tones _ (fun j hj => ?_))
        rw [vset_get]
        split
        · exact range
        · exact hj
      refine stored.tail (.tones _ (fun j hj => ?_))
      rw [vset_get]
      split
      · obtain ⟨v1, v2, v3⟩ := lineAfresh_voice { s with tones := vset s.tones i (storeTone f ch bt (s.line i)) } i
          (storeTone f ch bt (s.line i))
        unfold ToneLine.InRange
        rw [v1, v2, v3]
        exact range
      · exact hj
  · exact .refl

theorem serveSetSignChain_acts (a b c : Byte) (s : State) : Acts s (serveSetSignChain a b c s).1 := by
  unfold serveSetSignChain
  split
  · exact .refl
  · next h =>
    simp only
    split
    · exact .refl
    · have := toNat_le_255 b
      refine changeChain_acts ?_ ⟨Nat.le_max_left _ _, ?_⟩ ?_ s
      · omega
      · omega
      · by_contra k
        exact h (.inr (by simpa using k))

theorem serveSetSign_acts (f : SignFields) (s : State) : Acts s (serveSetSign f s).1 := by
  unfold serveSetSign
  split
  · split
    · exact .refl
    · exact signs_acts _ ⟨rfl, rfl, rfl⟩ ⟨rfl, rfl, rfl, rfl⟩
  · exact .refl

theorem serveSetLink_acts (a : Byte) (w : Word) (b : Byte) (s : State) : Acts s (serveSetLink a w b s).1 := by
  have := toNat_le_255 a
  exact Act.acts (.link _ ⟨rfl, rfl, rfl⟩ (fun _ => ⟨Nat.le_max_left _ _, by simp only; omega⟩))

theorem serveReadChannel_same (a : Byte) (s : State) : (serveReadChannel a s).1 = s := by
  unfold serveReadChannel
  split <;> rfl

/-- What the service of a command does is one of the shapes. -/
theorem serve_middle (i : Instr) (s : State) : Middle s (serve i s).1 := by
  cases i
  case setLink => exact .acts (serveSetLink_acts _ _ _ s)
  case setChannel => exact .acts (serveSetChannel_acts _ _ _ _ _ s)
  case readChannel a => exact .acts (by simp only [serve, serveReadChannel_same]; exact .refl)
  case setDimming => exact .acts (serveSetDimming_acts _ _ s)
  case loadCompatibility => exact .acts (serveLoadCompatibility_acts _ s)
  case queueStep => exact .acts (serveQueueStep_acts _ _ _ _ s)
  case clearQueue => exact .acts ((clearQueue_acts s).trans (settle_acts _ _))
  case setQueueMode => exact .acts (serveSetQueueMode_acts _ s)
  case hold => exact .acts (serveHold_acts _ s)
  case forceEnd => exact .acts (serveForceEnd_acts s)
  case readQueue => exact .acts (by simp only [serve, serveReadQueue_same]; exact .refl)
  case placeCall => exact .acts (servePlaceCall_acts _ s)
  case setDetector => exact .acts (serveSetDetector_acts _ s)
  case readDetectors => exact .acts (serveReadDetectors_acts _ _ _ s)
  case setPreempt => exact .acts (serveSetPreempt_acts _ s)
  case readPreempt => exact .acts (by simp only [serve, serveReadPreempt_same]; exact .refl)
  case enterControl => exact .acts (serveEnterControl_acts s)
  case enterFlash => exact .acts (serveEnterFlash_acts s)
  case resetFault => exact serveResetFault_middle s
  case setStart => exact .acts (serveSetStart_acts _ _ _ _ s)
  case setTimebase => exact .does (serveSetTimebase_does _ s)
  case setSupply => exact .acts (serveSetSupply_acts _ _ _ s)
  case setTone => exact .acts (serveSetTone_acts _ s)
  case setSignChain => exact .acts (serveSetSignChain_acts _ _ _ s)
  case setSign => exact .acts (serveSetSign_acts _ s)
  all_goals exact .acts .refl

theorem handle_middle (f : Frame) (s : State) : Middle s (handle f s).1 := by
  unfold handle
  split
  · exact .acts .refl
  · exact .acts .refl
  · exact serve_middle _ s

/-! ### What an act leaves of the slots -/

/-- The slots of the link and its transmitter as they were. -/
def SlotsKept (s t : State) : Prop :=
  t.link.held = s.link.held ∧ t.link.reply = s.link.reply ∧ t.link.sending = s.link.sending

theorem SlotsKept.trans {s t u : State} (h : SlotsKept s t) (k : SlotsKept t u) : SlotsKept s u :=
  ⟨k.1.trans h.1, k.2.1.trans h.2.1, k.2.2.trans h.2.2⟩

theorem slotsKept_of_flags {s t : State} (h : ∃ m, t.link = { s.link with flags := m }) : SlotsKept s t := by
  obtain ⟨m, e⟩ := h
  rw [SlotsKept, e]
  exact ⟨rfl, rfl, rfl⟩

theorem requestLatches_link (m : ChanSet) (s : State) : (requestLatches m s).link = s.link := by
  obtain ⟨g, h⟩ := requestLatches_eq m s
  rw [h]

theorem enterFaultFlash_link (s : State) : (enterFaultFlash s).link = s.link := by
  unfold enterFaultFlash handForced handLocking
  simp only [requestLatches_link, changeMode_link]
  rfl

theorem restart_link (s : State) : (restart s).link = s.link := by
  unfold restart
  simp only [changeMode_link]
  rfl

theorem abandonExchange_eq (s : State) : ∃ g, abandonExchange s = { s with signs := g } := by
  unfold abandonExchange
  split
  · exact ⟨_, rfl⟩
  · exact ⟨s.signs, rfl⟩

theorem enterPowerOut_link (s : State) : (enterPowerOut s).link = s.link := by
  unfold enterPowerOut
  simp only [changeMode_link]
  obtain ⟨g, h⟩ := abandonExchange_eq (leaveUnjudged (drivesOff { s with
    chans := vmap (fun _ ch => { ch with ind := .dark, held := if ch.used then some ch.ind else none }) s.chans
    unit := { s.unit with remembered := some s.unit.mode, outageTimer := 0 } }))
  rw [h]
  rfl

theorem enterClearing_link (k : FlashCause) (s : State) : (enterClearing k s).link = s.link := by
  unfold enterClearing leaveService
  simp only [changeMode_link, setCause_link]
  split <;> rfl

theorem recordFinding_link (s : State) (f : Finding) : ∃ m, (recordFinding s f).link = { s.link with flags := m } := by
  obtain ⟨r, m, e, -⟩ := recordFinding_cases s f
  exact ⟨m, by rw [e]⟩

theorem plugNotice_link (k : FaultCause) (s : State) : ∃ m, (plugNotice k s).link = { s.link with flags := m } := by
  obtain ⟨m, hm⟩ := recordFinding_link s ⟨k, 0, 0⟩
  rcases plugNotice_cases k s with ⟨-, h⟩ | ⟨-, -, h⟩ | ⟨-, -, h⟩ | ⟨-, h⟩
  · rw [h]
    rcases keepSample_cases s (enterFaultFlash (recordFinding s ⟨k, 0, 0⟩)) with ⟨-, e⟩ | ⟨-, e⟩
    · rw [e, enterFaultFlash_link]; exact ⟨m, hm⟩
    · rw [e]; simp only [enterFaultFlash_link]; exact ⟨m, hm⟩
  · rw [h]; exact ⟨m, hm⟩
  · rw [h]; exact ⟨s.link.flags, rfl⟩
  · rw [h]; exact ⟨s.link.flags, rfl⟩

theorem faultNotice_link (fs : List Finding) (s : State) : ∃ m, (faultNotice fs s).link = { s.link with flags := m } := by
  obtain ⟨r, m, e⟩ := recordFindings_eq fs s
  rcases faultNotice_cases fs s with ⟨-, h⟩ | ⟨-, -, h⟩ | ⟨-, -, -, h⟩
  · rw [h]; exact ⟨s.link.flags, rfl⟩
  · rw [h, e]; exact ⟨m, rfl⟩
  · rw [h, enterFaultFlash_link, e]; exact ⟨m, rfl⟩

theorem prune_link (s : State) : ∃ m, (prune s).link = { s.link with flags := m } := by
  unfold prune
  simp only
  split
  · exact ⟨s.link.flags, rfl⟩
  · refine ⟨insertBit s.link.flags Report.stage.index, ?_⟩
    simp only [flag_link]
    split <;> rfl

theorem checkPreempts_link (s : State) : ∃ m, (checkPreempts s).link = { s.link with flags := m } := by
  unfold checkPreempts
  simp only
  split
  · exact ⟨s.link.flags, rfl⟩
  · exact ⟨_, rfl⟩

theorem replaceTable_link (t : PairTable) (s : State) : ∃ m, (replaceTable t s).link = { s.link with flags := m } := by
  unfold replaceTable recomputeMatch
  simp only
  obtain ⟨m1, h1⟩ := flagIf_link ((s.compat.hostCopy == some t) != s.compat.isMatch) .status { s with
    compat := { s.compat with inUse := t, isMatch := s.compat.hostCopy == some t } }
  obtain ⟨m2, h2⟩ := prune_link (clearConflicts (flagIf ((s.compat.hostCopy == some t) != s.compat.isMatch) .status { s with
    compat := { s.compat with inUse := t, isMatch := s.compat.hostCopy == some t } }))
  obtain ⟨m3, h3⟩ := checkPreempts_link (prune (clearConflicts (flagIf ((s.compat.hostCopy == some t) != s.compat.isMatch)
    .status { s with compat := { s.compat with inUse := t, isMatch := s.compat.hostCopy == some t } })))
  obtain ⟨m4, h4⟩ := plugNotice_link .plugChanged (checkPreempts (prune (clearConflicts (flagIf
    ((s.compat.hostCopy == some t) != s.compat.isMatch) .status { s with
      compat := { s.compat with inUse := t, isMatch := s.compat.hostCopy == some t } }))))
  refine ⟨m4, ?_⟩
  rw [h4, h3, h2]
  simp only [clearConflicts, h1]

theorem Act.slots {b : Bool} {s t : State} (h : Act b s t) : SlotsKept s t := by
  cases h with
  | link l hs => exact hs
  | replace t => exact slotsKept_of_flags (replaceTable_link t s)
  | faultFlash => rw [SlotsKept, enterFaultFlash_link]; exact ⟨rfl, rfl, rfl⟩
  | clearing => rw [SlotsKept, enterClearing_link]; exact ⟨rfl, rfl, rfl⟩
  | entryRed => rw [SlotsKept, enterEntryRed, changeMode_link]; exact ⟨rfl, rfl, rfl⟩
  | controlled => rw [SlotsKept, enterControlled, changeMode_link]; exact ⟨rfl, rfl, rfl⟩
  | localFlash => rw [SlotsKept, enterLocalFlash, changeMode_link]; exact ⟨rfl, rfl, rfl⟩
  | powerOut t l _ _ _ hl =>
    obtain ⟨m, e⟩ := hl
    rw [SlotsKept, enterPowerOut_link, e]
    exact ⟨rfl, rfl, rfl⟩
  | _ => exact ⟨rfl, rfl, rfl⟩

theorem chain_slots {b : Bool} {s t : State} (h : Relation.ReflTransGen (Act b) s t) : SlotsKept s t :=
  chain_keeps (P := SlotsKept s) (fun _ _ ha hs => hs.trans ha.slots) h ⟨rfl, rfl, rfl⟩

theorem Acts.slots {s t : State} (h : Acts s t) : SlotsKept s t := chain_slots h

theorem tickOnce_link (s : State) : (tickOnce s).link = s.link := by
  unfold tickOnce tickChannels tickCounter
  simp only
  split <;> split <;> rfl

theorem leavePowerOut_link (s : State) : ∃ m, (leavePowerOut s).link = { s.link with flags := m } := by
  have fault (u : State) : (outageToFault u).link = u.link := by
    unfold outageToFault endOutage
    simp only [enterFaultFlash_link]
  have acted (b : Bool) (u : State) : ∃ m, (actOnResume b u).link = { u.link with flags := m } := by
    unfold actOnResume
    simp only
    split
    · next k _ => exact faultNotice_link _ _
    · split
      · rw [enterClearing_link]; exact ⟨_, rfl⟩
      · split
        · rw [enterClearing_link]; exact ⟨_, rfl⟩
        · exact ⟨_, rfl⟩
  unfold leavePowerOut
  split
  · rw [fault]; exact ⟨_, rfl⟩
  · split
    · rw [fault]; exact ⟨_, rfl⟩
    · split
      · next m _ _ _ =>
        obtain ⟨x, e⟩ := acted s.unit.owedLinkLoss (changeMode m (restoreHeld s))
        refine ⟨x, ?_⟩
        unfold shortResume endOutage
        simp only [e, changeMode_link]
        rfl
      · rw [restart_link]; exact ⟨_, rfl⟩

theorem Middle.slots {s t : State} (h : Middle s t) : SlotsKept s t := by
  cases h with
  | does h =>
    rcases h with h | ⟨u, v, w, a, b, rfl, d⟩
    · exact h.slots
    · refine a.slots.trans (SlotsKept.trans ?_ ((b.slots.trans (chain_slots (expireAll_expiries _ v))).trans d.slots))
      rw [SlotsKept, tickOnce_link]
      exact ⟨rfl, rfl, rfl⟩
  | expiry c => exact (chain_slots (expireChannel_expiries c s)).trans (settle_acts _ _).slots
  | recover =>
    refine SlotsKept.trans ?_ (settle_acts _ _).slots
    rw [SlotsKept, restart_link]
    exact slotsKept_of_flags (flagIf_link _ _ _)
  | @resume u k acts =>
    refine acts.slots.trans (SlotsKept.trans ?_ (settle_acts _ _).slots)
    obtain ⟨m, e⟩ := leavePowerOut_link (flag .supply { u with time := { u.time with category := k } })
    exact slotsKept_of_flags ⟨m, e⟩

/-! ### The slots (R183 to R185) -/

/-- A change of the slots and the transmitter only, which leaves them draining. -/
structure SlotsMoved (s t : State) : Prop where
  frame : ∃ l, t = { s with link := l }
  drains : s.link.Drains → t.link.Drains
  range : t.link.supervisionTime = s.link.supervisionTime

theorem SlotsMoved.refl (s : State) : SlotsMoved s s := ⟨⟨s.link, rfl⟩, id, rfl⟩

/-- Acts that leave the unit mode, the fault record, the plug status and the channels. -/
structure Prelude (s t : State) : Prop where
  acts : Acts s t
  mode : t.unit.mode = s.unit.mode
  record : t.mon.record = s.mon.record
  status : t.compat.status = s.compat.status

theorem Prelude.refl (s : State) : Prelude s s := ⟨.refl, rfl, rfl, rfl⟩

theorem Prelude.trans {s t u : State} (h : Prelude s t) (k : Prelude t u) : Prelude s u :=
  ⟨h.acts.trans k.acts, k.mode.trans h.mode, k.record.trans h.record, k.status.trans h.status⟩

/-- Everything a command does: acts, a change of the slots, one of the shapes, and a change of the slots. -/
def Ran (s t : State) : Prop := ∃ a b v, Prelude s a ∧ SlotsMoved a b ∧ Middle b v ∧ SlotsMoved v t

theorem Middle.ran {s t : State} (h : Middle s t) : Ran s t := ⟨s, s, t, .refl s, .refl s, h, .refl t⟩

theorem Acts.ran {s t : State} (h : Acts s t) : Ran s t := (Middle.acts h).ran

theorem Does.ran {s t : State} (h : Does s t) : Ran s t := (Middle.does h).ran

theorem Ran.after {s t u : State} (h : Prelude s t) (k : Ran t u) : Ran s u := by
  obtain ⟨a, b, v, h1, h2, h3, h4⟩ := k
  exact ⟨a, b, v, h.trans h1, h2, h3, h4⟩

theorem SlotsMoved.ran {s t : State} (h : SlotsMoved s t) : Ran s t := ⟨s, t, t, .refl s, h, .acts .refl, .refl t⟩

theorem heard_prelude (s : State) : Prelude s (heard s) := by
  have restored : Acts s { s with link := { s.link with supervision := s.link.supervisionTime, lost := false } } :=
    link_acts _ ⟨rfl, rfl, rfl⟩ rfl
  have owed : ∀ u : State, Acts u { u with unit := { u.unit with owedLinkLoss := false } } :=
    fun u => unit_acts _ ⟨rfl, rfl, rfl⟩ ⟨rfl, rfl, rfl⟩
  refine ⟨(restored.trans (owed _)).trans (flagIf_acts _ _ _), ?_, ?_, ?_⟩
  all_goals
    obtain ⟨m, h⟩ := heard_cases s
    rw [h]

theorem linkError_acts (e : LinkError) (s : State) : Acts s (linkError e s) :=
  Relation.ReflTransGen.trans (link_acts { s.link with lastError := e, errors := s.link.errors + 1 } ⟨rfl, rfl, rfl⟩ rfl)
    (flag_acts _ _)

theorem receiveError_acts (e : LinkError) (s : State) : Acts s (receiveError e s) :=
  Relation.ReflTransGen.trans
    (link_acts { s.link with receiver := .hunt, length := 0, assembly := [] } ⟨rfl, rfl, rfl⟩ rfl) (linkError_acts e _)

/-- A reply placed while a frame is being sent. -/
theorem placeReply_moved {s : State} {f g : Frame} (h : s.link.sending = some g) : SlotsMoved s (placeReply (s, f)) :=
  ⟨⟨_, rfl⟩, fun _ => ⟨fun _ => by simp [placeReply], fun _ => by simp [placeReply, h]⟩, rfl⟩

theorem deliver_ran (f : Frame) {taking : State → State × Frame} (h : ∀ u, Middle u (taking u).1) (s : State) :
    Ran s (deliver f taking s) := by
  refine Ran.after (heard_prelude s) ?_
  unfold deliver
  simp only
  split
  · exact Acts.ran (linkError_acts _ _)
  · next hh =>
    split
    · next hr =>
      exact SlotsMoved.ran ⟨⟨_, rfl⟩, fun d => ⟨fun _ => by simpa [Option.isSome_iff_ne_none] using hr, d.2⟩, rfl⟩
    · next hr =>
      obtain ⟨k1, k2, k3⟩ := (h (heard s)).slots
      have hh : (heard s).link.held = none := by simpa using hh
      have hr : (heard s).link.reply = none := by simpa using hr
      generalize hu : taking (heard s) = r at k1 k2 k3 ⊢
      obtain ⟨u, g⟩ := r
      have mid : Middle (heard s) u := by have := h (heard s); rwa [hu] at this
      have k1 : u.link.held = none := k1.trans hh
      refine ⟨_, _, u, .refl _, .refl _, mid, ?_⟩
      cases hs : u.link.sending with
      | some x =>
        have e : startReply (placeReply (u, g)) = placeReply (u, g) := by simp [startReply, placeReply, hs]
        rw [e]
        exact placeReply_moved hs
      | none =>
        have e : startReply (placeReply (u, g)) = { u with link := { u.link with sending := some g, reply := none } } := by
          simp [startReply, placeReply, hs, beginReply, takeHeld, k1]
        rw [e]
        exact ⟨⟨_, rfl⟩, fun _ => ⟨fun x => absurd k1 x, fun x => absurd rfl x⟩, rfl⟩

theorem arrive_ran (f : Frame) (s : State) : Ran s (arrive f s) := deliver_ran f (handle_middle f) s

/-- The reply of the reply slot begun, and a held frame handled (R184). -/
theorem beginReply_ran {s : State} (b : Option Frame) (f : Frame) :
    Ran s (beginReply f { s with link := { s.link with sending := b } }) := by
  unfold beginReply
  cases hh : s.link.held with
  | none =>
    have e : takeHeld { s with link := { s.link with sending := some f, reply := none } } =
        { s with link := { s.link with sending := some f, reply := none } } := by simp [takeHeld, hh]
    change Ran s (takeHeld { s with link := { s.link with sending := some f, reply := none } })
    rw [e]
    exact SlotsMoved.ran ⟨⟨_, rfl⟩, fun _ => ⟨fun x => absurd hh x, fun x => absurd rfl x⟩, rfl⟩
  | some g =>
    have e : takeHeld { s with link := { s.link with sending := some f, reply := none } } =
        placeReply (handle g { s with link := { s.link with sending := some f, reply := none, held := none } }) := by
      simp [takeHeld, hh]
    change Ran s (takeHeld { s with link := { s.link with sending := some f, reply := none } })
    rw [e]
    have mid := handle_middle g { s with link := { s.link with sending := some f, reply := none, held := none } }
    have moved : SlotsMoved s { s with link := { s.link with sending := some f, reply := none, held := none } } :=
      ⟨⟨_, rfl⟩, fun _ => ⟨fun x => absurd rfl x, fun x => absurd rfl x⟩, rfl⟩
    refine ⟨s, _, _, .refl s, moved, mid, ?_⟩
    exact placeReply_moved (g := f) mid.slots.2.2

theorem takenFrom_acts (r : Report) (s : State) : Acts s (takenFrom r s) := by
  unfold takenFrom
  split
  · exact Act.acts (.slot s.pres _ (fun _ k => k) (fun k i e => k i e))
  · exact seq_acts _ rfl rfl
  · exact mon_acts _ rfl rfl
  · exact dets_acts s.dets _ (fun _ => ⟨rfl, rfl, rfl, rfl⟩)
  all_goals exact .refl

theorem beginReport_ran {s : State} (hr : s.link.reply = none) (r : Report) (b : Option Frame) :
    Ran s (beginReport r { s with link := { s.link with sending := b } }) := by
  have taken : Acts s (takenFrom r { s with link := s.link.unflag r }) :=
    Relation.ReflTransGen.trans (link_acts (s.link.unflag r) ⟨rfl, rfl, rfl⟩ rfl) (takenFrom_acts r _)
  have before : Prelude s (takenFrom r { s with link := s.link.unflag r }) := by
    refine ⟨taken, ?_, ?_, ?_⟩ <;> cases r <;> rfl
  refine Ran.after before (SlotsMoved.ran ?_)
  have slots := taken.slots
  refine ⟨?_, fun d => ?_, ?_⟩
  · cases r <;> exact ⟨_, rfl⟩
  · have hr' : (takenFrom r { s with link := s.link.unflag r }).link.reply = none := slots.2.1.trans hr
    have hh : s.link.held = none := by
      by_contra x
      exact d.1 (by rw [slots.1]; exact x) hr'
    cases r <;> exact ⟨fun x => absurd hh x, fun x => absurd hr x⟩
  · cases r <;> rfl

theorem endFrame_ran (s : State) : Ran s (endFrame s) := by
  unfold endFrame
  split
  · exact Acts.ran .refl
  · unfold chooseNext
    split
    · exact beginReply_ran none _
    · next hr =>
      have hr : s.link.reply = none := hr
      split
      · exact beginReport_ran hr _ none
      · refine SlotsMoved.ran ⟨⟨_, rfl⟩, fun d => ⟨fun x => ?_, fun x => absurd hr x⟩, rfl⟩
        exact absurd hr (d.1 x)

theorem startReport_ran (s : State) : Ran s (startReport s) := by
  unfold startReport
  split
  · next hs hr =>
    split
    · exact beginReport_ran hr _ s.link.sending
    · exact Acts.ran .refl
  · exact Acts.ran .refl

theorem receive_ran (b : Byte) (p stop : Bool) (s : State) : Ran s (receive b p stop s) := by
  have moved (r : Receiver) (n : Nat) (l : List Byte) : Acts s { s with
      link := { s.link with receiver := r, length := n, assembly := l } } := link_acts _ ⟨rfl, rfl, rfl⟩ rfl
  unfold receive
  simp only
  split
  · split
    · exact Acts.ran (moved _ _ _)
    · exact Acts.ran .refl
  · split
    · exact Acts.ran (receiveError_acts _ s)
    · split
      · exact Acts.ran (moved _ _ _)
      · exact Acts.ran (receiveError_acts _ s)
  · split
    · exact Acts.ran (receiveError_acts _ s)
    · split
      · exact Acts.ran (moved s.link.receiver s.link.length (s.link.assembly ++ [b]))
      · unfold judgeFrame
        split
        · refine Ran.after ?_ (arrive_ran _ _)
          exact ⟨moved _ _ _, rfl, rfl, rfl⟩
        · exact Acts.ran (receiveError_acts _ s)

/-! ### Every command -/

/-- A host row is its frame's command, served by its own block. -/
theorem exec_of_frame {c : Instr} {f : Frame} (hf : frameOf c = some f) (hc : ∀ k t fs, c ≠ .unknownKind k t fs)
    (s : State) : exec c s = command f (serve c) s := by
  cases c
  case unknownKind k t fs => exact absurd rfl (hc k t fs)
  all_goals cases hf <;> rfl

theorem host_ran {c : Instr} {f : Frame} {s t : State} (hf : frameOf c = some f)
    (hc : ∀ k t fs, c ≠ .unknownKind k t fs) (e : exec c s = .next t) : Ran s t := by
  rw [exec_of_frame hf hc] at e
  cases e
  exact deliver_ran f (fun u => serve_middle c u) s

/-- A row that changes nothing, or settles what an act of its own leads to. -/
theorem settled_ran {p : Prop} [Decidable p] {s t u : State} (hu : p → Acts s u)
    (e : (if p then .next (settle s u) else .next s : Result) = .next t) : Ran s t := by
  split at e <;> cases e
  · next h => exact Acts.ran ((hu h).trans (settle_acts s u))
  · exact Acts.ran .refl

/-- A row that changes nothing, or makes an act of its own. -/
theorem plain_ran {p : Prop} [Decidable p] {s t u : State} (hu : p → Acts s u)
    (e : (if p then .next u else .next s : Result) = .next t) : Ran s t := by
  split at e <;> cases e
  · next h => exact Acts.ran (hu h)
  · exact Acts.ran .refl

theorem expires_timer {s : State} {c : Chan} {i : Indication} (h : s.expires c i = true) : (s.chan c).timer = 0 := by
  simp only [State.expires, Bool.and_eq_true, beq_iff_eq] at h
  exact h.2

/-- A row that changes nothing, or takes the expiry of an interval that has run out. -/
theorem expiry_ran {p : Prop} [Decidable p] {c : Chan} {s t : State} (hp : p → (s.chan c).timer = 0)
    (e : (if p then .next (settle s (expireChannel c s)) else .next s : Result) = .next t) : Ran s t := by
  split at e <;> cases e
  · next h => exact (Middle.expiry c (hp h)).ran
  · exact Acts.ran .refl

theorem endService_acts (s : State) : Acts s (endService s) := by
  unfold endService
  split
  · exact setPre_acts rfl id
  · exact .refl

theorem setLine_acts {s : State} {i : Line} {l : ToneLine} (h : (s.line i).SameVoice l) : Acts s (s.setLine i l) := by
  refine tones_acts _ (fun j => ?_)
  rw [vset_get]
  split
  · next e => subst e; exact h
  · exact ⟨rfl, rfl, rfl⟩

theorem seen_acts (n : Nat) (s : State) : Acts s { s with time := s.time.seen n } := time_acts _ rfl rfl ⟨rfl, rfl, rfl⟩

theorem judgeSample_acts (m : LampSet) (d : Vector Drive 48) (s : State) : Acts s (judgeSample s m d).1 := by
  unfold judgeSample
  simp only
  refine Relation.ReflTransGen.trans ?_ (flagIf_acts _ _ _)
  exact mon_acts _ rfl rfl

theorem execMonitorSample_ran {m : LampSet} {s t : State} (e : execMonitorSample m s = .next t) : Ran s t := by
  unfold execMonitorSample at e
  split at e
  · cases e; exact Acts.ran .refl
  · simp only at e
    split at e <;> cases e
    · refine Acts.ran ((seen_acts (s.time.lastCrossing + Config.monitorDelay) s).trans ?_)
      exact mon_acts _ rfl rfl
    · refine Acts.ran (Relation.ReflTransGen.trans ?_ (settle_acts _ _))
      refine Relation.ReflTransGen.trans ?_ (monitorNotice_acts _ _)
      exact (seen_acts _ s).trans (judgeSample_acts _ _ _)

theorem execScanTick_ran {a : BitVec 24} {b : BitVec 4} {m : Bool} {s t : State}
    (e : execScanTick a b m s = .next t) : Ran s t := by
  cases e
  refine Acts.ran (Relation.ReflTransGen.trans ?_ (settle_acts _ _))
  refine Relation.ReflTransGen.trans ?_ (scanSwitch_acts m _)
  refine Relation.ReflTransGen.trans ?_ (settle_acts _ _)
  refine Relation.ReflTransGen.trans ?_ (scanPreempts_acts b _)
  refine Relation.ReflTransGen.trans ?_ (scanDetectors_step a _).acts
  exact time_acts _ rfl rfl ⟨rfl, rfl, rfl⟩

theorem execSupplySample_ran {r : Byte} {s t : State} (e : execSupplySample r s = .next t) : Ran s t := by
  unfold execSupplySample at e
  split at e <;> cases e
  · refine Ran.after ?_ (takeSample_middle _ _).ran
    exact ⟨seen_acts _ s, rfl, rfl, rfl⟩
  · exact Acts.ran .refl

theorem execPlugReadComplete_ran {cells : BitVec 128} {s t : State} (e : execPlugReadComplete cells s = .next t) :
    Ran s t := by
  unfold execPlugReadComplete at e
  split at e <;> cases e
  · exact Acts.ran .refl
  · refine Acts.ran (Relation.ReflTransGen.trans ?_ (settle_acts _ _))
    refine Relation.ReflTransGen.trans ?_ (completeRead_acts cells _)
    exact seen_acts _ s

theorem execRedFail_ran {c : Chan} {s t : State} (e : execRedFail c s = .next t) : Ran s t := by
  refine settled_ran (fun _ => ?_) e
  refine Relation.ReflTransGen.trans ?_ (monitorNotice_acts _ _)
  exact mon_acts _ rfl rfl

/-- Every command but a hardware reset is acts, a change of the slots, one of the shapes, and a change of the
slots. -/
theorem exec_ran {c : Instr} {s t : State} (hc : ∀ straps, c ≠ .hardwareReset straps) (e : exec c s = .next t) :
    Ran s t := by
  cases c
  case hardwareReset b => exact absurd rfl (hc b)
  case millisecond =>
    cases e
    refine Acts.ran (Relation.ReflTransGen.trans
      (time_acts (({ s.time with millis := s.time.millis + 1 } : Timebase).seen ((s.time.millis + 1) * Config.milliMicros))
        rfl rfl ⟨rfl, rfl, rfl⟩) (voices_acts _ (fun i l => ?_)))
    split
    · exact millisecond_voice _ l
    · exact ⟨rfl, rfl, rfl⟩
  case scanTick a b m => exact execScanTick_ran e
  case crystalTenth => cases e; exact (crystalTenth_does s).ran
  case mainsTenth =>
    change execMainsTenth s = _ at e
    unfold execMainsTenth at e
    split at e <;> cases e
    · exact (Does.after (time_acts { s.time with tenthGiven := true } rfl rfl ⟨rfl, rfl, rfl⟩)
        (.inr (tenthAt_ticks _ _))).ran
    · exact Acts.ran .refl
  case realCrossingEvent m =>
    change execRealCrossingEvent m s = _ at e
    unfold execRealCrossingEvent at e
    split at e <;> cases e
    · exact (realCrossing_does m s).ran
    · exact Acts.ran .refl
  case syntheticCrossingEvent => cases e; exact (syntheticCrossing_does s).ran
  case monitorSample m => exact execMonitorSample_ran e
  case supplySample r => exact execSupplySample_ran e
  case plugReadComplete cells => exact execPlugReadComplete_ran e
  case amberExpiry c => exact expiry_ran expires_timer e
  case redClearanceExpiry c => exact expiry_ran expires_timer e
  case walkExpiry c =>
    exact expiry_ran (fun h => expires_timer (Bool.and_eq_true_iff.mp h).1) e
  case pedClearExpiry c => exact expiry_ran expires_timer e
  case stepTimerExpiry => refine settled_ran (fun _ => ?_) e; exact seq_acts _ rfl rfl
  case initialGreenRunOut c => refine settled_ran (fun _ => ?_) e; exact setGreen_acts id
  case gapOut c => refine settled_ran (fun _ => ?_) e; exact setGreen_acts id
  case maxOut c => refine settled_ran (fun _ => ?_) e; exact setGreen_acts id
  case detectorLevelChange d => exact settled_ran (fun _ => (detectorLevels_step _ s).acts) e
  case delayReached d =>
    refine settled_ran (fun _ => DetStep.acts (DetStep.trans ?_ (handBegun_step s _))) e
    exact setDet_step ⟨rfl, rfl, rfl, rfl, rfl, rfl, rfl, rfl, rfl, rfl⟩
  case stuckOn d =>
    refine settled_ran (fun _ => DetStep.acts (DetStep.trans ?_ (setFault_step d _ _))) e
    exact setDet_step ⟨rfl, rfl, rfl, rfl, rfl, rfl, rfl, rfl, rfl, rfl⟩
  case noActivity d =>
    refine settled_ran (fun _ => DetStep.acts (DetStep.trans ?_ (setFault_step d _ _))) e
    exact setDet_step ⟨rfl, rfl, rfl, rfl, rfl, rfl, rfl, rfl, rfl, rfl⟩
  case chatter d =>
    refine settled_ran (fun _ => DetStep.acts (DetStep.trans ?_ (setFault_step d _ _))) e
    exact setDet_step ⟨rfl, rfl, rfl, rfl, rfl, rfl, rfl, rfl, rfl, rfl⟩
  case chatterWindowEnd =>
    exact settled_ran (fun _ => ((endWindows_step s).trans (handBegun_step s _)).acts) e
  case preemptInputLevelChange p => refine settled_ran (fun _ => ?_) e; exact setPre_acts rfl id
  case preemptStuck p => refine settled_ran (fun _ => ?_) e; exact setPre_acts rfl id
  case preemptDelayExpiry p => refine settled_ran (fun _ => ?_) e; exact setPre_acts rfl id
  case trackEnd => exact settled_ran (fun _ => endService_acts s) e
  case dwellEnd => exact settled_ran (fun _ => endService_acts s) e
  case redFail c => exact execRedFail_ran e
  case startFlashTimerExpiry => refine plain_ran (fun _ => ?_) e; exact unit_acts _ ⟨rfl, rfl, rfl⟩ ⟨rfl, rfl, rfl⟩
  case entryRedEnd =>
    refine settled_ran (fun h => ?_) e
    exact (unit_acts { s.unit with entryRedTimer := 0 } ⟨rfl, rfl, rfl⟩ ⟨rfl, rfl, rfl⟩).tail (.controlled h.1)
  case manualFlashSwitchEdge => exact settled_ran (fun _ => turnSwitch_acts s) e
  case locatorTick i =>
    refine plain_ran (fun _ => setLine_acts (ToneLine.SameVoice.trans ?_ (arbitrate_voice _ _))) e
    exact ⟨rfl, rfl, rfl⟩
  case walkTick i =>
    refine plain_ran (fun _ => setLine_acts (ToneLine.SameVoice.trans ?_ (arbitrate_voice _ _))) e
    exact ⟨rfl, rfl, rfl⟩
  case confirmEnd i =>
    refine plain_ran (fun _ => setLine_acts (ToneLine.SameVoice.trans ?_ (arbitrate_voice _ _))) e
    exact ⟨rfl, rfl, rfl⟩
  case signPeriodExpiry => refine plain_ran (fun _ => ?_) e; exact signs_acts _ ⟨rfl, rfl, rfl⟩ ⟨rfl, rfl, rfl, rfl⟩
  case signExchangeStart =>
    refine plain_ran (fun h => startExchange_acts ?_) e
    simp only [State.exchangeDue, Bool.and_eq_true, decide_eq_true_eq] at h
    exact h.1.2
  case signExchangeEnd v => exact plain_ran (fun h => endExchange_acts v h) e
  case receiveCharacter b p q => cases e; exact receive_ran b p q s
  case gapError =>
    cases e
    unfold gapExceeded
    split
    · exact Acts.ran .refl
    · exact Acts.ran (receiveError_acts _ s)
    · exact Acts.ran (receiveError_acts _ s)
  case unknownKind k t fs =>
    change execUnknownKind k t fs s = _ at e
    unfold execUnknownKind at e
    split at e <;> cases e
    · exact Acts.ran .refl
    · exact deliver_ran _ (fun _ => .acts .refl) s
  case frameSent => cases e; exact endFrame_ran s
  case sendReport => cases e; exact startReport_ran s
  case statusTimerExpiry =>
    refine plain_ran (fun _ => Relation.ReflTransGen.trans ?_ (flag_acts _ _)) e
    exact link_acts _ ⟨rfl, rfl, rfl⟩ rfl
  case supervisionExpiry => exact settled_ran (fun _ => (loseLink_acts s).trans (linkLoss_acts _)) e
  all_goals exact host_ran rfl (by simp) e

end Sys2Proof.Machine

/-! PROOFS. What the changes of unit mode, the ticks and the crossings leave of every setting, and the invariants that
rest on it alone: the queue, the slot, the latches, the match flag, the settings and the sign chain. -/

namespace Sys2Proof.Machine

/-! ### Standing settings -/

/-- What a change of unit mode leaves of a channel record: its type and its pending set, the active set the same or
copied from it (R3). -/
structure ChanStands (a b : Channel) : Prop where
  kind : b.kind = a.kind
  pending : b.pendingSet = a.pendingSet
  active : b.activeSet = a.activeSet ∨ b.activeSet = a.pendingSet

theorem ChanStands.refl (a : Channel) : ChanStands a a := ⟨rfl, rfl, .inl rfl⟩

theorem ChanStands.trans {a b c : Channel} (h : ChanStands a b) (k : ChanStands b c) : ChanStands a c :=
  ⟨k.kind.trans h.kind, k.pending.trans h.pending, k.active.elim
    (fun e => h.active.elim (fun x => .inl (e.trans x)) (fun x => .inr (e.trans x)))
    (fun e => .inr (e.trans h.pending))⟩

/-- Every setting of the part as it was: what an operation leaves that only moves the run state. -/
structure Stands (s t : State) : Prop where
  chans : ∀ c, ChanStands (s.chan c) (t.chan c)
  dim : t.lamps.dimLevel = s.lamps.dimLevel
  tables : t.compat.inUse = s.compat.inUse ∧ t.compat.hostCopy = s.compat.hostCopy ∧ t.compat.isMatch = s.compat.isMatch
  queue : t.seq.queue = s.seq.queue ∧ t.seq.nextSerial = s.seq.nextSerial
  latch : ∀ c, (t.green c).latch = true → (s.green c).latch = true ∨ (s.chan c).used = true
  dets : t.dets = s.dets
  cfg : ∀ p, (s.pre p).cfg.InRange → (t.pre p).cfg.InRange
  slot : s.SlotSafe → t.SlotSafe
  redFail : t.mon.redFailTime = s.mon.redFailTime
  unit : t.unit.startFlashTime = s.unit.startFlashTime ∧ t.unit.entryRedTime = s.unit.entryRedTime ∧
    t.unit.shortOutage = s.unit.shortOutage
  time : t.time.dropout = s.time.dropout ∧ t.time.sag = s.time.sag ∧ t.time.high = s.time.high
  voice : ∀ i, (s.line i).SameVoice (t.line i)
  signs : (t.signs.count = s.signs.count ∧ t.signs.period = s.signs.period ∧ t.signs.gap = s.signs.gap) ∧
    (s.signs.AtRest → t.signs.AtRest)
  link : t.link.supervisionTime = s.link.supervisionTime

theorem Stands.refl (s : State) : Stands s s :=
  ⟨fun c => .refl _, rfl, ⟨rfl, rfl, rfl⟩, ⟨rfl, rfl⟩, fun _ h => .inl h, rfl, fun _ => id, id, rfl, ⟨rfl, rfl, rfl⟩,
    ⟨rfl, rfl, rfl⟩, fun _ => ⟨rfl, rfl, rfl⟩, ⟨⟨rfl, rfl, rfl⟩, id⟩, rfl⟩

theorem Stands.trans {s t u : State} (h : Stands s t) (k : Stands t u) : Stands s u where
  chans c := (h.chans c).trans (k.chans c)
  dim := k.dim.trans h.dim
  tables := ⟨k.tables.1.trans h.tables.1, k.tables.2.1.trans h.tables.2.1, k.tables.2.2.trans h.tables.2.2⟩
  queue := ⟨k.queue.1.trans h.queue.1, k.queue.2.trans h.queue.2⟩
  latch c e := (k.latch c e).elim (h.latch c) (fun x => .inr (by
    have hk := (h.chans c).kind
    simpa [Channel.used, hk] using x))
  dets := k.dets.trans h.dets
  cfg p := k.cfg p ∘ h.cfg p
  slot := k.slot ∘ h.slot
  redFail := k.redFail.trans h.redFail
  unit := ⟨k.unit.1.trans h.unit.1, k.unit.2.1.trans h.unit.2.1, k.unit.2.2.trans h.unit.2.2⟩
  time := ⟨k.time.1.trans h.time.1, k.time.2.1.trans h.time.2.1, k.time.2.2.trans h.time.2.2⟩
  voice i := (h.voice i).trans (k.voice i)
  signs := ⟨⟨k.signs.1.1.trans h.signs.1.1, k.signs.1.2.1.trans h.signs.1.2.1, k.signs.1.2.2.trans h.signs.1.2.2⟩,
    k.signs.2 ∘ h.signs.2⟩
  link := k.link.trans h.link

/-- An operation on the channels' run state and the drives. -/
theorem stands_chans {s : State} (v : Vector Channel 16) (n : LampSet) (h : ∀ c, ChanStands (s.chan c) (v.get c)) :
    Stands s { s with chans := v, lamps := { s.lamps with drives := n } } := { Stands.refl s with chans := h }

theorem stands_seq {s : State} (q : Sequencer) (h : q.queue = s.seq.queue ∧ q.nextSerial = s.seq.nextSerial) :
    Stands s { s with seq := q } := { Stands.refl s with queue := h }

theorem stands_mon {s : State} (m : Monitor) (h : m.redFailTime = s.mon.redFailTime) : Stands s { s with mon := m } :=
  { Stands.refl s with redFail := h }

theorem stands_unit {s : State} (u : UnitState) (h : u.startFlashTime = s.unit.startFlashTime ∧
    u.entryRedTime = s.unit.entryRedTime ∧ u.shortOutage = s.unit.shortOutage) : Stands s { s with unit := u } :=
  { Stands.refl s with unit := h }

theorem stands_link {s : State} (l : Link) (h : l.supervisionTime = s.link.supervisionTime) :
    Stands s { s with link := l } := { Stands.refl s with link := h }

theorem flagIf_stands (b : Bool) (r : Report) (s : State) : Stands s (flagIf b r s) := by
  rcases flagIf_cases b r s with h | h <;> rw [h]
  · exact .refl s
  · exact stands_link _ rfl

theorem stands_compat {s : State} (p : Compat) (h : p.inUse = s.compat.inUse ∧ p.hostCopy = s.compat.hostCopy ∧
    p.isMatch = s.compat.isMatch) : Stands s { s with compat := p } := { Stands.refl s with tables := h }

theorem forceAll_stands (v p : Indication) (s : State) : Stands s (forceAll v p s) :=
  stands_chans _ s.lamps.drives (fun c => by rw [vmap_get]; exact ⟨rfl, rfl, .inl rfl⟩)

theorem dropHeld_stands (s : State) : Stands s (dropHeld s) :=
  stands_chans _ s.lamps.drives (fun c => by rw [vmap_get]; exact ⟨rfl, rfl, .inl rfl⟩)

theorem restoreHeld_stands (s : State) : Stands s (restoreHeld s) :=
  stands_chans _ s.lamps.drives (fun c => by rw [vmap_get]; exact ⟨rfl, rfl, .inl rfl⟩)

theorem drivesOff_stands (s : State) : Stands s (drivesOff s) :=
  stands_chans _ 0 (fun c => by rw [vmap_get]; exact ⟨rfl, rfl, .inl rfl⟩)

theorem copyTimings_stands (s : State) : Stands s (copyTimings s) :=
  stands_chans _ s.lamps.drives (fun c => by rw [vmap_get]; exact ⟨rfl, rfl, .inr rfl⟩)

theorem leaveUnjudged_stands (s : State) : Stands s (leaveUnjudged s) := stands_mon _ rfl

theorem setCause_stands (k : FlashCause) (s : State) : Stands s (setCause k s) := stands_unit _ ⟨rfl, rfl, rfl⟩

theorem endOutage_stands (s : State) : Stands s (endOutage s) := stands_unit _ ⟨rfl, rfl, rfl⟩

theorem stopExecution_stands (s : State) : Stands s (stopExecution s) := stands_seq _ ⟨rfl, rfl⟩

theorem stopAtHead_stands (s : State) : Stands s (stopAtHead s) := stands_seq _ ⟨rfl, rfl⟩

theorem idleGreens_stands (s : State) : Stands s (idleGreens s) :=
  { Stands.refl s with
    latch := fun c h => by
      simp only [idleGreens, State.green, vmap_get] at h
      exact .inl h }

theorem restartGreens_stands (s : State) : Stands s (restartGreens s) :=
  { Stands.refl s with
    latch := fun c h => by
      simp only [restartGreens, State.green, vmap_get] at h
      exact .inr h }

theorem requestLatches_stands (m : ChanSet) (s : State) : Stands s (requestLatches m s) := by
  obtain ⟨g, h⟩ := requestLatches_eq m s
  have latch : ∀ c, ((requestLatches m s).green c).latch = true → (s.green c).latch = true ∨ (s.chan c).used = true := by
    intro c e
    rw [requestLatches_green] at e
    split at e
    · next k => exact .inr k.2.1
    · exact .inl e
  rw [h] at latch ⊢
  exact { Stands.refl s with latch := latch }

theorem stopPreempts_stands (s : State) : Stands s (stopPreempts s) :=
  { Stands.refl s with
    cfg := fun p h => by simpa [stopPreempts, State.pre] using h
    slot := fun _ p h => by simp [stopPreempts, State.pre, Preempt.serving] at h }

theorem putOut_serving (p : Preempt) : p.putOut.serving = false := by
  simp only [Preempt.putOut, Preempt.serving]
  split <;> rfl

theorem leaveService_stands (s : State) : Stands s (leaveService s) := by
  have slot : s.SlotSafe → (leaveService s).SlotSafe := by
    intro safe p h
    unfold leaveService at h
    split at h
    · next q hq =>
      by_cases e : p = q
      · subst e
        have : ((s.setPre p (s.pre p).putOut).pre p).serving = true := h
        rw [setPre_pre, putOut_serving] at this
        cases this
      · have : ((s.setPre q (s.pre q).putOut).pre p).serving = true := h
        rw [setPre_pre_other s _ e] at this
        exact absurd (Option.some.inj ((safe p this).symm.trans hq)) e
    · next hq => exact absurd ((safe p h).symm.trans hq) (by simp)
  have cfg : ∀ p, ((leaveService s).pre p).cfg = (s.pre p).cfg := by
    intro p
    unfold leaveService
    split
    · next q _ =>
      by_cases e : p = q
      · subst e
        have : ((s.setPre p (s.pre p).putOut).pre p).cfg = (s.pre p).cfg := by rw [setPre_pre]; rfl
        exact this
      · have : ((s.setPre q (s.pre q).putOut).pre p).cfg = (s.pre p).cfg := by rw [setPre_pre_other s _ e]
        exact this
    · rfl
  have frame : ∃ v, leaveService s = { s with pres := v, arb := { s.arb with holder := none, interrupted := false } } := by
    unfold leaveService
    split
    · exact ⟨_, rfl⟩
    · exact ⟨s.pres, rfl⟩
  obtain ⟨v, e⟩ := frame
  rw [e] at slot cfg ⊢
  exact { Stands.refl s with cfg := fun p h => by rw [cfg p]; exact h, slot := slot }

theorem tonesAtMode_stands (o s : State) : Stands s (tonesAtMode o s) :=
  { Stands.refl s with
    voice := fun i => by
      simp only [tonesAtMode, State.line, vmap_get]
      split
      · exact ⟨rfl, rfl, rfl⟩
      · exact lineAfresh_voice _ _ _ }

theorem abandonExchange_stands (s : State) : Stands s (abandonExchange s) := by
  unfold abandonExchange
  split
  · exact { Stands.refl s with signs := ⟨⟨rfl, rfl, rfl⟩, fun _ _ => ⟨rfl, rfl, rfl, rfl⟩⟩ }
  · exact .refl s

theorem changeMode_stands (m : Mode) (s : State) : Stands s (changeMode m s) := by
  have copied : Stands s (if m.copiesTiming then copyTimings s else s) := by
    split
    · exact copyTimings_stands s
    · exact .refl s
  have moded (u : State) : Stands u { u with unit := { u.unit with mode := m, ftr := m.relay }, mon := u.mon.atMode m } :=
    { Stands.refl u with }
  have told (u : State) : Stands u (signsAtMode u) := { Stands.refl u with }
  unfold changeMode
  simp only
  exact ((copied.trans (moded _)).trans (told _)).trans (tonesAtMode_stands _ _)

/-! ### The changes of unit mode -/

theorem enterFaultFlash_stands (s : State) : Stands s (enterFaultFlash s) := by
  unfold enterFaultFlash handForced handLocking
  refine Stands.trans ?_ (requestLatches_stands _ _)
  refine Stands.trans ?_ (changeMode_stands _ _)
  refine Stands.trans ?_ (stopPreempts_stands _)
  refine Stands.trans ?_ (stopAtHead_stands _)
  refine Stands.trans ?_ (idleGreens_stands _)
  refine Stands.trans ?_ (setCause_stands _ _)
  refine Stands.trans ?_ (leaveUnjudged_stands _)
  refine Stands.trans ?_ (drivesOff_stands _)
  exact (forceAll_stands _ _ s).trans (dropHeld_stands _)

theorem enterClearing_stands (k : FlashCause) (s : State) : Stands s (enterClearing k s) := by
  unfold enterClearing
  refine Stands.trans ?_ (changeMode_stands _ _)
  refine Stands.trans ?_ (setCause_stands _ _)
  exact (stopExecution_stands s).trans (leaveService_stands _)

theorem enterEntryRed_stands (s : State) : Stands s (enterEntryRed s) := by
  unfold enterEntryRed
  refine Stands.trans ?_ (changeMode_stands _ _)
  refine ((setCause_stands .none s).trans (forceAll_stands .red .red _)).trans ?_
  exact stands_unit _ ⟨rfl, rfl, rfl⟩

theorem enterLocalFlash_stands (s : State) : Stands s (enterLocalFlash s) :=
  (forceAll_stands _ _ s).trans (changeMode_stands _ _)

theorem enterPowerOut_stands (s : State) : Stands s (enterPowerOut s) := by
  unfold enterPowerOut
  refine Stands.trans ?_ (changeMode_stands _ _)
  refine Stands.trans ?_ (abandonExchange_stands _)
  refine Stands.trans ?_ (leaveUnjudged_stands _)
  refine Stands.trans ?_ (drivesOff_stands _)
  refine Stands.trans (stands_chans (vmap (fun _ ch =>
    { ch with ind := .dark, held := if ch.used then some ch.ind else none }) s.chans) s.lamps.drives (fun c => ?_)) ?_
  · rw [vmap_get]; exact ⟨rfl, rfl, .inl rfl⟩
  · exact stands_unit { s.unit with remembered := some s.unit.mode, outageTimer := 0 } ⟨rfl, rfl, rfl⟩

theorem restart_stands (s : State) : Stands s (restart s) := by
  unfold restart
  refine Stands.trans ?_ (changeMode_stands _ _)
  have before := (((((forceAll_stands .dark .dark s).trans (dropHeld_stands _)).trans (drivesOff_stands _)).trans
    (restartGreens_stands _)).trans (stopAtHead_stands _)).trans (stopPreempts_stands _)
  refine before.trans ?_
  exact { Stands.refl _ with }

theorem emptyRecord_stands (s : State) : Stands s (emptyRecord s) := by
  refine Stands.trans (t := { s with mon := { s.mon with record := none } }) (stands_mon _ rfl) ?_
  exact flagIf_stands _ _ _

theorem recordFinding_stands (s : State) (f : Finding) : Stands s (recordFinding s f) := by
  obtain ⟨r, m, e, -⟩ := recordFinding_cases s f
  rw [e]
  exact (stands_mon { s.mon with record := some r } rfl).trans (stands_link { s.link with flags := m } rfl)

theorem recordFindings_stands (fs : List Finding) (s : State) : Stands s (recordFindings fs s) := by
  unfold recordFindings
  induction fs generalizing s with
  | nil => exact .refl s
  | cons f fs ih => exact (recordFinding_stands s f).trans (ih _)

theorem faultNotice_stands (fs : List Finding) (s : State) : Stands s (faultNotice fs s) := by
  rcases faultNotice_cases fs s with ⟨-, h⟩ | ⟨-, -, h⟩ | ⟨-, -, -, h⟩ <;> rw [h]
  · exact .refl s
  · exact recordFindings_stands fs s
  · exact (recordFindings_stands fs s).trans (enterFaultFlash_stands _)

theorem plugNotice_stands (k : FaultCause) (s : State) : Stands s (plugNotice k s) := by
  rcases plugNotice_cases k s with ⟨-, h⟩ | ⟨-, -, h⟩ | ⟨-, -, h⟩ | ⟨-, h⟩ <;> rw [h]
  · have entered := (recordFinding_stands s ⟨k, 0, 0⟩).trans (enterFaultFlash_stands _)
    rcases keepSample_cases s (enterFaultFlash (recordFinding s ⟨k, 0, 0⟩)) with ⟨-, e⟩ | ⟨-, e⟩ <;> rw [e]
    · exact entered
    · exact entered.trans (stands_mon _ rfl)
  · exact recordFinding_stands _ _
  · exact stands_compat _ ⟨rfl, rfl, rfl⟩
  · exact .refl s

theorem outageToFault_stands (s : State) : Stands s (outageToFault s) := by
  unfold outageToFault
  refine Stands.trans ?_ (endOutage_stands _)
  refine Stands.trans ?_ (enterFaultFlash_stands _)
  exact stands_compat _ ⟨rfl, rfl, rfl⟩

theorem actOnResume_stands (b : Bool) (s : State) : Stands s (actOnResume b s) := by
  unfold actOnResume
  simp only
  split
  · refine Stands.trans ?_ (faultNotice_stands _ _)
    exact stands_compat _ ⟨rfl, rfl, rfl⟩
  · split
    · exact enterClearing_stands _ s
    · split
      · exact enterClearing_stands _ s
      · exact .refl s

theorem leavePowerOut_stands (s : State) : Stands s (leavePowerOut s) := by
  unfold leavePowerOut
  split
  · exact outageToFault_stands s
  · split
    · exact outageToFault_stands s
    · split
      · unfold shortResume
        refine Stands.trans ?_ (endOutage_stands _)
        refine Stands.trans ?_ (actOnResume_stands _ _)
        exact (restoreHeld_stands s).trans (changeMode_stands _ _)
      · exact restart_stands s

/-- The end of an outage by a sample that leaves DROPOUT. -/
theorem resumed_stands (k : Supply) (s : State) :
    Stands s (leavePowerOut (flag .supply { s with time := { s.time with category := k } })) := by
  refine Stands.trans ?_ (leavePowerOut_stands _)
  exact { Stands.refl s with }

/-! ### Crossings, ticks and the slots of the link -/

theorem crossing_stands (s : State) : Stands s (crossing s) :=
  { Stands.refl s with
    chans := fun c => by
      simp only [crossing, State.chan, vmap_get]
      exact ⟨rfl, rfl, .inl rfl⟩ }

theorem tickOnce_stands (s : State) : Stands s (tickOnce s) := by
  have counter : Stands s (tickCounter s) := by
    unfold tickCounter
    simp only
    split <;> exact { Stands.refl s with }
  refine counter.trans ?_
  unfold tickOnce tickChannels
  split
  · refine stands_chans _ (tickCounter s).lamps.drives (fun c => ?_)
    rw [vmap_get]
    split <;> exact ⟨rfl, rfl, .inl rfl⟩
  · exact .refl _

theorem SlotsMoved.stands {s t : State} (h : SlotsMoved s t) : Stands s t := by
  obtain ⟨l, e⟩ := h.frame
  have r := h.range
  rw [e] at r ⊢
  exact stands_link l r

/-! ### The replacement of the in-use table (R26, R27) -/

theorem disabled_if_inRange (b : Bool) (r : Preempt) : (if b then r.disabled else r).cfg.InRange ↔ r.cfg.InRange := by
  cases b <;> exact Iff.rfl

theorem disabled_if_serving (b : Bool) (r : Preempt) : (if b then r.disabled else r).serving = r.serving := by
  cases b <;> rfl

theorem checkPreempts_stands (s : State) : Stands s (checkPreempts s) := by
  unfold checkPreempts
  simp only
  generalize maskOf (fun p => (s.pre p).losesEnable s.compat.inUse) = lost
  split
  · exact .refl s
  · refine { Stands.refl s with cfg := fun p h => ?_, slot := fun safe p h => ?_ }
    · simp only [flag, State.pre, vmap_get, disabled_if_inRange]
      exact h
    · simp only [flag, State.pre, vmap_get, disabled_if_serving] at h
      exact safe p h

/-- The table replaced with the match recomputed and the queue pruned, before the preempts are checked and the notice is
given. -/
def retabled (t : PairTable) (s : State) : State :=
  prune (clearConflicts (recomputeMatch { s with compat := { s.compat with inUse := t } }))

theorem replaceTable_stands (t : PairTable) (s : State) : Stands (retabled t s) (replaceTable t s) :=
  (checkPreempts_stands _).trans (plugNotice_stands _ _)

theorem prune_queue (s : State) : (prune s).seq.queue = prunedQueue s.compat.inUse s.seq.queue := by
  unfold prune
  simp only
  split
  · next h => exact (List.filter_sublist.eq_of_length h).symm
  · rfl

theorem prune_stands (s : State) : Stands { s with seq := { s.seq with queue := prunedQueue s.compat.inUse s.seq.queue } }
    (prune s) := by
  have queue := prune_queue s
  unfold prune at queue ⊢
  simp only at queue ⊢
  split at queue
  · next h =>
    rw [if_pos h]
    exact { Stands.refl s with queue := ⟨queue, rfl⟩ }
  · next h =>
    rw [if_neg h]
    split <;> exact { Stands.refl { s with seq := { s.seq with queue := prunedQueue s.compat.inUse s.seq.queue } } with }

/-- What the first stages of a replacement leave: the new table with its match, and the records it permits. -/
theorem retabled_stands (t : PairTable) (s : State) : Stands
    { s with
      compat := { s.compat with inUse := t, isMatch := s.compat.hostCopy == some t }
      seq := { s.seq with queue := prunedQueue t s.seq.queue } } (retabled t s) := by
  unfold retabled clearConflicts recomputeMatch
  simp only
  rcases flagIf_cases ((s.compat.hostCopy == some t) != s.compat.isMatch) .status { s with
    compat := { s.compat with inUse := t, isMatch := s.compat.hostCopy == some t } } with h | h
  all_goals
    rw [h]
    refine Stands.trans ?_ (prune_stands _)
    exact { Stands.refl { s with
      compat := { s.compat with inUse := t, isMatch := s.compat.hostCopy == some t }
      seq := { s.seq with queue := prunedQueue t s.seq.queue } } with }

end Sys2Proof.Machine

/-! PROOFS. The invariants that rest on the settings alone, kept by every act and so by every command. -/

namespace Sys2Proof.Machine

theorem Stands.used {s t : State} (h : Stands s t) (c : Chan) : (t.chan c).used = (s.chan c).used := by
  simp only [Channel.used, (h.chans c).kind]

theorem Stands.usedMask {s t : State} (h : Stands s t) : t.usedMask = s.usedMask := by
  simp only [State.usedMask, h.used]

theorem Stands.queueSafe {s t : State} (h : Stands s t) (hs : s.QueueSafe) : t.QueueSafe := by
  unfold State.QueueSafe
  rw [h.queue.1, h.tables.1, h.usedMask]
  exact hs

theorem Stands.latchSafe {s t : State} (h : Stands s t) (hs : s.LatchSafe) : t.LatchSafe := by
  intro c hk
  rw [(h.chans c).kind] at hk
  by_contra e
  rcases h.latch c (by simpa using e) with x | x
  · rw [hs c hk] at x; cases x
  · simp [Channel.used, hk] at x

theorem Stands.matchSafe {s t : State} (h : Stands s t) (hs : s.MatchSafe) : t.MatchSafe := by
  unfold State.MatchSafe
  rw [h.tables.1, h.tables.2.1, h.tables.2.2]
  exact hs

theorem ChanStands.inRange {a b : Channel} (h : ChanStands a b) (k : a.pendingSet.InRange ∧ a.activeSet.InRange) :
    b.pendingSet.InRange ∧ b.activeSet.InRange := by
  rw [h.pending]
  refine ⟨k.1, ?_⟩
  rcases h.active with e | e <;> rw [e]
  · exact k.2
  · exact k.1

theorem Stands.settingsSafe {s t : State} (h : Stands s t) (hs : s.SettingsSafe) : t.SettingsSafe where
  timing c := (h.chans c).inRange (hs.timing c)
  dim := by rw [h.dim]; exact hs.dim
  steps := by rw [h.queue.1]; exact hs.steps
  serial := by rw [h.queue.2]; exact hs.serial
  chatter d := by rw [State.det, h.dets]; exact hs.chatter d
  detectors d := by rw [State.det, h.dets]; exact hs.detectors d
  preempts p := (h.cfg p ⟨hs.preempts p, hs.limits p⟩).1
  limits p := (h.cfg p ⟨hs.preempts p, hs.limits p⟩).2
  redFail := by rw [h.redFail]; exact hs.redFail
  start := by rw [h.unit.1, h.unit.2.1, h.unit.2.2]; exact hs.start
  supply := by rw [h.time.1, h.time.2.1, h.time.2.2]; exact hs.supply
  tones i := by
    obtain ⟨v1, v2, v3⟩ := h.voice i
    rw [v1, v2, v3]
    exact hs.tones i
  chain := by rw [h.signs.1.1, h.signs.1.2.1, h.signs.1.2.2]; exact hs.chain
  supervision := by rw [h.link]; exact hs.supervision

/-- The invariants that rest on the settings, carried from one state to another. -/
structure Carries (s t : State) : Prop where
  queue : s.QueueSafe → t.QueueSafe
  slot : s.SlotSafe → t.SlotSafe
  latch : s.LatchSafe → t.LatchSafe
  isMatch : s.MatchSafe → t.MatchSafe
  settings : s.SettingsSafe → t.SettingsSafe
  chain : s.ChainSafe → t.ChainSafe

theorem Carries.refl (s : State) : Carries s s := ⟨id, id, id, id, id, id⟩

theorem Carries.trans {s t u : State} (h : Carries s t) (k : Carries t u) : Carries s u :=
  ⟨k.1 ∘ h.1, k.2 ∘ h.2, k.3 ∘ h.3, k.4 ∘ h.4, k.5 ∘ h.5, k.6 ∘ h.6⟩

theorem Stands.carries {s t : State} (h : Stands s t) : Carries s t :=
  ⟨h.queueSafe, h.slot, h.latchSafe, h.matchSafe, h.settingsSafe, h.signs.2⟩

theorem setChan_settings {s : State} {c : Chan} {r : Channel} (h : s.SettingsSafe)
    (hr : r.pendingSet.InRange ∧ r.activeSet.InRange) : (s.setChan c r).SettingsSafe :=
  { h with
    timing := fun j => by
      by_cases e : j = c
      · subst e; rw [setChan_chan]; exact hr
      · rw [setChan_chan_other s r e]; exact h.timing j }

theorem setChan_used {s : State} {c : Chan} {r : Channel} (h : r.kind = (s.chan c).kind) (j : Chan) :
    ((s.setChan c r).chan j).kind = (s.chan j).kind := by
  by_cases e : j = c
  · subst e; rw [setChan_chan, h]
  · rw [setChan_chan_other s r e]

theorem setChan_stands {s : State} {c : Chan} {r : Channel} (h : ChanStands (s.chan c) r) : Stands s (s.setChan c r) :=
  stands_chans _ s.lamps.drives (fun j => by
    rw [vset_get]
    split
    · next e => subst e; exact h
    · exact .refl _)

/-- A move of a channel's run state leaves every type. -/
theorem chan_carries {b : Bool} {s : State} {c : Chan} {r : Channel} (h : ChanMove b s c r) : Carries s (s.setChan c r) where
  queue hs := by
    unfold State.QueueSafe State.usedMask Channel.used
    simp only [setChan_used h.kind]
    exact hs
  slot := id
  latch hs j hj := hs j (by rwa [setChan_used h.kind] at hj)
  isMatch := id
  settings hs := by
    have hp : (s.chan c).pendingSet.InRange := (hs.timing c).1
    exact setChan_settings hs ⟨by rw [h.pending]; exact hp, h.active hp (hs.timing c).2⟩
  chain := id

/-- A set of used channels stays one when a channel not in it changes its type. -/
theorem within_used_retyped {s t : State} {c : Chan} {m : ChanSet} (hm : m &&& ~~~ s.usedMask = 0)
    (ho : ∀ j, j ≠ c → t.chan j = s.chan j) (hc : has m c = true → (t.chan c).used = true) : m &&& ~~~ t.usedMask = 0 := by
  refine mask_eq_zero.mpr (fun j => ?_)
  have k := mask_eq_zero.mp hm j
  simp only [has_and, has_not, State.usedMask, has_maskOf] at k ⊢
  by_cases e : j = c
  · subst e
    cases hj : has m j
    · rfl
    · simp [hc hj]
  · rw [ho j e]; exact k

theorem retype_carries {s : State} {c : Chan} {r : Channel} {g : Green} (h : Retype s c r g) :
    Carries s ((s.setChan c r).setGreen c g) where
  queue hs := by
    refine ⟨hs.1, fun q hq => ?_⟩
    obtain ⟨hp, hu⟩ := hs.2 q hq
    refine ⟨hp, within_used_retyped (c := c) hu (fun j e => setChan_chan_other s r e) (fun hc => ?_)⟩
    have used : (s.chan c).kind ≠ .unused := by
      intro e
      have := mask_eq_zero.mp hu c
      simp [State.usedMask, Channel.used, e, hc] at this
    have : r.kind ≠ .unused := fun e => by
      have := h.free e used q hq
      rw [this] at hc
      cases hc
    change ((s.setChan c r).chan c).used = true
    simp [Channel.used, this]
  slot := id
  latch hs j hj := by
    by_cases e : j = c
    · subst e
      have hj : ((s.setChan j r).chan j).kind = .unused := hj
      rw [setChan_chan] at hj
      rw [setGreen_green]
      by_contra x
      obtain ⟨k1, k2⟩ := h.latch hj (by simpa using x)
      rw [hs j k1] at k2
      cases k2
    · have hj : ((s.setChan c r).chan j).kind = .unused := hj
      rw [setChan_chan_other s r e] at hj
      rw [setGreen_green_other _ _ e]
      exact hs j hj
  isMatch := id
  settings hs := by
    have hr : r.pendingSet.InRange ∧ r.activeSet.InRange := by
      refine ⟨h.sets.1, ?_⟩
      rcases h.sets.2 with e | e <;> rw [e]
      · exact h.sets.1
      · exact (hs.timing c).2
    exact { setChan_settings (c := c) hs hr with }
  chain := id

theorem retabled_queue (t : PairTable) (s : State) :
    Carries s { s with
      compat := { s.compat with inUse := t, isMatch := s.compat.hostCopy == some t }
      seq := { s.seq with queue := prunedQueue t s.seq.queue } } where
  queue hs := by
    refine ⟨(List.length_filter_le _ _).trans hs.1, fun r hr => ?_⟩
    obtain ⟨hq, hp⟩ := List.mem_filter.mp hr
    exact ⟨hp, (hs.2 r hq).2⟩
  slot := id
  latch := id
  isMatch _ := rfl
  settings hs := { hs with steps := fun r hr => hs.steps r (List.mem_of_mem_filter hr) }
  chain := id

theorem appendStep_carries {s : State} {m : Termination} {skip : Bool} {set : ChanSet} {time : Option Nat}
    (hl : s.seq.queue.length < Config.queueCapacity) (hc : pairwiseCompatible s.compat.inUse set = true)
    (hu : set &&& ~~~ s.usedMask = 0) (ht : ∀ n, StepRecord.timeSafe ⟨n, m, skip, set, time⟩) :
    Carries s (appendStep m skip set time s) where
  queue hs := by
    refine ⟨by simpa [appendStep] using hl, fun r hr => ?_⟩
    simp only [appendStep, List.mem_append, List.mem_singleton] at hr
    rcases hr with hr | hr
    · exact hs.2 r hr
    · subst hr; exact ⟨hc, hu⟩
  slot := id
  latch := id
  isMatch := id
  settings hs := { hs with
    steps := fun r hr => by
      simp only [appendStep, List.mem_append, List.mem_singleton] at hr
      rcases hr with hr | hr
      · exact hs.steps r hr
      · subst hr; exact ⟨ht _, hs.serial⟩
    serial := by
      have := hs.serial
      simp only [appendStep, nextSerial]
      split <;> omega }
  chain := id

/-- Every act carries the invariants that rest on the settings. -/
theorem Act.carries {b : Bool} {s t : State} (h : Act b s t) : Carries s t := by
  cases h with
  | link l hs hr => exact { Carries.refl s with settings := fun h => { h with supervision := hr h.supervision } }
  | dim on k hk => exact { Carries.refl s with settings := fun h => { h with dim := hk } }
  | time t hc hn hr => exact { Carries.refl s with settings := fun h => { h with supply := hr h.supply } }
  | compat p hu ho hm =>
    refine { Carries.refl s with queue := fun h => ?_, isMatch := hm, settings := fun h => { h with } }
    unfold State.QueueSafe
    rw [hu]
    exact h
  | greens g hl =>
    refine { Carries.refl s with latch := fun h c hk => ?_, settings := fun h => { h with } }
    refine eq_false_of_ne_true (fun e => ?_)
    rcases hl c e with x | x
    · rw [h c hk] at x; cases x
    · have : (s.chan c).kind = .unused := hk
      simp [Channel.used, this] at x
  | seq q hq hl hn =>
    refine { Carries.refl s with queue := fun h => ⟨hl.trans h.1, fun r hr => h.2 r (hq r hr)⟩, settings := fun h => ?_ }
    exact { h with steps := fun r hr => h.steps r (hq r hr), serial := by rw [hn]; exact h.serial }
  | queued m skip set time hl hc hu ht => exact appendStep_carries hl hc hu ht
  | dets d m hr =>
    refine { Carries.refl s with settings := fun h => ?_ }
    exact { h with
      chatter := fun i => (hr i ⟨h.chatter i, h.detectors i⟩).1
      detectors := fun i => (hr i ⟨h.chatter i, h.detectors i⟩).2 }
  | slot p a hr hs =>
    refine { Carries.refl s with slot := fun h => hs h, settings := fun h => ?_ }
    exact { h with
      preempts := fun i => (hr i ⟨h.preempts i, h.limits i⟩).1
      limits := fun i => (hr i ⟨h.preempts i, h.limits i⟩).2 }
  | mon m hr hk => exact { Carries.refl s with settings := fun h => { h with redFail := hr h.redFail } }
  | unit u hm hr => exact { Carries.refl s with settings := fun h => { h with start := hr h.start } }
  | tones v hr => exact { Carries.refl s with settings := fun h => { h with tones := fun i => hr i (h.tones i) } }
  | signs g hr hl => exact { Carries.refl s with settings := fun h => { h with chain := hr h.chain }, chain := hl }
  | chan c r h => exact chan_carries h
  | retype c r g h => exact retype_carries h
  | held c i =>
    exact (setChan_stands (c := c) (r := { s.chan c with held := i }) ⟨rfl, rfl, .inl rfl⟩).carries
  | crossing => exact (crossing_stands s).carries
  | replace t =>
    exact (retabled_queue t s).trans (Stands.carries ((retabled_stands t s).trans (replaceTable_stands t s)))
  | faultFlash => exact (enterFaultFlash_stands s).carries
  | clearing k => exact (enterClearing_stands k s).carries
  | entryRed => exact (enterEntryRed_stands s).carries
  | controlled => exact (changeMode_stands _ s).carries
  | localFlash => exact (enterLocalFlash_stands s).carries
  | powerOut t l hc ht hr hl =>
    obtain ⟨m, e⟩ := hl
    have dated : Carries s { s with time := t, link := l } :=
      { Carries.refl s with settings := fun h => { h with supply := hr h.supply, supervision := by rw [e]; exact h.supervision } }
    exact dated.trans (enterPowerOut_stands _).carries
  | supply k hk hm => exact Stands.carries { Stands.refl s with }

theorem chain_carries {b : Bool} {s t : State} (h : Relation.ReflTransGen (Act b) s t) : Carries s t :=
  chain_keeps (P := Carries s) (fun _ _ ha hs => hs.trans ha.carries) h (.refl s)

theorem Acts.carries {s t : State} (h : Acts s t) : Carries s t := chain_carries h

theorem Middle.carries {s t : State} (h : Middle s t) : Carries s t := by
  cases h with
  | does h =>
    rcases h with h | ⟨u, v, w, a, b, rfl, d⟩
    · exact h.carries
    · exact (((a.carries.trans (tickOnce_stands u).carries).trans b.carries).trans
        (chain_carries (expireAll_expiries _ v))).trans d.carries
  | expiry c => exact (chain_carries (expireChannel_expiries c s)).trans (settle_acts _ _).carries
  | recover =>
    exact ((emptyRecord_stands s).trans (restart_stands _)).carries.trans (settle_acts _ _).carries
  | @resume u k acts => exact (acts.carries.trans (resumed_stands k u).carries).trans (settle_acts _ _).carries

theorem Ran.carries {s t : State} (h : Ran s t) : Carries s t := by
  obtain ⟨a, b, v, h1, h2, h3, h4⟩ := h
  exact ((h1.acts.carries.trans h2.stands.carries).trans h3.carries).trans h4.stands.carries

end Sys2Proof.Machine

/-! PROOFS. The invariants of every step that rest on the settings (O50 to O53), the state after hardware reset, and the
slots of the link (O14). -/

namespace Sys2Proof.Machine

/-! ### Hardware reset -/

/-- The state that hardware reset leaves: the reset values, with a rate read from the straps and the waiting commands
(R0, log entry 9). -/
def strapped (r : LinkRate) (p : List Instr) : State :=
  { State.reset with link := { Link.reset with rate := r }, pending := p }

theorem reset_stands (r : LinkRate) (p : List Instr) : Stands State.reset (strapped r p) := { Stands.refl State.reset with }

theorem timingReset_inRange : Channel.reset.pendingSet.InRange := by
  constructor <;> decide

theorem reset_settingsSafe : State.reset.SettingsSafe where
  timing c := by
    have e : State.reset.chan c = Channel.reset := by simp [State.reset, State.chan]
    rw [e]
    exact ⟨timingReset_inRange, timingReset_inRange⟩
  dim := by decide
  steps r hr := by simp [State.reset, Sequencer.reset] at hr
  serial := by decide
  chatter d := by
    have e : State.reset.det d = Detector.reset := by simp [State.reset, State.det]
    rw [e]; decide
  detectors d := by
    have e : State.reset.det d = Detector.reset := by simp [State.reset, State.det]
    rw [e]; decide
  preempts p := by
    have e : State.reset.pre p = Preempt.reset := by simp [State.reset, State.pre]
    rw [e]; decide
  limits p := by
    have e : State.reset.pre p = Preempt.reset := by simp [State.reset, State.pre]
    rw [e]; decide
  redFail := by decide
  start := by decide
  supply := by decide
  tones i := by
    have e : State.reset.line i = ToneLine.reset := by simp [State.reset, State.line]
    rw [e]; decide
  chain := by decide
  supervision := by decide

theorem reset_queueSafe : State.reset.QueueSafe :=
  ⟨by decide, fun r hr => by simp [State.reset, Sequencer.reset] at hr⟩

theorem reset_slotSafe : State.reset.SlotSafe := by
  intro p h
  have e : State.reset.pre p = Preempt.reset := by simp [State.reset, State.pre]
  rw [e] at h
  cases h

theorem reset_latchSafe : State.reset.LatchSafe := by
  intro c _
  have e : State.reset.green c = Green.reset := by simp [State.reset, State.green]
  rw [e]; rfl

theorem reset_matchSafe : State.reset.MatchSafe := rfl

theorem reset_chainSafe : State.reset.ChainSafe := fun _ => ⟨rfl, rfl, rfl, rfl⟩

/-- A command is a hardware reset, or runs as acts do. -/
theorem exec_cases {c : Instr} {s t : State} (e : exec c s = .next t) :
    (∃ r, t = strapped r s.pending) ∨ Ran s t := by
  by_cases h : ∀ straps, c ≠ .hardwareReset straps
  · exact .inr (exec_ran h e)
  · obtain ⟨b, hb⟩ := not_forall.mp h
    obtain rfl := not_not.mp hb
    cases e
    exact .inl ⟨_, rfl⟩

/-! ### The invariants -/

/-- Settles O50: every act leaves the queue records permitted by the in-use table, which a replacement prunes. -/
theorem queueKept : Obligations.QueueKept := by
  intro c s t h e
  rcases exec_cases e with ⟨r, rfl⟩ | run
  · exact (reset_stands r _).queueSafe reset_queueSafe
  · exact run.carries.queue h

/-- Settles O51: an act that puts a preempt into service gives it the slot, and one that takes the slot away puts its
holder out of service. -/
theorem slotKept : Obligations.SlotKept := by
  intro c s t h e
  have safe : t.SlotSafe := by
    rcases exec_cases e with ⟨r, rfl⟩ | run
    · exact (reset_stands r _).slot reset_slotSafe
    · exact run.carries.slot h
  exact ⟨safe, fun p q hp hq => Option.some.inj ((safe p hp).symm.trans (safe q hq))⟩

/-- Settles O52: a latch is set on a used channel only, and the match is recomputed with either table. -/
theorem latchAndMatchKept : Obligations.LatchAndMatchKept := by
  intro c s t hl hm e
  rcases exec_cases e with ⟨r, rfl⟩ | run
  · exact ⟨(reset_stands r _).latchSafe reset_latchSafe, (reset_stands r _).matchSafe reset_matchSafe⟩
  · exact ⟨run.carries.latch hl, run.carries.isMatch hm⟩

/-- Settles O53: every act that stores a setting brings it into its range. -/
theorem settingsKept : Obligations.SettingsKept := by
  refine ⟨fun c s t h e => ?_, fun c s t h e => ?_⟩
  · rcases exec_cases e with ⟨r, rfl⟩ | run
    · exact (reset_stands r _).settingsSafe reset_settingsSafe
    · exact run.carries.settings h
  · rcases exec_cases e with ⟨r, rfl⟩ | run
    · exact (reset_stands r _).signs.2 reset_chainSafe
    · exact run.carries.chain h

/-- The slots drain through every command that is no hardware reset. -/
theorem Ran.drains {s t : State} (h : Ran s t) (hs : s.SlotsDrain) : t.SlotsDrain := by
  have kept {u v : State} (k : SlotsKept u v) (hu : u.link.Drains) : v.link.Drains := by
    obtain ⟨h1, h2, h3⟩ := k
    unfold Link.Drains
    rw [h1, h2, h3]
    exact hu
  obtain ⟨a, b, v, h1, h2, h3, h4⟩ := h
  exact h4.drains (kept h3.slots (h2.drains (kept h1.acts.slots hs)))

/-- Settles O14: no act touches the slots, and the moves of the link keep them draining. -/
theorem slotsDrainKept : Obligations.SlotsDrainKept := by
  intro c s t h e
  rcases exec_cases e with ⟨r, rfl⟩ | run
  · exact ⟨fun x => absurd rfl x, fun x => absurd rfl x⟩
  · exact run.drains h

end Sys2Proof.Machine

/-! PROOFS. What every change of unit mode leaves of the indications, the drives, the mode and the tables. -/

namespace Sys2Proof.Machine

/-- A channel DARK with no lamp staged or applied (R12). -/
def Channel.Dark (r : Channel) : Prop := r.ind = .dark ∧ r.staged = Pattern.dark ∧ r.applied = Pattern.dark

theorem patternOf_dark (r : Channel) : patternOf r .dark = Pattern.dark := rfl

theorem changeMode_shown (m : Mode) (s : State) (c : Chan) :
    ((changeMode m s).chan c).ind = (s.chan c).ind ∧ ((changeMode m s).chan c).staged = (s.chan c).staged ∧
    ((changeMode m s).chan c).applied = (s.chan c).applied ∧ ((changeMode m s).chan c).held = (s.chan c).held := by
  rw [changeMode_chan]
  split <;> exact ⟨rfl, rfl, rfl, rfl⟩

/-- The channels darkened: what FAULT_FLASH and a restart do first. -/
theorem darkened_chan (s : State) (c : Chan) :
    ((drivesOff (dropHeld (forceAll .dark .dark s))).chan c).Dark ∧
      ((drivesOff (dropHeld (forceAll .dark .dark s))).chan c).held = none := by
  have e : (forceAll .dark .dark s).chans.get c = (s.chan c).force .dark := by
    change (forceAll .dark .dark s).chan c = _
    rw [forceAll_chan]
    cases (s.chan c).kind <;> rfl
  simp only [drivesOff, dropHeld, State.chan, vmap_get, e]
  exact ⟨⟨rfl, rfl, rfl⟩, trivial⟩

/-- Two states that an invariant of the unit mode cannot tell apart: the same indications, patterns, drives, mode,
category and table, and no owed notice dropped. -/
structure SameView (s t : State) : Prop where
  chans : ∀ c, (t.chan c).ind = (s.chan c).ind ∧ (t.chan c).staged = (s.chan c).staged ∧
    (t.chan c).applied = (s.chan c).applied ∧ (t.chan c).held = (s.chan c).held
  drives : t.lamps.drives = s.lamps.drives
  unit : t.unit.mode = s.unit.mode ∧ t.unit.ftr = s.unit.ftr ∧ t.unit.remembered = s.unit.remembered
  category : t.time.category = s.time.category
  inUse : t.compat.inUse = s.compat.inUse
  owed : t.compat.owed = none → s.compat.owed = none

theorem SameView.refl (s : State) : SameView s s := ⟨fun _ => ⟨rfl, rfl, rfl, rfl⟩, rfl, ⟨rfl, rfl, rfl⟩, rfl, rfl, id⟩

theorem SameView.trans {s t u : State} (h : SameView s t) (k : SameView t u) : SameView s u where
  chans c := by
    obtain ⟨h1, h2, h3, h4⟩ := h.chans c
    obtain ⟨k1, k2, k3, k4⟩ := k.chans c
    exact ⟨k1.trans h1, k2.trans h2, k3.trans h3, k4.trans h4⟩
  drives := k.drives.trans h.drives
  unit := ⟨k.unit.1.trans h.unit.1, k.unit.2.1.trans h.unit.2.1, k.unit.2.2.trans h.unit.2.2⟩
  category := k.category.trans h.category
  inUse := k.inUse.trans h.inUse
  owed := h.owed ∘ k.owed

theorem SameView.standing {s t : State} (h : SameView s t) : t.standingMode = s.standingMode := by
  unfold State.standingMode
  rw [h.unit.1, h.unit.2.2]

/-- The entry into a mode whose heads the external flasher holds: every channel DARK with nothing held, the drives low. -/
structure Blacked (s t : State) (m : Mode) : Prop where
  chans : ∀ c, (t.chan c).Dark ∧ (t.chan c).held = none
  drives : t.lamps.drives = 0
  mode : t.unit.mode = m ∧ t.unit.ftr = m.relay
  time : t.time = s.time
  inUse : t.compat.inUse = s.compat.inUse

theorem requestLatches_blocks (m : ChanSet) (s : State) : (requestLatches m s).lamps = s.lamps ∧
    (requestLatches m s).compat = s.compat ∧ (requestLatches m s).time = s.time ∧ (requestLatches m s).mon = s.mon ∧
    (requestLatches m s).unit = s.unit ∧ (requestLatches m s).seq = s.seq := by
  obtain ⟨g, h⟩ := requestLatches_eq m s
  rw [h]
  exact ⟨rfl, rfl, rfl, rfl, rfl, rfl⟩

theorem handForced_blocks (o s : State) : (handForced o s).chans = s.chans ∧ (handForced o s).lamps = s.lamps ∧
    (handForced o s).compat = s.compat ∧ (handForced o s).time = s.time ∧ (handForced o s).mon = s.mon ∧
    (handForced o s).unit = s.unit ∧ (handForced o s).seq = s.seq := by
  unfold handForced handLocking
  obtain ⟨g, h⟩ := requestLatches_eq (o.greenMask &&& ~~~ s.greenMask &&& s.lockingConds) s
  rw [h]
  exact ⟨rfl, rfl, rfl, rfl, rfl, rfl, rfl⟩

/-- What an entry into FAULT_FLASH does before the change of unit mode. -/
def doused (s : State) : State :=
  stopPreempts (stopAtHead (idleGreens (setCause .none (leaveUnjudged (drivesOff (dropHeld (forceAll .dark .dark s)))))))

theorem doused_time (s : State) : (doused s).time = s.time := by
  unfold doused
  rfl

theorem enterFaultFlash_eq (s : State) : enterFaultFlash s = handForced s (changeMode .faultFlash (doused s)) := rfl

theorem enterFaultFlash_unit (s : State) :
    (enterFaultFlash s).unit = { s.unit with mode := .faultFlash, ftr := false, cause := .none } := by
  obtain ⟨-, -, -, -, -, h, -⟩ := handForced_blocks s (changeMode .faultFlash (doused s))
  rw [enterFaultFlash_eq, h, changeMode_unit]
  rfl

theorem enterFaultFlash_record (s : State) : (enterFaultFlash s).mon.record = s.mon.record := by
  obtain ⟨-, -, -, -, h, -⟩ := handForced_blocks s (changeMode .faultFlash (doused s))
  rw [enterFaultFlash_eq, h, changeMode_mon]
  rfl

theorem enterFaultFlash_compat (s : State) : (enterFaultFlash s).compat = s.compat := by
  obtain ⟨-, -, h, -⟩ := handForced_blocks s (changeMode .faultFlash (doused s))
  rw [enterFaultFlash_eq, h, changeMode_compat]
  rfl

theorem enterFaultFlash_blacked (s : State) : Blacked s (enterFaultFlash s) .faultFlash := by
  obtain ⟨h1, h2, -, h4, -⟩ := handForced_blocks s (changeMode .faultFlash (doused s))
  refine ⟨fun c => ?_, ?_, by rw [enterFaultFlash_unit]; exact ⟨rfl, rfl⟩, ?_, by rw [enterFaultFlash_compat]⟩
  · have e : (doused s).chan c = (drivesOff (dropHeld (forceAll .dark .dark s))).chan c := rfl
    obtain ⟨k1, k2, k3, k4⟩ := changeMode_shown .faultFlash (doused s) c
    rw [e] at k1 k2 k3 k4
    obtain ⟨⟨d1, d2, d3⟩, d4⟩ := darkened_chan s c
    have g : (enterFaultFlash s).chan c = (changeMode .faultFlash (doused s)).chan c := by
      rw [enterFaultFlash_eq, State.chan, State.chan, h1]
    rw [g]
    exact ⟨⟨k1.trans d1, k2.trans d2, k3.trans d3⟩, k4.trans d4⟩
  · rw [enterFaultFlash_eq, h2, changeMode_lamps]; rfl
  · rw [enterFaultFlash_eq, h4, changeMode_time, doused_time]

/-- What a restart does before the change of unit mode. -/
def cleared (s : State) : State :=
  let s2 := stopPreempts (stopAtHead (restartGreens (drivesOff (dropHeld (forceAll .dark .dark s)))))
  { s2 with
    seq := { s2.seq with hold := false }
    compat := { s2.compat with owed := none }
    mon := s2.mon.restarted
    unit := { s2.unit with
      cause := .none
      remembered := none
      startFlashTimer := s2.unit.startFlashTime
      entryRedTimer := 0
      outageTimer := 0
      owedLinkLoss := false } }

theorem restart_eq (s : State) : restart s = changeMode .startFlash (cleared s) := rfl

theorem restart_unit (s : State) : (restart s).unit = { s.unit with
    mode := .startFlash, ftr := false, cause := .none, remembered := none, startFlashTimer := s.unit.startFlashTime,
    entryRedTimer := 0, outageTimer := 0, owedLinkLoss := false } := by
  rw [restart_eq, changeMode_unit]
  rfl

theorem restart_blacked (s : State) : Blacked s (restart s) .startFlash := by
  rw [restart_eq]
  refine ⟨fun c => ?_, by rw [changeMode_lamps]; rfl, by rw [changeMode_unit]; exact ⟨rfl, rfl⟩,
    by rw [changeMode_time]; rfl, by rw [changeMode_compat]; rfl⟩
  have e : (cleared s).chan c = (drivesOff (dropHeld (forceAll .dark .dark s))).chan c := rfl
  obtain ⟨k1, k2, k3, k4⟩ := changeMode_shown .startFlash (cleared s) c
  rw [e] at k1 k2 k3 k4
  obtain ⟨⟨d1, d2, d3⟩, d4⟩ := darkened_chan s c
  exact ⟨⟨k1.trans d1, k2.trans d2, k3.trans d3⟩, k4.trans d4⟩

/-- What the entry into POWER_OUT leaves (R147, R20). -/
theorem enterPowerOut_view (s : State) : let t := enterPowerOut s
    (∀ c, (t.chan c).Dark ∧ (t.chan c).held = if (s.chan c).used then some (s.chan c).ind else none) ∧
    t.lamps.drives = 0 ∧ t.unit.mode = .powerOut ∧ t.unit.ftr = false ∧ t.unit.remembered = some s.unit.mode ∧
    t.time = s.time ∧ t.compat = s.compat ∧ t.mon.record = s.mon.record := by
  simp only
  unfold enterPowerOut
  simp only
  obtain ⟨g, e⟩ := abandonExchange_eq (leaveUnjudged (drivesOff { s with
    chans := vmap (fun _ ch => { ch with ind := .dark, held := if ch.used then some ch.ind else none }) s.chans
    unit := { s.unit with remembered := some s.unit.mode, outageTimer := 0 } }))
  rw [e]
  refine ⟨fun c => ?_, ?_, ?_⟩
  · obtain ⟨k1, k2, k3, k4⟩ := changeMode_shown .powerOut { leaveUnjudged (drivesOff { s with
      chans := vmap (fun _ ch => { ch with ind := .dark, held := if ch.used then some ch.ind else none }) s.chans
      unit := { s.unit with remembered := some s.unit.mode, outageTimer := 0 } }) with signs := g } c
    unfold Channel.Dark
    rw [k1, k2, k3, k4]
    simp only [leaveUnjudged, drivesOff, State.chan, vmap_get]
    exact ⟨⟨trivial, trivial, trivial⟩, rfl⟩
  · rw [changeMode_lamps]; rfl
  · simp only [changeMode_unit, changeMode_time, changeMode_compat, changeMode_mon]
    exact ⟨trivial, rfl, rfl, rfl, rfl, rfl⟩

theorem leaveService_blocks (s : State) : (leaveService s).chans = s.chans ∧ (leaveService s).lamps = s.lamps ∧
    (leaveService s).compat = s.compat ∧ (leaveService s).unit = s.unit ∧ (leaveService s).time = s.time ∧
    (leaveService s).mon = s.mon := by
  unfold leaveService
  split <;> exact ⟨rfl, rfl, rfl, rfl, rfl, rfl⟩

/-- What the entry into CLEARING_TO_FLASH leaves (R143). -/
theorem enterClearing_view (k : FlashCause) (s : State) : let t := enterClearing k s
    t.chans = s.chans ∧ t.lamps = s.lamps ∧ t.compat = s.compat ∧ t.time = s.time ∧
    t.unit = { s.unit with mode := .clearingToFlash, ftr := true, cause := k } ∧ t.mon.record = s.mon.record := by
  obtain ⟨h1, h2, h3, h4, h5, h6⟩ := leaveService_blocks (stopExecution s)
  simp only
  unfold enterClearing
  refine ⟨bank_ext (fun c => ?_), ?_, ?_, ?_, ?_, ?_⟩
  · have := changeMode_chan .clearingToFlash (setCause k (leaveService (stopExecution s))) c
    simp only [Mode.copiesTiming, Bool.false_eq_true, if_false] at this
    change (changeMode .clearingToFlash (setCause k (leaveService (stopExecution s)))).chan c = s.chan c
    rw [this]
    change (leaveService (stopExecution s)).chans.get c = s.chans.get c
    rw [h1]; rfl
  · rw [changeMode_lamps]; exact h2
  · rw [changeMode_compat]; exact h3
  · rw [changeMode_time]; exact h5
  · rw [changeMode_unit]
    simp only [setCause, h4]
    rfl
  · rw [changeMode_mon]
    simp only [Monitor.atMode, setCause, h6]
    rfl

/-- A forced entry: every channel shows what its type is forced to (R10). -/
theorem forced_chan (m : Mode) (v p : Indication) (s : State) (c : Chan) :
    let i : Indication := match (s.chan c).kind with
      | .vehicle => v
      | .pedestrian => p
      | .unused => .dark
    ((changeMode m (forceAll v p s)).chan c).ind = i ∧ ((changeMode m (forceAll v p s)).chan c).held = (s.chan c).held := by
  simp only
  obtain ⟨k1, -, -, k4⟩ := changeMode_shown m (forceAll v p s) c
  rw [k1, k4, forceAll_chan]
  exact ⟨rfl, rfl⟩

end Sys2Proof.Machine

/-! PROOFS. The invariants of the unit mode, kept by every act and so by every command: the relay and the dark modes, the
outage, and the released channels (O48, O49, O54). -/

namespace Sys2Proof.Machine

/-- The invariants of the unit mode, carried from one state to another. -/
structure ModeCarries (s t : State) : Prop where
  dark : s.RelaySafe ∧ s.DarkSafe → t.RelaySafe ∧ t.DarkSafe
  outage : s.OutageSafe → t.OutageSafe
  release : s.ReleaseSafe → t.ReleaseSafe

theorem ModeCarries.refl (s : State) : ModeCarries s s := ⟨id, id, id⟩

theorem ModeCarries.trans {s t u : State} (h : ModeCarries s t) (k : ModeCarries t u) : ModeCarries s u :=
  ⟨k.1 ∘ h.1, k.2 ∘ h.2, k.3 ∘ h.3⟩

theorem SameView.outageSafe {s t : State} (h : SameView s t) (hs : s.OutageSafe) : t.OutageSafe := by
  obtain ⟨h1, -, h3⟩ := h.unit
  refine ⟨?_, ?_, ?_⟩
  · rw [h1, h.category]; exact hs.category
  · rw [h1, h3]; exact hs.remembers
  · rw [h1, h3]; exact hs.forgets

theorem SameView.darkSafe {s t : State} (h : SameView s t) (hs : s.RelaySafe ∧ s.DarkSafe) :
    t.RelaySafe ∧ t.DarkSafe := by
  obtain ⟨h1, h2, h3⟩ := h.unit
  obtain ⟨relay, dark⟩ := hs
  refine ⟨by unfold State.RelaySafe; rw [h1, h2]; exact relay, ?_, ?_, ?_⟩
  · rw [h1, h.drives]; exact dark.drives
  · intro hr c
    obtain ⟨k1, k2, k3, -⟩ := h.chans c
    rw [k1, k2, k3]
    exact dark.chans (h1 ▸ hr) c
  · intro hp hr c
    obtain ⟨-, -, -, k4⟩ := h.chans c
    rw [k4]
    exact dark.held (h1 ▸ hp) (by rw [← h.standing]; exact hr) c

theorem SameView.releaseSafe {s t : State} (h : SameView s t) (hs : s.ReleaseSafe) : t.ReleaseSafe := by
  have ind (c : Chan) : (t.chan c).ind = (s.chan c).ind := (h.chans c).1
  have held (c : Chan) : (t.chan c).held = (s.chan c).held := (h.chans c).2.2.2
  refine ⟨?_, ?_, ?_, ?_⟩
  · rw [h.unit.1]
    simp only [ind]
    exact hs.controlOnly
  · rw [h.inUse]
    simp only [ind]
    exact hs.pairs
  · rw [h.unit.1, h.standing]
    simp only [held]
    exact hs.heldOnly
  · rw [h.unit.1, h.inUse]
    simp only [held]
    exact fun m o => hs.heldPairs m (h.owed o)

theorem SameView.carries {s t : State} (h : SameView s t) : ModeCarries s t := ⟨h.darkSafe, h.outageSafe, h.releaseSafe⟩

/-! ### Entries into a mode -/

theorem Blacked.darkSafe {s t : State} {m : Mode} (h : Blacked s t m) : t.RelaySafe ∧ t.DarkSafe :=
  ⟨by unfold State.RelaySafe; rw [h.mode.2, h.mode.1], fun _ => h.drives, fun _ c => (h.chans c).1,
    fun _ _ c => by rw [(h.chans c).2]; rfl⟩

theorem Blacked.releaseSafe {s t : State} {m : Mode} (h : Blacked s t m) : t.ReleaseSafe := by
  have quiet (c : Chan) : (t.chan c).ind.released = false := by rw [(h.chans c).1.1]; rfl
  have none (c : Chan) : heldReleased (t.chan c).held = false := by rw [(h.chans c).2]; rfl
  exact ⟨fun _ => quiet, fun i j _ k => by simp [quiet i] at k, fun _ _ => none,
    fun _ _ i j _ k => by simp [none i] at k⟩

/-- A state outside POWER_OUT with no mode remembered and a category other than DROPOUT. -/
theorem outageSafe_of {s : State} (hm : s.unit.mode ≠ .powerOut) (hr : s.unit.remembered = none)
    (hc : s.time.category ≠ .dropout) : s.OutageSafe :=
  ⟨⟨fun h => absurd h hm, fun h => absurd h hc⟩, fun h => absurd h hm, fun _ => hr⟩

/-- An entry into a mode other than POWER_OUT, from one other than POWER_OUT, leaves the outage as it is. -/
theorem outageSafe_moved {s t : State} (hs : s.OutageSafe) (hm : s.unit.mode ≠ .powerOut) (ht : t.unit.mode ≠ .powerOut)
    (hr : t.unit.remembered = s.unit.remembered) (hc : t.time.category = s.time.category) : t.OutageSafe :=
  outageSafe_of ht (hr.trans (hs.forgets hm)) (by rw [hc]; exact fun x => hm (hs.category.mpr x))

theorem enterFaultFlash_carries {s : State} (hm : s.unit.mode ≠ .powerOut) : ModeCarries s (enterFaultFlash s) := by
  have black := enterFaultFlash_blacked s
  refine ⟨fun _ => black.darkSafe, fun hs => ?_, fun _ => black.releaseSafe⟩
  exact outageSafe_moved hs hm (by rw [black.mode.1]; simp) (by rw [enterFaultFlash_unit]) (by rw [black.time])

/-- An entry into a control mode that shows no released indication, or leaves the indications of another control mode. -/
theorem control_carries {s t : State} (hs : s.unit.mode ≠ .powerOut)
    (ht : t.unit.mode.isControl = true) (hf : t.unit.ftr = true)
    (hr : t.unit.remembered = s.unit.remembered) (hc : t.time.category = s.time.category)
    (hu : t.compat.inUse = s.compat.inUse)
    (hi : ∀ c, (t.chan c).ind = (s.chan c).ind ∨ (t.chan c).ind.released = false) : ModeCarries s t := by
  have relay : t.unit.mode.relay = true := by cases hm : t.unit.mode <;> simp_all [Mode.isControl, Mode.relay]
  have out : t.unit.mode ≠ .powerOut := fun e => by rw [e] at ht; cases ht
  have old (c : Chan) (h : (t.chan c).ind.released = true) : (s.chan c).ind.released = true :=
    (hi c).elim (fun e => by rwa [e] at h) (fun e => by rw [e] at h; cases h)
  refine ⟨fun _ => ⟨?_, ?_, ?_, ?_⟩, fun h => outageSafe_moved h hs out hr hc, fun h => ⟨?_, ?_, ?_, ?_⟩⟩
  · unfold State.RelaySafe; rw [hf, relay]
  · exact fun x => by rw [relay] at x; cases x
  · exact fun x => by rw [relay] at x; cases x
  · exact fun x => absurd x out
  · exact fun x => by rw [ht] at x; cases x
  · rw [hu]; exact fun i j hij k => h.pairs i j hij ⟨old i k.1, old j k.2⟩
  · exact fun x => absurd x out
  · exact fun x => absurd x out

theorem enterClearing_carries {k : FlashCause} {s : State} (hm : s.unit.mode = .entryRed ∨ s.unit.mode = .controlled) :
    ModeCarries s (enterClearing k s) := by
  obtain ⟨h1, -, h3, h4, h5, -⟩ := enterClearing_view k s
  refine control_carries ?_ ?_ ?_ ?_ ?_ ?_ (fun c => .inl ?_)
  · rcases hm with h | h <;> rw [h] <;> simp
  all_goals simp [h5, h4, h3, h1, Mode.isControl, State.chan]

theorem enterControlled_carries {s : State} (hm : s.unit.mode = .entryRed) : ModeCarries s (enterControlled s) := by
  unfold enterControlled
  refine control_carries (by simp [hm]) ?_ ?_ ?_ ?_ ?_ (fun c => .inl (changeMode_shown _ _ c).1)
  all_goals simp [Mode.isControl, Mode.relay]

theorem forced_quiet {m : Mode} {v p : Indication} (s : State) (c : Chan) (hv : v.released = false)
    (hp : p.released = false) : ((changeMode m (forceAll v p s)).chan c).ind.released = false := by
  rw [(forced_chan m v p s c).1]
  cases (s.chan c).kind
  · rfl
  · exact hv
  · exact hp

theorem enterEntryRed_carries {s : State} (hm : s.unit.mode = .startFlash ∨ s.unit.mode = .localFlash) :
    ModeCarries s (enterEntryRed s) := by
  refine control_carries ?_ ?_ ?_ ?_ ?_ ?_ (fun c => .inr ?_)
  · rcases hm with h | h <;> rw [h] <;> simp
  case refine_7 =>
    obtain ⟨k1, -, -, -⟩ := changeMode_shown .entryRed { forceAll .red .red (setCause .none s) with
      unit := { (forceAll .red .red (setCause .none s)).unit with
        entryRedTimer := (forceAll .red .red (setCause .none s)).unit.entryRedTime } } c
    have quiet := forced_quiet (m := .entryRed) (setCause .none s) c (v := .red) (p := .red) rfl rfl
    rw [(changeMode_shown .entryRed (forceAll .red .red (setCause .none s)) c).1] at quiet
    unfold enterEntryRed
    rw [k1]
    exact quiet
  all_goals simp [enterEntryRed, Mode.isControl, Mode.relay, setCause]

theorem enterLocalFlash_carries {s : State} (hm : s.unit.mode ≠ .powerOut) : ModeCarries s (enterLocalFlash s) := by
  have mode : (enterLocalFlash s).unit.mode = .localFlash := by simp [enterLocalFlash]
  have out : (enterLocalFlash s).unit.mode ≠ .powerOut := by rw [mode]; simp
  have quiet (c : Chan) : ((enterLocalFlash s).chan c).ind.released = false := forced_quiet s c rfl rfl
  refine ⟨fun _ => ⟨?_, ?_, ?_, ?_⟩, fun h => outageSafe_moved h hm out ?_ ?_, fun h => ⟨?_, ?_, ?_, ?_⟩⟩
  · simp [State.RelaySafe, enterLocalFlash]
  · exact fun x => by rw [mode] at x; cases x
  · exact fun x => by rw [mode] at x; cases x
  · exact fun x => absurd x out
  · simp [enterLocalFlash]
  · simp [enterLocalFlash]
  · exact fun _ => quiet
  · exact fun i j _ k => by simp [quiet i] at k
  · exact fun x => absurd x out
  · exact fun x => absurd x out

/-- The entry into POWER_OUT with the category that makes it (R147). -/
theorem enterPowerOut_carries {s u : State} (hu : u.time.category = .dropout) (hs : s.time.category ≠ .dropout)
    (hv : SameView { s with time := u.time } u) : ModeCarries s (enterPowerOut u) := by
  obtain ⟨h1, h2, h3, h4, h5, h6, h7, -⟩ := enterPowerOut_view u
  have ind (c : Chan) : (u.chan c).ind = (s.chan c).ind := (hv.chans c).1
  have mode : u.unit.mode = s.unit.mode := hv.unit.1
  have inUse : u.compat.inUse = s.compat.inUse := hv.inUse
  have standing : (enterPowerOut u).standingMode = s.unit.mode := by simp [State.standingMode, h3, h5, mode]
  have quiet (c : Chan) : ((enterPowerOut u).chan c).ind.released = false := by rw [(h1 c).1.1]; rfl
  have held (c : Chan) : heldReleased ((enterPowerOut u).chan c).held = true → (s.chan c).ind.released = true := by
    rw [(h1 c).2, ind c]
    split
    · exact id
    · intro x; cases x
  refine ⟨fun hd => ⟨?_, fun _ => h2, fun _ c => (h1 c).1, fun _ hr c => ?_⟩, fun ho => ⟨?_, ?_, ?_⟩,
    fun hr => ⟨fun _ => quiet, fun i j _ k => by simp [quiet i] at k, fun _ hc c => ?_, fun _ _ i j hij k => ?_⟩⟩
  · unfold State.RelaySafe; rw [h4, h3]; rfl
  · rw [standing] at hr
    rw [(h1 c).2, ind c, (hd.2.chans hr c).1]
    split <;> rfl
  · rw [h3, h6, hu]; simp
  · refine fun _ => ⟨s.unit.mode, by rw [h5, mode], fun x => hs (ho.category.mp x)⟩
  · exact fun x => absurd h3 x
  · rw [standing] at hc
    refine eq_false_of_ne_true (fun x => ?_)
    have := held c x
    rw [hr.controlOnly hc c] at this
    cases this
  · rw [h7, inUse] at hij
    exact hr.pairs i j hij ⟨held i k.1, held j k.2⟩

/-! ### The moves of one channel -/

theorem compatible_comm (t : PairTable) (i j : Chan) : compatible t i j = compatible t j i := by
  simp only [compatible, pairIndex, Nat.min_comm, Nat.max_comm, Bool.beq_comm (a := i)]

theorem compatible_self (t : PairTable) (i : Chan) : compatible t i i = true := by simp [compatible]

theorem chan_modeCarries {b : Bool} {s : State} {c : Chan} {r : Channel} (h : ChanMove b s c r) : ModeCarries s (s.setChan c r) := by
  have held (j : Chan) : ((s.setChan c r).chan j).held = (s.chan j).held := by
    by_cases e : j = c
    · subst e; rw [setChan_chan, h.held]
    · rw [setChan_chan_other s r e]
  have other (j : Chan) (e : j ≠ c) : (s.setChan c r).chan j = s.chan j := setChan_chan_other s r e
  refine ⟨fun hd => ⟨hd.1, hd.2.drives, fun hr j => ?_, fun hp hr j => ?_⟩, fun h => ⟨h.1, h.2, h.3⟩, fun hs => ?_⟩
  · obtain ⟨k1, k2, k3⟩ := hd.2.chans hr j
    by_cases e : j = c
    · subst e
      rw [setChan_chan, h.applied]
      obtain ⟨m1, m2⟩ := h.dark hr k1 k2
      exact ⟨m1, m2, k3⟩
    · rw [other j e]; exact ⟨k1, k2, k3⟩
  · rw [held]; exact hd.2.held hp hr j
  · refine ⟨fun hm j => ?_, fun i j hij k => ?_, fun hp hm j => ?_, fun hp ho i j hij k => ?_⟩
    · by_cases e : j = c
      · subst e
        rw [setChan_chan]
        refine eq_false_of_ne_true (fun x => ?_)
        rcases h.release x with y | ⟨y, -⟩
        · rw [hs.controlOnly hm j] at y; cases y
        · have hm : s.unit.mode.isControl = false := hm
          rw [hm] at y; cases y
      · rw [other j e]; exact hs.controlOnly hm j
    · have hij : compatible s.compat.inUse i j = false := hij
      have ne : i ≠ j := fun e => by rw [e, compatible_self] at hij; cases hij
      have move (x y : Chan) (e : x = c) (ne : y ≠ x) (hxy : compatible s.compat.inUse x y = false)
          (kx : ((s.setChan c r).chan x).ind.released = true) (ky : ((s.setChan c r).chan y).ind.released = true) :
          False := by
        subst e
        rw [setChan_chan] at kx
        rw [other y ne] at ky
        rcases h.release kx with z | ⟨-, z⟩
        · exact hs.pairs x y hxy ⟨z, ky⟩
        · rw [z y hxy] at ky; cases ky
      by_cases ei : i = c
      · exact move i j ei ne.symm hij k.1 k.2
      · by_cases ej : j = c
        · exact move j i ej ne (by rw [compatible_comm]; exact hij) k.2 k.1
        · rw [other i ei, other j ej] at k
          exact hs.pairs i j hij k
    · rw [held]; exact hs.heldOnly hp hm j
    · rw [held, held] at k; exact hs.heldPairs hp ho i j hij k

theorem held_modeCarries {s : State} {c : Chan} {i : Option Indication} (hm : s.unit.mode = .powerOut)
    (hd : s.standingMode.relay = false → i.getD .dark = .dark) (hr : heldReleased i = false) :
    ModeCarries s (s.setChan c { s.chan c with held := i }) := by
  have shown (j : Chan) : ((s.setChan c { s.chan c with held := i }).chan j).ind = (s.chan j).ind ∧
      ((s.setChan c { s.chan c with held := i }).chan j).staged = (s.chan j).staged ∧
      ((s.setChan c { s.chan c with held := i }).chan j).applied = (s.chan j).applied := by
    by_cases e : j = c
    · subst e; rw [setChan_chan]; exact ⟨rfl, rfl, rfl⟩
    · rw [setChan_chan_other s _ e]; exact ⟨rfl, rfl, rfl⟩
  have held (j : Chan) : ((s.setChan c { s.chan c with held := i }).chan j).held = (s.chan j).held ∨
      (j = c ∧ ((s.setChan c { s.chan c with held := i }).chan j).held = i) := by
    by_cases e : j = c
    · subst e; rw [setChan_chan]; exact .inr ⟨rfl, rfl⟩
    · rw [setChan_chan_other s _ e]; exact .inl rfl
  have old (j : Chan) (h : heldReleased ((s.setChan c { s.chan c with held := i }).chan j).held = true) :
      heldReleased (s.chan j).held = true := by
    rcases held j with e | ⟨-, e⟩ <;> rw [e] at h
    · exact h
    · rw [hr] at h; cases h
  refine ⟨fun hs => ⟨hs.1, hs.2.drives, fun hr j => ?_, fun hp hr j => ?_⟩, fun h => ⟨h.1, h.2, h.3⟩,
    fun hs => ⟨fun hm j => ?_, fun a b hab k => ?_, fun hp hm j => ?_, fun hp ho a b hab k => ?_⟩⟩
  · obtain ⟨k1, k2, k3⟩ := shown j
    rw [k1, k2, k3]; exact hs.2.chans hr j
  · rcases held j with e | ⟨-, e⟩ <;> rw [e]
    · exact hs.2.held hp hr j
    · exact hd hr
  · rw [(shown j).1]; exact hs.controlOnly hm j
  · rw [(shown a).1, (shown b).1] at k; exact hs.pairs a b hab k
  · refine eq_false_of_ne_true (fun x => ?_)
    have := old j x
    rw [hs.heldOnly hp hm j] at this
    cases this
  · exact hs.heldPairs hp ho a b hab ⟨old a k.1, old b k.2⟩

/-- The crossing event applies the staged patterns; in a dark mode every one of them is dark and no output conducts. -/
theorem crossing_modeCarries (s : State) : ModeCarries s (crossing s) := by
  have chan (c : Chan) : (crossing s).chan c = { s.chan c with applied := (s.chan c).staged } := by
    simp only [crossing, State.chan, vmap_get]
  refine ⟨fun hs => ⟨hs.1, fun hr => ?_, fun hr c => ?_, fun hp hr c => ?_⟩, fun h => ⟨h.1, h.2, h.3⟩, fun hs => ?_⟩
  · have dark (o : Fin 48) : (s.chan (outputChan o)).staged = Pattern.dark := (hs.2.chans hr _).2.1
    refine mask_eq_zero.mpr (fun o => ?_)
    simp only [crossing, has_maskOf, State.driveReport, State.chan, vmap_get]
    have dark : ((s.chans.get (outputChan o))).staged = Pattern.dark := dark o
    simp [dark, Pattern.lamp, Pattern.dark, lampDrive]
  · obtain ⟨k1, k2, -⟩ := hs.2.chans hr c
    rw [chan]
    exact ⟨k1, k2, k2⟩
  · rw [chan]; exact hs.2.held hp hr c
  · refine ⟨fun hm j => ?_, fun i j hij k => ?_, fun hp hm j => ?_, fun hp ho i j hij k => ?_⟩
    · rw [chan]; exact hs.controlOnly hm j
    · rw [chan, chan] at k; exact hs.pairs i j hij k
    · rw [chan]; exact hs.heldOnly hp hm j
    · rw [chan, chan] at k; exact hs.heldPairs hp ho i j hij k

end Sys2Proof.Machine

/-! PROOFS. The replacement of the table, the end of an outage, and the invariants of the unit mode through every command
(O48, O49, O54). -/

namespace Sys2Proof.Machine

/-! ### Findings and notices -/

theorem recordFinding_view (s : State) (f : Finding) : SameView s (recordFinding s f) := by
  obtain ⟨r, m, e, -⟩ := recordFinding_cases s f
  rw [e]
  exact { SameView.refl s with }

theorem recordFindings_view (fs : List Finding) (s : State) : SameView s (recordFindings fs s) := by
  obtain ⟨r, m, e⟩ := recordFindings_eq fs s
  rw [e]
  exact { SameView.refl s with }

theorem keepSample_view (o s : State) : SameView s (keepSample o s) := by
  rcases keepSample_cases o s with ⟨-, h⟩ | ⟨-, h⟩ <;> rw [h]
  · exact .refl s
  · exact { SameView.refl s with }

/-! ### The replacement of the in-use table (R26, R29) -/

theorem prune_view (s : State) : SameView s (prune s) := by
  unfold prune
  simp only
  split
  · exact .refl s
  · split <;> exact { SameView.refl s with }

theorem checkPreempts_view (s : State) : SameView s (checkPreempts s) := by
  unfold checkPreempts
  simp only
  split
  · exact .refl s
  · exact { SameView.refl s with }

/-- The table is replaced before its notice is given. -/
theorem retabled_view (t : PairTable) (s : State) :
    SameView { s with compat := { s.compat with inUse := t } } (checkPreempts (retabled t s)) := by
  refine SameView.trans ?_ (checkPreempts_view _)
  unfold retabled
  refine SameView.trans ?_ (prune_view _)
  unfold clearConflicts recomputeMatch
  simp only
  rcases flagIf_cases ((s.compat.hostCopy == some t) != s.compat.isMatch) .status { s with
    compat := { s.compat with inUse := t, isMatch := s.compat.hostCopy == some t } } with h | h
  all_goals
    rw [h]
    exact { SameView.refl { s with compat := { s.compat with inUse := t } } with }

/-- A replaced table outside the control modes: nothing is released, and what an outage holds is not released either, or a
notice is owed. -/
theorem retabled_carries {s u : State} {t : PairTable} (hv : SameView { s with compat := { s.compat with inUse := t } } u)
    (hm : s.unit.mode.isControl = false)
    (hp : s.unit.mode = .powerOut → s.standingMode.isControl = false ∨ u.compat.owed ≠ none) : ModeCarries s u := by
  have mode : u.unit.mode = s.unit.mode := hv.unit.1
  have standing : u.standingMode = s.standingMode := hv.standing
  have ind (c : Chan) : (u.chan c).ind = (s.chan c).ind := (hv.chans c).1
  have held (c : Chan) : (u.chan c).held = (s.chan c).held := (hv.chans c).2.2.2
  have same : ModeCarries { s with compat := { s.compat with inUse := t } } u := hv.carries
  refine ⟨fun h => same.dark ⟨h.1, ⟨h.2.1, h.2.2, h.2.3⟩⟩, fun h => same.outage ⟨h.1, h.2, h.3⟩, fun h => ?_⟩
  have quiet (c : Chan) : (u.chan c).ind.released = false := by rw [ind]; exact h.controlOnly hm c
  refine ⟨fun _ => quiet, fun i j _ x => by simp [quiet i] at x, fun hp' hs c => ?_, fun hp' ho i j _ x => ?_⟩
  · rw [held]; exact h.heldOnly (mode ▸ hp') (standing ▸ hs) c
  · rcases hp (mode ▸ hp') with y | y
    · rw [held, h.heldOnly (mode ▸ hp') y i] at x
      exact absurd x.1 (by simp)
    · exact y ho

theorem plugNotice_owes {k : FaultCause} {s : State} (hm : s.unit.mode = .powerOut)
    (hs : s.standingMode.isControl = true) :
    plugNotice k s = { s with compat := { s.compat with owed := s.compat.owed.or (some k) } } := by
  have calm : Mode.powerOut.isControl = false := rfl
  simp [plugNotice, hm, hs, calm]

/-- A notice of a replacement makes the new table safe: it ends a control mode, or is owed by an outage of one. -/
theorem plugNotice_replaced {s u : State} (k : FaultCause) (t : PairTable)
    (hv : SameView { s with compat := { s.compat with inUse := t } } u) : ModeCarries s (plugNotice k u) := by
  have mode : u.unit.mode = s.unit.mode := hv.unit.1
  have owing : SameView u { u with compat := { u.compat with owed := u.compat.owed.or (some k) } } :=
    { SameView.refl u with owed := fun x => by cases ho : u.compat.owed <;> simp [ho] at x ⊢ }
  rcases plugNotice_cases k u with ⟨hm, h⟩ | ⟨hm, -, h⟩ | ⟨hm, hst, h⟩ | ⟨hm, h⟩
  · have black := enterFaultFlash_blacked (recordFinding u ⟨k, 0, 0⟩)
    have same := recordFinding_view u ⟨k, 0, 0⟩
    have kept := keepSample_view u (enterFaultFlash (recordFinding u ⟨k, 0, 0⟩))
    rw [h]
    refine ⟨fun _ => kept.darkSafe black.darkSafe, fun ho => kept.outageSafe ?_,
      fun _ => kept.releaseSafe black.releaseSafe⟩
    have out : s.unit.mode ≠ .powerOut := fun e => by rw [mode, e] at hm; cases hm
    refine outageSafe_moved ho out (by rw [black.mode.1]; simp) ?_ ?_
    · rw [enterFaultFlash_unit]; exact same.unit.2.2.trans hv.unit.2.2
    · rw [black.time]; exact same.category.trans hv.category
  · rw [h]
    refine (retabled_carries hv (by rw [← mode, hm]; rfl) (fun e => ?_)).trans (recordFinding_view u _).carries
    rw [← mode, hm] at e; cases e
  · rw [h]
    refine retabled_carries (hv.trans owing) (by rw [← mode, hm]; rfl) (fun _ => .inr ?_)
    cases ho : u.compat.owed <;> simp [ho]
  · rw [h]
    refine retabled_carries hv (by rw [← mode]; exact hm) (fun e => ?_)
    by_cases hs : s.standingMode.isControl = true
    · have given := plugNotice_owes (k := k) (mode.trans e) (hv.standing ▸ hs)
      rw [h] at given
      have owed : u.compat.owed = u.compat.owed.or (some k) := congrArg (fun x => x.compat.owed) given
      exact .inr (fun x => by simp [x] at owed)
    · exact .inl (by simpa using hs)

theorem replaceTable_carries (t : PairTable) (s : State) : ModeCarries s (replaceTable t s) :=
  plugNotice_replaced .plugChanged t (retabled_view t s)

/-! ### Every act -/

theorem retype_view {s : State} {c : Chan} {r : Channel} {g : Green} (h : Retype s c r g) :
    SameView s ((s.setChan c r).setGreen c g) := by
  refine { SameView.refl s with chans := fun j => ?_ }
  obtain ⟨h1, -, h3, h4, h5⟩ := h.shown
  change ((s.setChan c r).chan j).ind = _ ∧ ((s.setChan c r).chan j).staged = _ ∧
    ((s.setChan c r).chan j).applied = _ ∧ ((s.setChan c r).chan j).held = _
  by_cases e : j = c
  · subst e; rw [setChan_chan]; exact ⟨h1, h3, h4, h5⟩
  · rw [setChan_chan_other s r e]; exact ⟨rfl, rfl, rfl, rfl⟩

/-- Every act carries the invariants of the unit mode. -/
theorem Act.modeCarries {b : Bool} {s t : State} (h : Act b s t) : ModeCarries s t := by
  cases h with
  | link l => exact SameView.carries { SameView.refl s with }
  | dim on k => exact SameView.carries { SameView.refl s with }
  | time t hc => exact SameView.carries { SameView.refl s with category := hc }
  | compat p hu ho => exact SameView.carries { SameView.refl s with inUse := hu, owed := ho }
  | greens g => exact SameView.carries { SameView.refl s with }
  | seq q => exact SameView.carries { SameView.refl s with }
  | queued m skip set time => exact SameView.carries { SameView.refl s with }
  | dets d m => exact SameView.carries { SameView.refl s with }
  | slot p a => exact SameView.carries { SameView.refl s with }
  | mon m => exact SameView.carries { SameView.refl s with }
  | unit u hm => exact SameView.carries { SameView.refl s with unit := hm }
  | tones v => exact SameView.carries { SameView.refl s with }
  | signs g => exact SameView.carries { SameView.refl s with }
  | chan c r h => exact chan_modeCarries h
  | retype c r g h => exact (retype_view h).carries
  | held c i hm hd hr => exact held_modeCarries hm hd hr
  | crossing => exact crossing_modeCarries s
  | replace t => exact replaceTable_carries t s
  | faultFlash hm => exact enterFaultFlash_carries hm
  | clearing k hm => exact enterClearing_carries hm
  | entryRed hm => exact enterEntryRed_carries hm
  | controlled hm => exact enterControlled_carries hm
  | localFlash hm =>
    refine enterLocalFlash_carries (fun e => ?_)
    rcases hm with h | ⟨h, -⟩ <;> rw [h] at e <;> cases e
  | powerOut t l hc ht => exact enterPowerOut_carries ht.1 hc { SameView.refl { s with time := t } with }
  | supply k hk hm =>
    refine ⟨fun h => ⟨h.1, h.2.1, h.2.2, h.2.3⟩, fun h => ?_, fun h => ⟨h.1, h.2, h.3, h.4⟩⟩
    exact outageSafe_of hm (h.forgets hm) hk

theorem chain_modeCarries {b : Bool} {s t : State} (h : Relation.ReflTransGen (Act b) s t) : ModeCarries s t :=
  chain_keeps (P := ModeCarries s) (fun _ _ ha hs => hs.trans ha.modeCarries) h (.refl s)

theorem Acts.modeCarries {s t : State} (h : Acts s t) : ModeCarries s t := chain_modeCarries h

theorem tickOnce_view (s : State) : SameView s (tickOnce s) := by
  have counter : SameView s (tickCounter s) := by
    unfold tickCounter
    simp only
    split <;> exact { SameView.refl s with }
  refine counter.trans ?_
  unfold tickOnce tickChannels
  split
  · refine { SameView.refl (tickCounter s) with chans := fun c => ?_ }
    simp only [State.chan, vmap_get]
    split <;> exact ⟨rfl, rfl, rfl, rfl⟩
  · exact .refl _

theorem SlotsMoved.view {s t : State} (h : SlotsMoved s t) : SameView s t := by
  obtain ⟨l, e⟩ := h.frame
  rw [e]
  exact { SameView.refl s with }

/-! ### The end of an outage (R148) -/

theorem restart_carries {s : State} (hm : s.unit.mode ≠ .powerOut) : ModeCarries s (restart s) := by
  have black := restart_blacked s
  refine ⟨fun _ => black.darkSafe, fun ho => ?_, fun _ => black.releaseSafe⟩
  refine outageSafe_of (by rw [black.mode.1]; simp) (by rw [restart_unit]) ?_
  rw [black.time]
  exact fun x => hm (ho.category.mpr x)

/-- What ends an outage, seen from the outage with the category that ends it: safe whatever the outage held, and outside
POWER_OUT with nothing remembered (R148). -/
structure EndsOutage (s t : State) : Prop where
  dark : s.RelaySafe ∧ s.DarkSafe → t.RelaySafe ∧ t.DarkSafe
  mode : (∃ m, s.unit.remembered = some m ∧ m ≠ .powerOut) → t.unit.mode ≠ .powerOut
  remembered : t.unit.remembered = none
  time : t.time = s.time
  release : s.ReleaseSafe → t.ReleaseSafe

theorem Blacked.endsOutage {s t : State} {m : Mode} (h : Blacked s t m) (hm : m ≠ .powerOut)
    (hr : t.unit.remembered = none) : EndsOutage s t :=
  ⟨fun _ => h.darkSafe, fun _ => by rw [h.mode.1]; exact hm, hr, h.time, fun _ => h.releaseSafe⟩

theorem outageToFault_ends (s : State) : EndsOutage s (outageToFault s) := by
  have black := enterFaultFlash_blacked { s with compat := { s.compat with owed := none } }
  have black : Blacked s (outageToFault s) .faultFlash :=
    ⟨black.chans, black.drives, black.mode, black.time, black.inUse⟩
  exact black.endsOutage (by simp) rfl

theorem restart_ends (s : State) : EndsOutage s (restart s) :=
  (restart_blacked s).endsOutage (by simp) (by rw [restart_unit])

/-- The state in which a remembered mode has just been taken up again, its held indications shown (R20, R148). -/
theorem restored_chan (m : Mode) (s : State) (c : Chan) : let r := (changeMode m (restoreHeld s)).chan c
    r.ind = (s.chan c).held.getD .dark ∧ r.staged = patternOf (s.chan c) ((s.chan c).held.getD .dark) ∧
    r.applied = (s.chan c).applied ∧ r.held = none := by
  obtain ⟨k1, k2, k3, k4⟩ := changeMode_shown m (restoreHeld s) c
  simp only
  rw [k1, k2, k3, k4]
  simp only [restoreHeld, State.chan, vmap_get]
  exact ⟨trivial, trivial, trivial, trivial⟩

theorem restored_blocks (m : Mode) (s : State) : let r := changeMode m (restoreHeld s)
    r.lamps = s.lamps ∧ r.compat = s.compat ∧ r.time = s.time ∧
    r.unit = { s.unit with mode := m, ftr := m.relay } ∧ r.mon.record = s.mon.record := by
  simp only [changeMode_lamps, changeMode_compat, changeMode_time, changeMode_unit, changeMode_mon]
  exact ⟨rfl, rfl, rfl, rfl, rfl⟩

theorem restored_darkSafe {m : Mode} {s : State} (hm : s.unit.mode = .powerOut) (hr : s.unit.remembered = some m)
    (hs : s.RelaySafe ∧ s.DarkSafe) :
    (changeMode m (restoreHeld s)).RelaySafe ∧ (changeMode m (restoreHeld s)).DarkSafe := by
  obtain ⟨h1, -, -, h4, -⟩ := restored_blocks m s
  have out : s.unit.mode.relay = false := by rw [hm]; rfl
  have stands : s.standingMode = m := by simp [State.standingMode, hm, hr]
  refine ⟨?_, fun _ => ?_, fun hrel c => ?_, fun _ _ c => ?_⟩
  · unfold State.RelaySafe; rw [h4]
  · rw [h1]; exact hs.2.drives out
  · obtain ⟨k1, k2, k3, -⟩ := restored_chan m s c
    rw [h4] at hrel
    have dark := hs.2.held hm (stands ▸ hrel) c
    obtain ⟨-, -, applied⟩ := hs.2.chans out c
    rw [k1, k2, k3, dark]
    exact ⟨rfl, rfl, applied⟩
  · rw [(restored_chan m s c).2.2.2]; rfl

theorem restored_releaseSafe {m : Mode} {s : State} (hm : s.unit.mode = .powerOut) (hr : s.unit.remembered = some m)
    (ho : m.isControl = true → s.compat.owed = none) (hs : s.ReleaseSafe) :
    (changeMode m (restoreHeld s)).ReleaseSafe := by
  obtain ⟨-, h2, -, h4, -⟩ := restored_blocks m s
  have stands : s.standingMode = m := by simp [State.standingMode, hm, hr]
  have ind (c : Chan) : ((changeMode m (restoreHeld s)).chan c).ind.released = heldReleased (s.chan c).held := by
    rw [(restored_chan m s c).1]
    cases (s.chan c).held <;> rfl
  have nothing (c : Chan) : heldReleased ((changeMode m (restoreHeld s)).chan c).held = false := by
    rw [(restored_chan m s c).2.2.2]; rfl
  refine ⟨fun hc c => ?_, fun i j hij k => ?_, fun _ _ => nothing, fun _ _ i j _ k => by simp [nothing i] at k⟩
  · rw [h4] at hc
    rw [ind]
    exact hs.heldOnly hm (stands ▸ hc) c
  · rw [h2] at hij
    rw [ind, ind] at k
    by_cases hc : m.isControl = true
    · exact hs.heldPairs hm (ho hc) i j hij k
    · rw [hs.heldOnly hm (by rw [stands]; simpa using hc) i] at k
      exact absurd k.1 (by simp)

/-- What the Unit Mode Machine does on a resumed mode: an owed notice ends a control mode, and an orderly flash begins in one;
with nothing owed the state stays. -/
theorem actOnResume_cases (b : Bool) (s : State) :
    (∃ k, s.unit.mode.isControl = true ∧ s.compat.owed = some k ∧ actOnResume b s =
      enterFaultFlash (recordFindings [⟨k, 0, 0⟩] { s with compat := { s.compat with owed := none } })) ∨
    ((s.unit.mode.isControl = true → s.compat.owed = none) ∧ (s.unit.mode = .entryRed ∨ s.unit.mode = .controlled) ∧
      ∃ k, actOnResume b s = enterClearing k s) ∨
    ((s.unit.mode.isControl = true → s.compat.owed = none) ∧ actOnResume b s = s) := by
  unfold actOnResume
  simp only
  split
  · next k hk =>
    refine .inl ⟨k, ?_⟩
    split at hk
    · next hm =>
      refine ⟨hm, hk, ?_⟩
      rcases faultNotice_cases [⟨k, 0, 0⟩] { s with compat := { s.compat with owed := none } } with
        ⟨h, -⟩ | ⟨-, h, -⟩ | ⟨-, -, -, h⟩
      · cases h
      · have h : s.unit.mode = .powerOut ∨ s.unit.mode = .faultFlash := h
        rcases h with h | h <;> rw [h] at hm <;> cases hm
      · exact h
    · cases hk
  · next hk =>
    have owed : s.unit.mode.isControl = true → s.compat.owed = none := fun hm => by simpa [hm] using hk
    split
    · next h => exact .inr (.inl ⟨owed, h.1, _, rfl⟩)
    · split
      · next h => exact .inr (.inl ⟨owed, h.1, _, rfl⟩)
      · exact .inr (.inr ⟨owed, rfl⟩)

/-- The remembered mode dropped in a state that holds nothing. -/
theorem endOutage_safe {s : State} (hh : ∀ c, (s.chan c).held = none) :
    (s.RelaySafe ∧ s.DarkSafe → (endOutage s).RelaySafe ∧ (endOutage s).DarkSafe) ∧
      (s.ReleaseSafe → (endOutage s).ReleaseSafe) := by
  have held (c : Chan) : ((endOutage s).chan c).held = none := hh c
  refine ⟨fun h => ⟨h.1, h.2.1, h.2.2, fun _ _ c => by rw [held]; rfl⟩, fun h => ⟨h.1, h.2, fun _ _ c => ?_, ?_⟩⟩
  · rw [held]; rfl
  · intro _ _ i j _ k
    rw [held] at k
    exact absurd k.1 (by simp [heldReleased])

theorem shortResume_ends {m : Mode} {s : State} (hm : s.unit.mode = .powerOut) (hr : s.unit.remembered = some m) :
    EndsOutage s (shortResume m s) := by
  obtain ⟨-, h2, h3, h4, -⟩ := restored_blocks m s
  have holds (c : Chan) := (restored_chan m s c).2.2.2
  have mode : (changeMode m (restoreHeld s)).unit.mode = m := by rw [h4]
  have owed : ∀ {p : Prop}, ((changeMode m (restoreHeld s)).unit.mode.isControl = true → p) → m.isControl = true → p :=
    fun h hc => h (mode ▸ hc)
  unfold shortResume
  rcases actOnResume_cases s.unit.owedLinkLoss (changeMode m (restoreHeld s)) with
    ⟨k, -, -, h⟩ | ⟨ho, hc, k, h⟩ | ⟨ho, h⟩ <;> rw [h]
  · have black := enterFaultFlash_blacked (recordFindings [⟨k, 0, 0⟩] { changeMode m (restoreHeld s) with
      compat := { (changeMode m (restoreHeld s)).compat with owed := none } })
    obtain ⟨r, f, e⟩ := recordFindings_eq [⟨k, 0, 0⟩] { changeMode m (restoreHeld s) with
      compat := { (changeMode m (restoreHeld s)).compat with owed := none } }
    have time := black.time
    have inUse := black.inUse
    refine Blacked.endsOutage (m := .faultFlash) ⟨black.chans, black.drives, black.mode, ?_, ?_⟩ (by simp) rfl
    · refine (time.trans ?_).trans h3
      rw [e]
    · refine (inUse.trans ?_).trans (congrArg Compat.inUse h2)
      rw [e]
  · obtain ⟨c1, -, -, c4, c5, -⟩ := enterClearing_view k (changeMode m (restoreHeld s))
    have safe := enterClearing_carries (k := k) hc
    obtain ⟨dark, release⟩ := endOutage_safe (s := enterClearing k (changeMode m (restoreHeld s)))
      (fun c => by rw [State.chan, c1]; exact holds c)
    refine ⟨fun hd => dark (safe.dark (restored_darkSafe hm hr hd)), fun _ => ?_, rfl, ?_,
      fun hs => release (safe.release (restored_releaseSafe hm hr (fun x => by
        have := owed ho x
        rwa [h2] at this) hs))⟩
    · simp [endOutage, c5]
    · exact c4.trans h3
  · obtain ⟨dark, release⟩ := endOutage_safe holds
    refine ⟨fun hd => dark (restored_darkSafe hm hr hd), fun ⟨n, hn, out⟩ => ?_, rfl, h3,
      fun hs => release (restored_releaseSafe hm hr (fun x => by
        have := owed ho x
        rwa [h2] at this) hs)⟩
    rw [hr] at hn
    cases hn
    simpa [endOutage, mode] using out

theorem leavePowerOut_ends {s : State} (hm : s.unit.mode = .powerOut) : EndsOutage s (leavePowerOut s) := by
  unfold leavePowerOut
  split
  · exact outageToFault_ends s
  · next m hr =>
    split
    · exact outageToFault_ends s
    · split
      · exact shortResume_ends hm hr
      · exact restart_ends s

theorem resumed_carries {k : Supply} {s : State} (hm : s.unit.mode = .powerOut) (hk : k ≠ .dropout) :
    ModeCarries s (leavePowerOut (flag .supply { s with time := { s.time with category := k } })) := by
  have ends := leavePowerOut_ends (s := flag .supply { s with time := { s.time with category := k } }) hm
  refine ⟨fun h => ends.dark ⟨h.1, h.2.1, h.2.2, h.2.3⟩, fun h => ?_, fun h => ends.release ⟨h.1, h.2, h.3, h.4⟩⟩
  refine outageSafe_of (ends.mode (h.remembers hm)) ends.remembered ?_
  rw [ends.time]
  exact hk

/-! ### Every command -/

theorem Middle.modeCarries {s t : State} (h : Middle s t) : ModeCarries s t := by
  cases h with
  | does h =>
    rcases h with h | ⟨u, v, w, a, b, rfl, d⟩
    · exact h.modeCarries
    · exact (((a.modeCarries.trans (tickOnce_view u).carries).trans b.modeCarries).trans
        (chain_modeCarries (expireAll_expiries _ v))).trans d.modeCarries
  | expiry c => exact (chain_modeCarries (expireChannel_expiries c s)).trans (settle_acts _ _).modeCarries
  | recover hm =>
    have emptied : SameView s (emptyRecord s) := by
      unfold emptyRecord
      rcases flagIf_cases s.mon.record.isSome .fault { s with mon := { s.mon with record := none } } with h | h <;> rw [h]
      all_goals exact { SameView.refl s with }
    refine (emptied.carries.trans (restart_carries ?_)).trans (settle_acts _ _).modeCarries
    rw [emptied.unit.1, hm]
    simp
  | resume k acts _ hm hk => exact (acts.modeCarries.trans (resumed_carries hm hk)).trans (settle_acts _ _).modeCarries

theorem Ran.modeCarries {s t : State} (h : Ran s t) : ModeCarries s t := by
  obtain ⟨a, b, v, h1, h2, h3, h4⟩ := h
  exact ((h1.acts.modeCarries.trans h2.view.carries).trans h3.modeCarries).trans h4.view.carries

theorem reset_view (r : LinkRate) (p : List Instr) : SameView State.reset (strapped r p) := { SameView.refl State.reset with }

theorem reset_chan (c : Chan) : State.reset.chan c = Channel.reset := by simp [State.reset, State.chan]

theorem reset_darkSafe : State.reset.RelaySafe ∧ State.reset.DarkSafe :=
  ⟨rfl, fun _ => rfl, fun _ c => by rw [reset_chan]; exact ⟨rfl, rfl, rfl⟩, fun h => by cases h⟩

theorem reset_outageSafe : State.reset.OutageSafe := outageSafe_of (by decide) rfl (by decide)

theorem reset_releaseSafe : State.reset.ReleaseSafe := by
  have quiet (c : Chan) : (State.reset.chan c).ind.released = false := by rw [reset_chan]; rfl
  exact ⟨fun _ => quiet, fun i _ _ k => by simp [quiet i] at k, (fun h => by cases h), (fun h => by cases h)⟩

/-- Settles O48: every entry into a mode sets the relay by it, and the entries into the modes of the external flasher darken
every channel. -/
theorem relayAndDarkKept : Obligations.RelayAndDarkKept := by
  intro c s t hr hd e
  rcases exec_cases e with ⟨r, rfl⟩ | run
  · exact (reset_view r _).darkSafe reset_darkSafe
  · exact run.modeCarries.dark ⟨hr, hd⟩

/-- Settles O49: the category reaches DROPOUT with the entry into POWER_OUT, and leaves it with the end of the outage. -/
theorem outageKept : Obligations.OutageKept := by
  intro c s t h e
  rcases exec_cases e with ⟨r, rfl⟩ | run
  · exact (reset_view r _).outageSafe reset_outageSafe
  · exact run.modeCarries.outage h

/-- Settles O54: a channel is released with every incompatible one RED or DARK, and a replaced table ends the control mode
or is owed by the outage. -/
theorem releaseKept : Obligations.ReleaseKept := by
  intro c s t h e
  rcases exec_cases e with ⟨r, rfl⟩ | run
  · exact (reset_view r _).releaseSafe reset_releaseSafe
  · exact run.modeCarries.release h

end Sys2Proof.Machine

/-! PROOFS. The fault record through every command (O55), and the full time of an AMBER and of a RED_CLEAR (O56). -/

namespace Sys2Proof.Machine

/-! ### The fault record (R131, R133) -/

theorem recordFinding_keepsRecord (s : State) (f : Finding) : RecordKept s.mon.record (recordFinding s f).mon.record := by
  obtain ⟨r, m, e, -, ho⟩ := recordFinding_cases s f
  rw [e]
  exact fun old h => ⟨true, by simp only [ho old h], fun _ => rfl⟩

theorem recordFindings_keepsRecord (fs : List Finding) (s : State) :
    RecordKept s.mon.record (recordFindings fs s).mon.record := by
  unfold recordFindings
  induction fs generalizing s with
  | nil => exact .refl _
  | cons f fs ih => exact (recordFinding_keepsRecord s f).trans (ih _)

theorem keepSample_record (o s : State) : (keepSample o s).mon.record = s.mon.record := by
  rcases keepSample_cases o s with ⟨-, h⟩ | ⟨-, h⟩ <;> rw [h]

theorem plugNotice_keepsRecord (k : FaultCause) (s : State) : RecordKept s.mon.record (plugNotice k s).mon.record := by
  rcases plugNotice_cases k s with ⟨-, h⟩ | ⟨-, -, h⟩ | ⟨-, -, h⟩ | ⟨-, h⟩ <;> rw [h]
  · rw [keepSample_record, enterFaultFlash_record]
    exact recordFinding_keepsRecord s _
  · exact recordFinding_keepsRecord s _
  · exact .refl _
  · exact .refl _

theorem prune_mon (s : State) : (prune s).mon = s.mon := by
  unfold prune
  simp only
  split
  · rfl
  · split <;> rfl

theorem checkPreempts_mon (s : State) : (checkPreempts s).mon = s.mon := by
  unfold checkPreempts
  simp only
  split <;> rfl

theorem flagIf_mon' (b : Bool) (r : Report) (s : State) : (flagIf b r s).mon = s.mon := by
  rcases flagIf_cases b r s with h | h <;> rw [h]; rfl

theorem retabled_record (t : PairTable) (s : State) : (checkPreempts (retabled t s)).mon.record = s.mon.record := by
  unfold retabled recomputeMatch clearConflicts
  rw [checkPreempts_mon, prune_mon]
  simp only [flagIf_mon']

/-- No act empties a fault record or changes its first fault. -/
theorem Act.keepsRecord {b : Bool} {s t : State} (h : Act b s t) : RecordKept s.mon.record t.mon.record := by
  cases h with
  | mon m hr hk => exact hk
  | replace t =>
    have := plugNotice_keepsRecord .plugChanged (checkPreempts (retabled t s))
    rw [retabled_record] at this
    exact this
  | faultFlash => rw [enterFaultFlash_record]; exact .refl _
  | clearing k => rw [(enterClearing_view k s).2.2.2.2.2]; exact .refl _
  | entryRed => rw [enterEntryRed, changeMode_mon]; exact .refl _
  | controlled => rw [enterControlled, changeMode_mon]; exact .refl _
  | localFlash => rw [enterLocalFlash, changeMode_mon]; exact .refl _
  | powerOut t l => rw [(enterPowerOut_view _).2.2.2.2.2.2.2]; exact .refl _
  | _ => exact .refl _

theorem chain_keepsRecord {b : Bool} {s t : State} (h : Relation.ReflTransGen (Act b) s t) :
    RecordKept s.mon.record t.mon.record :=
  chain_keeps (P := fun t => RecordKept s.mon.record t.mon.record) (fun _ _ ha hs => hs.trans ha.keepsRecord) h (.refl _)

theorem restart_record (s : State) : (restart s).mon.record = s.mon.record := by
  rw [restart_eq, changeMode_mon]
  rfl

theorem leavePowerOut_keepsRecord (s : State) : RecordKept s.mon.record (leavePowerOut s).mon.record := by
  have fault : (outageToFault s).mon.record = s.mon.record := enterFaultFlash_record _
  unfold leavePowerOut
  split
  · rw [fault]; exact .refl _
  · next m _ =>
    split
    · rw [fault]; exact .refl _
    · split
      · have restored : (changeMode m (restoreHeld s)).mon.record = s.mon.record := (restored_blocks m s).2.2.2.2
        change RecordKept _ (actOnResume s.unit.owedLinkLoss (changeMode m (restoreHeld s))).mon.record
        rw [← restored]
        rcases actOnResume_cases s.unit.owedLinkLoss (changeMode m (restoreHeld s)) with
          ⟨k, -, -, h⟩ | ⟨-, -, k, h⟩ | ⟨-, h⟩ <;> rw [h]
        · rw [enterFaultFlash_record]
          exact recordFindings_keepsRecord [⟨k, 0, 0⟩] { changeMode m (restoreHeld s) with
            compat := { (changeMode m (restoreHeld s)).compat with owed := none } }
        · rw [(enterClearing_view k _).2.2.2.2.2]; exact .refl _
        · exact .refl _
      · rw [restart_record]; exact .refl _

/-- No judgment leaves START_FLASH. -/
theorem settle_startFlash {old new : State} (h : new.unit.mode = .startFlash) :
    (settle old new).unit.mode = .startFlash := by
  refine settle_induction (fun t => t.unit.mode = .startFlash) (fun t u hj ht => ?_) old new (by simpa using h)
  rw [noting_unit]
  rcases judge_cases hj with k | k | ⟨hm, -⟩ | ⟨hm, -⟩
  · unfold judgeClocks at k
    simp only at k
    split at k <;> cases k
    exact ht
  · unfold judgeRequests at k
    split at k
    · cases k
    · split at k <;> cases k
      exact ht
  · rw [ht] at hm; cases hm
  · rw [ht] at hm; cases hm

theorem emptyRecord_record (s : State) : (emptyRecord s).mon.record = none := by
  unfold emptyRecord
  rw [flagIf_mon']

/-- What a command between its slots does to the fault record: it keeps the first fault, or a restart empties it. -/
theorem Middle.keepsRecord {s t : State} (h : Middle s t) : RecordKept s.mon.record t.mon.record ∨
    (t.mon.record = none ∧ s.unit.mode = .faultFlash ∧ s.compat.status = .valid ∧ t.unit.mode = .startFlash) := by
  cases h with
  | does h =>
    rcases h with h | ⟨u, v, w, a, b, rfl, d⟩
    · exact .inl (chain_keepsRecord h)
    · have tick : (tickOnce u).mon = u.mon := by
        unfold tickOnce tickChannels tickCounter
        simp only
        split <;> split <;> rfl
      have later := ((chain_keepsRecord b).trans (chain_keepsRecord (expireAll_expiries _ v))).trans (chain_keepsRecord d)
      rw [tick] at later
      exact .inl ((chain_keepsRecord a).trans later)
  | expiry c =>
    exact .inl ((chain_keepsRecord (expireChannel_expiries c s)).trans (chain_keepsRecord (settle_acts _ _)))
  | recover hm hv =>
    refine .inr ⟨?_, hm, hv, settle_startFlash (restart_blacked _).mode.1⟩
    rw [(settle_keeps _ _).record, restart_record, emptyRecord_record]
  | @resume u k acts =>
    have left := leavePowerOut_keepsRecord (flag .supply { u with time := { u.time with category := k } })
    exact .inl (((chain_keepsRecord acts).trans left).trans (chain_keepsRecord (settle_acts _ _)))

/-- Settles O55: only the restart of an accepted RESET FAULT empties a record. -/
theorem firstFaultKept : Obligations.FirstFaultKept := by
  intro c s t r hc hr e
  obtain ⟨a, b, v, h1, h2, h3, h4⟩ := exec_ran hc e
  obtain ⟨l, rfl⟩ := h2.frame
  obtain ⟨m, rfl⟩ := h4.frame
  rcases h3.keepsRecord with k | ⟨k1, k2, k3, k4⟩
  · exact .inl (k r (h1.record.trans hr))
  · exact .inr ⟨k1, h1.mode ▸ k2, h1.status ▸ k3, k4⟩

/-! ### An interval that runs (R4, R6, R7) -/

/-- Channel `k` runs an AMBER or a RED_CLEAR `i` of a control mode with timer `n` at tenth `x`, or the mode has been left for
FAULT_FLASH or POWER_OUT. -/
def Runs (k : Chan) (i : Indication) (n : Nat) (x : BitVec 32) (s : State) : Prop :=
  s.unit.mode = .faultFlash ∨ s.unit.mode = .powerOut ∨
    (s.unit.mode.isControl = true ∧ (s.chan k).used = true ∧ (s.chan k).ind = i ∧ (s.chan k).timer = n ∧
      s.time.tenth = x)

/-- Two states in which an interval cannot be told apart. -/
structure SameRun (k : Chan) (s t : State) : Prop where
  mode : t.unit.mode = s.unit.mode
  used : (t.chan k).used = (s.chan k).used
  shown : (t.chan k).ind = (s.chan k).ind ∧ (t.chan k).timer = (s.chan k).timer
  tenth : t.time.tenth = s.time.tenth

theorem SameRun.runs {k : Chan} {i : Indication} {n : Nat} {x : BitVec 32} {s t : State} (h : SameRun k s t)
    (hs : Runs k i n x s) : Runs k i n x t := by
  unfold Runs
  rw [h.mode, h.used, h.shown.1, h.shown.2, h.tenth]
  exact hs

theorem SameRun.refl (k : Chan) (s : State) : SameRun k s s := ⟨rfl, rfl, ⟨rfl, rfl⟩, rfl⟩

theorem SameRun.of_blocks {k : Chan} {s t : State} (hc : t.chans = s.chans) (hu : t.unit = s.unit) (ht : t.time = s.time) :
    SameRun k s t := by
  refine ⟨by rw [hu], ?_, ?_, by rw [ht]⟩ <;> simp only [State.chan, hc]
  exact ⟨trivial, trivial⟩

theorem retabled_blocks (t : PairTable) (s : State) : (checkPreempts (retabled t s)).chans = s.chans ∧
    (checkPreempts (retabled t s)).unit = s.unit ∧ (checkPreempts (retabled t s)).time = s.time := by
  have checked (u : State) : (checkPreempts u).chans = u.chans ∧ (checkPreempts u).unit = u.unit ∧
      (checkPreempts u).time = u.time := by
    unfold checkPreempts
    simp only
    split <;> exact ⟨rfl, rfl, rfl⟩
  have pruned (u : State) : (prune u).chans = u.chans ∧ (prune u).unit = u.unit ∧ (prune u).time = u.time := by
    unfold prune
    simp only
    split
    · exact ⟨rfl, rfl, rfl⟩
    · split <;> exact ⟨rfl, rfl, rfl⟩
  obtain ⟨c1, c2, c3⟩ := checked (retabled t s)
  obtain ⟨p1, p2, p3⟩ := pruned (clearConflicts (recomputeMatch { s with compat := { s.compat with inUse := t } }))
  have first : (clearConflicts (recomputeMatch { s with compat := { s.compat with inUse := t } })).chans = s.chans ∧
      (clearConflicts (recomputeMatch { s with compat := { s.compat with inUse := t } })).unit = s.unit ∧
      (clearConflicts (recomputeMatch { s with compat := { s.compat with inUse := t } })).time = s.time := by
    unfold clearConflicts recomputeMatch
    simp
  exact ⟨c1.trans (p1.trans first.1), c2.trans (p2.trans first.2.1), c3.trans (p3.trans first.2.2)⟩

theorem plugNotice_runs {k : Chan} {i : Indication} {n : Nat} {x : BitVec 32} (f : FaultCause) {s : State}
    (h : Runs k i n x s) : Runs k i n x (plugNotice f s) := by
  have recorded (u : State) (y : Finding) : SameRun k u (recordFinding u y) := by
    obtain ⟨r, m, e, -⟩ := recordFinding_cases u y
    rw [e]
    exact .of_blocks rfl rfl rfl
  rcases plugNotice_cases f s with ⟨-, e⟩ | ⟨-, -, e⟩ | ⟨-, -, e⟩ | ⟨-, e⟩ <;> rw [e]
  · refine .inl ?_
    rcases keepSample_cases s (enterFaultFlash (recordFinding s ⟨f, 0, 0⟩)) with ⟨-, y⟩ | ⟨-, y⟩ <;> rw [y]
    · exact (enterFaultFlash_blacked _).mode.1
    · exact (enterFaultFlash_blacked _).mode.1
  · exact (recorded s _).runs h
  · exact (SameRun.of_blocks rfl rfl rfl).runs h
  · exact h

/-- A steady act leaves an AMBER or a RED_CLEAR of a control mode, or ends the control mode. -/
theorem Act.runs {k : Chan} {i : Indication} {n : Nat} {x : BitVec 32} (hi : i = .amber ∨ i = .redClear) {s t : State}
    (h : Act true s t) (hs : Runs k i n x s) : Runs k i n x t := by
  have same {u : State} (hc : u.chans = s.chans) (hu : u.unit = s.unit) (ht : u.time = s.time) : Runs k i n x u :=
    (SameRun.of_blocks hc hu ht).runs hs
  cases h with
  | time t hc hn => exact SameRun.runs (s := s) ⟨rfl, rfl, ⟨rfl, rfl⟩, hn⟩ hs
  | unit u hm => exact SameRun.runs (s := s) ⟨hm.1, rfl, ⟨rfl, rfl⟩, rfl⟩ hs
  | supply => exact SameRun.runs (s := s) ⟨rfl, rfl, ⟨rfl, rfl⟩, rfl⟩ hs
  | crossing =>
    have chan : (Machine.crossing s).chan k = { s.chan k with applied := (s.chan k).staged } := by
      simp only [Machine.crossing, State.chan, vmap_get]
    exact SameRun.runs (s := s) ⟨rfl, by rw [chan]; rfl, by rw [chan]; exact ⟨rfl, rfl⟩, rfl⟩ hs
  | chan c r hr =>
    rcases hs with h | h | ⟨hm, hu, hk, ht, hx⟩
    · exact .inl h
    · exact .inr (.inl h)
    · by_cases e : k = c
      · subst e
        obtain ⟨r1, r2⟩ := hr.runs rfl hm (hk ▸ hi)
        refine .inr (.inr ⟨hm, ?_, ?_, ?_, hx⟩) <;> rw [setChan_chan]
        · simpa [Channel.used, hr.kind] using hu
        · exact r1.trans hk
        · exact r2.trans ht
      · refine .inr (.inr ⟨hm, ?_, ?_, ?_, hx⟩) <;> rw [setChan_chan_other s r e] <;> assumption
  | retype c r g hr =>
    rcases hs with h | h | ⟨hm, hu, hk, ht, hx⟩
    · exact .inl h
    · exact .inr (.inl h)
    · obtain ⟨h1, h2, -⟩ := hr.shown
      refine .inr (.inr ⟨hm, ?_, ?_, ?_, hx⟩)
      · change ((s.setChan c r).chan k).used = true
        by_cases e : k = c
        · subst e; rw [setChan_chan]; simpa [Channel.used, hr.stays hm] using hu
        · rw [setChan_chan_other s r e]; exact hu
      · change ((s.setChan c r).chan k).ind = i
        by_cases e : k = c
        · subst e; rw [setChan_chan]; exact h1.trans hk
        · rw [setChan_chan_other s r e]; exact hk
      · change ((s.setChan c r).chan k).timer = n
        by_cases e : k = c
        · subst e; rw [setChan_chan]; exact h2.trans ht
        · rw [setChan_chan_other s r e]; exact ht
  | held c j hm => exact .inr (.inl hm)
  | replace t =>
    obtain ⟨h1, h2, h3⟩ := retabled_blocks t s
    exact plugNotice_runs _ (same h1 h2 h3)
  | faultFlash => exact .inl (enterFaultFlash_blacked s).mode.1
  | clearing f hm =>
    obtain ⟨h1, -, -, h4, h5, -⟩ := enterClearing_view f s
    rcases hs with h | h | ⟨-, hu, hk, ht, hx⟩
    · rcases hm with y | y <;> rw [h] at y <;> cases y
    · rcases hm with y | y <;> rw [h] at y <;> cases y
    · refine .inr (.inr ⟨by rw [h5]; rfl, ?_, ?_, ?_, by rw [h4]; exact hx⟩) <;> rw [State.chan, h1] <;> assumption
  | entryRed hm =>
    rcases hs with h | h | ⟨h, -⟩
    · rcases hm with y | y <;> rw [h] at y <;> cases y
    · rcases hm with y | y <;> rw [h] at y <;> cases y
    · rcases hm with y | y <;> rw [y] at h <;> cases h
  | controlled hm =>
    rcases hs with h | h | ⟨-, hu, hk, ht, hx⟩
    · rw [h] at hm; cases hm
    · rw [h] at hm; cases hm
    · have chan : (enterControlled s).chan k = s.chan k := by rw [enterControlled, changeMode_chan]; rfl
      refine .inr (.inr ⟨by simp [enterControlled, Mode.isControl], ?_, ?_, ?_, by simpa [enterControlled] using hx⟩)
      all_goals rw [chan]; assumption
  | localFlash hm =>
    rcases hs with h | h | ⟨h, hu, hk, -, -⟩
    · rcases hm with y | ⟨y, -⟩ <;> rw [h] at y <;> cases y
    · rcases hm with y | ⟨y, -⟩ <;> rw [h] at y <;> cases y
    · rcases hm with y | ⟨-, y⟩
      · rw [y] at h; cases h
      · have red := List.all_eq_true.mp y k (List.mem_finRange k)
        rw [hu, hk] at red
        rcases hi with hi | hi <;> rw [hi] at red <;> cases red
  | powerOut => exact .inr (.inl (enterPowerOut_view _).2.2.1)
  | _ => exact same rfl rfl rfl

theorem Acts.runs {k : Chan} {i : Indication} {n : Nat} {x : BitVec 32} (hi : i = .amber ∨ i = .redClear) {s t : State}
    (h : Acts s t) (hs : Runs k i n x s) : Runs k i n x t :=
  chain_keeps (fun _ _ ha hs => ha.runs hi hs) h hs

/-- An entry into an indication leaves the unit and the time. -/
theorem enter_clock (c : Chan) (i : Indication) (s : State) : (enter c i s).unit = s.unit ∧ (enter c i s).time = s.time := by
  have left (u : State) : (leaveGreen c u).unit = u.unit ∧ (leaveGreen c u).time = u.time := by
    unfold leaveGreen handLocking
    simp only [(requestLatches_blocks _ _).2.2.2.2.1, (requestLatches_blocks _ _).2.2.1]
    exact ⟨rfl, rfl⟩
  have told (u : State) : (signsFollow c u).unit = u.unit ∧ (signsFollow c u).time = u.time := by
    unfold signsFollow
    split <;> exact ⟨rfl, rfl⟩
  unfold enter
  simp only
  split
  · simp only [(left _).1, (left _).2, (told _).1, (told _).2]
    exact ⟨rfl, rfl⟩
  · simp only [(told _).1, (told _).2]
    exact ⟨rfl, rfl⟩

theorem expireChannel_clock (c : Chan) (s : State) :
    (expireChannel c s).unit = s.unit ∧ (expireChannel c s).time = s.time := by
  unfold expireChannel enterClearance enterPedClear
  simp only
  split
  · split <;> exact enter_clock _ _ _
  · split <;> exact enter_clock _ _ _
  · exact enter_clock _ _ _
  · split
    · exact enter_clock _ _ _
    · exact ⟨rfl, rfl⟩
  all_goals exact ⟨rfl, rfl⟩

theorem expireAll_clock (m : ChanSet) (s : State) : (expireAll m s).unit = s.unit ∧ (expireAll m s).time = s.time := by
  unfold expireAll
  induction List.finRange 16 generalizing s with
  | nil => exact ⟨rfl, rfl⟩
  | cons a l ih =>
    rw [List.foldl_cons, (ih _).1, (ih _).2]
    split
    · exact expireChannel_clock a s
    · exact ⟨rfl, rfl⟩

/-- The expiries of a tick leave an interval that had not run out. -/
theorem expireAll_runs {k : Chan} {i : Indication} {n : Nat} {x : BitVec 32} {m : ChanSet} {s : State}
    (hm : s.unit.mode.isControl = true → has m k = false) (hs : Runs k i n x s) : Runs k i n x (expireAll m s) := by
  obtain ⟨h1, h2⟩ := expireAll_clock m s
  rcases hs with h | h | ⟨hc, hs⟩
  · exact .inl (by rw [h1]; exact h)
  · exact .inr (.inl (by rw [h1]; exact h))
  · refine .inr (.inr ⟨by rw [h1]; exact hc, ?_⟩)
    rw [expireAll_chan (hm hc), h2]
    exact hs

/-- One tenth of a running interval (R4). -/
theorem tickOnce_runs {k : Chan} {i : Indication} {n : Nat} {x : BitVec 32} (hi : i = .amber ∨ i = .redClear) {s : State}
    (hs : Runs k i (n + 1) x s) : Runs k i n (x + 1) (tickOnce s) := by
  have counter : (tickCounter s).chans = s.chans ∧ (tickCounter s).unit = s.unit ∧
      (tickCounter s).time.tenth = s.time.tenth + 1 := by
    unfold tickCounter
    simp only
    split <;> exact ⟨rfl, rfl, rfl⟩
  obtain ⟨c1, c2, c3⟩ := counter
  have clock : (tickOnce s).unit = s.unit ∧ (tickOnce s).time = (tickCounter s).time := by
    unfold tickOnce tickChannels
    split
    · exact ⟨c2, rfl⟩
    · exact ⟨c2, rfl⟩
  rcases hs with h | h | ⟨hm, hu, hk, ht, hx⟩
  · exact .inl (by rw [clock.1]; exact h)
  · exact .inr (.inl (by rw [clock.1]; exact h))
  · have timed : (s.chan k).timed = true := by
      unfold Channel.timed
      rcases hi with e | e <;> rw [hk, e]
    have chan : (tickOnce s).chan k = { s.chan k with timer := (s.chan k).timer - 1 } := by
      have e : (tickCounter s).chans.get k = s.chan k := by rw [c1]; rfl
      unfold tickOnce tickChannels
      rw [c2, if_pos hm]
      simp only [State.chan, vmap_get]
      rw [e, if_pos timed]
      rfl
    refine .inr (.inr ⟨by rw [clock.1]; exact hm, ?_, ?_, ?_, by rw [clock.2, c3, hx]⟩) <;> rw [chan]
    · exact hu
    · exact hk
    · simp only [ht]
      omega

theorem Runs.not_expiring {k : Chan} {i : Indication} {n : Nat} {x : BitVec 32} {s : State} (hs : Runs k i (n + 1) x s) :
    has s.expiring k = false := by
  unfold State.expiring
  split
  · next hm =>
    rcases hs with h | h | ⟨-, -, -, ht, -⟩
    · rw [h] at hm; cases hm
    · rw [h] at hm; cases hm
    · simp [ht]
  · simp

/-- An interval that runs with its timer above 0 is left by an expiry of another channel. -/
theorem expireChannel_runs {k c : Chan} {i : Indication} {n : Nat} {x : BitVec 32} {s : State} (h : (s.chan c).timer = 0)
    (hs : Runs k i (n + 1) x s) : Runs k i (n + 1) x (expireChannel c s) := by
  obtain ⟨h1, h2⟩ := expireChannel_clock c s
  rcases hs with hm | hm | ⟨hc, hu, hk, ht, hx⟩
  · exact .inl (by rw [h1]; exact hm)
  · exact .inr (.inl (by rw [h1]; exact hm))
  · have ne : k ≠ c := fun e => by rw [e, h] at ht; cases ht
    refine .inr (.inr ⟨by rw [h1]; exact hc, ?_⟩)
    rw [expireChannel_other s ne, h2]
    exact ⟨hu, hk, ht, hx⟩

/-- What a command between its slots does to a running interval: nothing, or one tenth of it. -/
theorem Middle.runs {k : Chan} {i : Indication} {n : Nat} {x : BitVec 32} (hi : i = .amber ∨ i = .redClear) {s t : State}
    (h : Middle s t) (hm : s.unit.mode.isControl = true) (hs : Runs k i (n + 1) x s) :
    Runs k i (n + 1) x t ∨ Runs k i n (x + 1) t := by
  cases h with
  | does h =>
    rcases h with h | ⟨u, v, w, a, b, rfl, d⟩
    · exact .inl (h.runs hi hs)
    · have before := a.runs hi hs
      exact .inr (d.runs hi (expireAll_runs (fun _ => before.not_expiring) (b.runs hi (tickOnce_runs hi before))))
  | expiry c hz => exact .inl ((settle_acts _ _).runs hi (expireChannel_runs hz hs))
  | recover hf => rw [hf] at hm; cases hm
  | resume _ _ hp => rw [hp] at hm; cases hm

/-- Settles O56: the acts of a command leave an interval that runs, and its one tick takes one tenth. -/
theorem amberRunsFull : Obligations.AmberRunsFull := by
  intro c s t n k hc hm hu hi ht e
  obtain ⟨a, b, v, h1, h2, h3, h4⟩ := exec_ran hc e
  obtain ⟨l, rfl⟩ := h2.frame
  obtain ⟨m, rfl⟩ := h4.frame
  have start : Runs k (s.chan k).ind (n + 1) s.time.tenth s := .inr (.inr ⟨hm, hu, rfl, ht, rfl⟩)
  have ran : Runs k (s.chan k).ind (n + 1) s.time.tenth { a with link := l } :=
    SameRun.runs (.of_blocks rfl rfl rfl) (h1.acts.runs hi start)
  have control : ({ a with link := l } : State).unit.mode.isControl = true := by
    have : a.unit.mode = s.unit.mode := h1.mode
    exact this ▸ hm
  rcases h3.runs hi control ran with h | h
  · rcases h with h | h | ⟨-, -, hk, hn, -⟩
    · exact .inl h
    · exact .inr (.inl h)
    · exact .inr (.inr ⟨hk, .inl hn, fun y => absurd (hn.symm.trans y) (by omega)⟩)
  · rcases h with h | h | ⟨-, -, hk, hn, hx⟩
    · exact .inl h
    · exact .inr (.inl h)
    · exact .inr (.inr ⟨hk, .inr hn, fun _ => hx⟩)

end Sys2Proof.Machine

/-! PROOFS. The machine as a whole and the cabinet link: reset, the frame of a command and its characters, arrivals and
errors (O1 to O11). -/

namespace Sys2Proof.Machine

/-! ### The machine as a whole -/

/-- Settles O1: the two branches of `step`. -/
theorem stepRunsFront : Obligations.StepRunsFront :=
  ⟨fun c rest s h => by rw [step, h], fun s h => by rw [step, h]⟩

/-- Settles O2: the bank of each block holds its reset record, and each record its values. -/
theorem resetValues : Obligations.ResetValues := by
  have green (c : Chan) : State.reset.green c = Green.reset := by simp [State.reset, State.green]
  have det (d : Det) : State.reset.det d = Detector.reset := by simp [State.reset, State.det]
  have pre (p : Pre) : State.reset.pre p = Preempt.reset := by simp [State.reset, State.pre]
  have line (i : Line) : State.reset.line i = ToneLine.reset := by simp [State.reset, State.line]
  unfold Obligations.ResetValues
  simp only [reset_chan, green, det, pre, line]
  exact ⟨fun _ => ⟨rfl, rfl, rfl, rfl, rfl, rfl, rfl, rfl⟩, rfl, rfl, rfl, rfl, rfl, rfl, rfl, rfl, rfl, rfl, rfl, rfl,
    fun _ => ⟨rfl, rfl, rfl, rfl⟩, fun _ => ⟨rfl, rfl, rfl, rfl, rfl⟩, rfl, rfl, rfl, rfl, rfl, rfl, rfl, rfl, rfl, rfl, rfl, rfl, rfl, rfl, rfl,
    fun _ => ⟨rfl, rfl, rfl, rfl⟩, rfl, rfl, rfl, rfl, rfl, rfl, rfl, rfl, rfl, rfl, rfl, rfl⟩

/-- Settles O3: the reset record with the strapped rate sends nothing. -/
theorem hardwareReset : Obligations.HardwareReset := by
  intro straps s
  refine ⟨?_, fun t time h => ?_⟩
  · have rate : rateOf straps = if straps = 0 then .b9600 else if straps = 1 then .b19200 else if straps = 2 then .b38400
        else .b57600 := by
      revert straps
      decide
    change Host.Outcome.next _ = _
    rw [rate]
    rfl
  · cases h
    rfl

/-- Settles O4: every invariant holds of the reset values. -/
theorem resetIsSafe : Obligations.ResetIsSafe :=
  ⟨reset_darkSafe.1, reset_darkSafe.2, reset_outageSafe, reset_queueSafe, reset_slotSafe, reset_latchSafe,
    reset_settingsSafe, reset_releaseSafe, reset_matchSafe, ⟨fun h => absurd rfl h, fun h => absurd rfl h⟩,
    reset_chainSafe⟩

/-- Settles O5: the STATUS flag is bit 8 of the report flags. -/
theorem frameHeard : Obligations.FrameHeard := by
  intro s
  unfold heard
  cases h : s.link.lost
  · rfl
  · simp only [flagIf, if_true]
    rfl

/-! ### The frame of a command (Table 13-4) -/

theorem word_bytes (w : Word) : (w.extractLsb' 8 8 ++ w.extractLsb' 0 8 : Word) = w := by
  ext i hi
  simp only [BitVec.getElem_append, BitVec.getElem_extractLsb']
  split
  · simp only [Nat.zero_add]
    exact BitVec.getLsbD_eq_getElem hi
  · rw [BitVec.getLsbD_eq_getElem (by omega)]
    congr 1
    omega

/-- The word at a place of a list of words written out. -/
theorem wordAt_flatMap {α : Type} (g : α → Word) (l : List α) (k : Nat) (h : k < l.length) :
    wordAt (l.flatMap (fun i => wordBytes (g i))) (2 * k) = g l[k] := by
  induction l generalizing k with
  | nil => simp at h
  | cons a l ih =>
    cases k with
    | zero => exact word_bytes (g a)
    | succ k => exact ih k (by simpa using h)

theorem rowsOf_rowBytes (rows : Vector ChanSet 16) : rowsOf (rowBytes rows) = rows := by
  refine bank_ext (fun i => ?_)
  rw [rowsOf, ofFn_get]
  have := wordAt_flatMap (fun j => rows.get j) (List.finRange 16) i.val (by simp)
  simpa [rowBytes] using this

theorem timing_parse (a b c d : Byte) (t : TimingFields) : TimingFields.parse ([a, b, c, d] ++ t.bytes) 4 = t := by
  simp only [TimingFields.parse, TimingFields.bytes, wordBytes, wordAt, byteAt, List.cons_append, List.nil_append,
    List.getD_cons_succ, List.getD_cons_zero, word_bytes]

theorem detector_parse (f : DetectorFields) : DetectorFields.parse f.bytes = f := by
  simp only [DetectorFields.parse, DetectorFields.bytes, wordBytes, wordAt, byteAt, List.cons_append, List.nil_append,
    List.getD_cons_succ, List.getD_cons_zero, word_bytes]

theorem preempt_parse (f : PreemptFields) : PreemptFields.parse f.bytes = f := by
  simp only [PreemptFields.parse, PreemptFields.bytes, wordBytes, wordAt, byteAt, List.cons_append, List.nil_append,
    List.getD_cons_succ, List.getD_cons_zero, word_bytes]

theorem wordAt_two (a b : Byte) (w v : Word) :
    wordAt ([a, b] ++ wordBytes w ++ wordBytes v) 2 = w ∧ wordAt ([a, b] ++ wordBytes w ++ wordBytes v) 4 = v :=
  ⟨word_bytes w, word_bytes v⟩

/-- A frame of a known kind and length is its command. -/
theorem parseFrame_of {f : Frame} {n : Nat} {c : Instr} (hn : commandLength f.kind = some n) (hl : f.fields.length = n)
    (hc : commandOf f.kind f.tag f.fields = some c) : parseFrame f = .command c := by
  simp only [parseFrame, hn, hl, if_true, hc]

/-- The frame of a host command is read back as the command. -/
theorem parseFrame_frameOf {c : Instr} {f : Frame} (hf : frameOf c = some f) (hc : ∀ k t fs, c ≠ .unknownKind k t fs) :
    parseFrame f = .command c := by
  cases c
  case unknownKind k t fs => exact absurd rfl (hc k t fs)
  case setLink t a w b =>
    cases hf
    refine parseFrame_of rfl rfl ?_
    exact congrArg (fun v => some (Instr.setLink t a v b)) (word_bytes w)
  case setChannel t a b c d g =>
    cases hf
    refine parseFrame_of rfl rfl ?_
    exact congrArg (fun v => some (Instr.setChannel t a b c d v)) (timing_parse a b c d g)
  case loadCompatibility t rows =>
    cases hf
    refine parseFrame_of rfl rfl ?_
    exact congrArg (fun v => some (Instr.loadCompatibility t v)) (rowsOf_rowBytes rows)
  case queueStep t a b w v =>
    cases hf
    obtain ⟨h1, h2⟩ := wordAt_two a b w v
    refine parseFrame_of rfl rfl ?_
    exact congrArg₂ (fun x y => some (Instr.queueStep t a b x y)) h1 h2
  case placeCall t m =>
    cases hf
    refine parseFrame_of rfl rfl ?_
    exact congrArg (fun v => some (Instr.placeCall t v)) (word_bytes m)
  case setDetector t g =>
    cases hf
    refine parseFrame_of rfl rfl ?_
    exact congrArg (fun v => some (Instr.setDetector t v)) (detector_parse g)
  case setPreempt t g =>
    cases hf
    refine parseFrame_of rfl rfl ?_
    exact congrArg (fun v => some (Instr.setPreempt t v)) (preempt_parse g)
  all_goals cases hf <;> exact parseFrame_of rfl rfl rfl

/-- A kind that is no command kind has no length in Table 13-4. -/
theorem commandLength_unknown {k : Byte} (h : isCommandKind k = false) : commandLength k = none := by
  have all : ∀ k : Byte, isCommandKind k = false → commandLength k = none := by decide
  exact all k h

theorem parseFrame_unknown {k t : Byte} {fs : List Byte} (h : (Instr.unknownKind k t fs).wellFormed = true) :
    parseFrame ⟨k, t, fs⟩ = .unknown := by
  have hk : isCommandKind k = false := by
    simp only [Instr.wellFormed, Bool.and_eq_true, Bool.not_eq_true'] at h
    exact h.1
  simp only [parseFrame, commandLength_unknown hk]

/-- Settles O6: the fields of every kind are read back at the places where they are written. -/
theorem frameRoundTrip : Obligations.FrameRoundTrip :=
  ⟨fun _ _ hf hc => parseFrame_frameOf hf hc, fun _ _ _ h => parseFrame_unknown h⟩

/-! ### The characters of a frame (R181, R182) -/

/-- A character as the transmitter sends it, received. -/
def takeSent (s : State) (b : Byte) : State := receive b (ones b % 2 == 1) true s

theorem sent_parity (b : Byte) : parityError b (ones b % 2 == 1) = false := parityError_even b

/-- The bytes of a body before its last one are stored. -/
theorem takeSent_body (bs : List Byte) (s : State) (hr : s.link.receiver = .body)
    (hl : s.link.assembly.length + bs.length < s.link.length) :
    bs.foldl takeSent s = { s with link := { s.link with assembly := s.link.assembly ++ bs } } := by
  induction bs generalizing s with
  | nil => simp
  | cons b bs ih =>
    simp only [List.length_cons] at hl
    have stored : takeSent s b = { s with link := { s.link with assembly := s.link.assembly ++ [b] } } := by
      have h : (s.link.assembly ++ [b]).length < s.link.length := by simp; omega
      simp only [takeSent, receive, hr, sent_parity, Bool.not_true, Bool.or_self, Bool.false_eq_true, if_false, if_pos h]
    have rest := ih { s with link := { s.link with assembly := s.link.assembly ++ [b] } } hr (by
      simp only [List.length_append, List.length_singleton]
      omega)
    rw [List.foldl_cons, stored, rest]
    simp only [List.append_assoc, List.singleton_append]

/-- The last byte of a body whose sum is 0 gives the arrival of its frame. -/
theorem takeSent_last {s : State} {b : Byte} (hr : s.link.receiver = .body)
    (hl : s.link.length ≤ s.link.assembly.length + 1)
    (hs : u8 s.link.length + byteSum (s.link.assembly ++ [b]) = 0) :
    takeSent s b = arrive (frameOfBytes (s.link.assembly ++ [b]))
      { s with link := { s.link with receiver := .hunt, length := 0, assembly := [] } } := by
  have h : ¬ (s.link.assembly ++ [b]).length < s.link.length := by simp; omega
  simp only [takeSent, receive, hr, sent_parity, Bool.not_true, Bool.or_self, Bool.false_eq_true, if_false, if_neg h,
    judgeFrame, hs, if_true]

theorem byteSum_append (a b : List Byte) : byteSum (a ++ b) = byteSum a + byteSum b := by
  induction a with
  | nil => simp [byteSum]
  | cons x a ih => simp only [List.cons_append, byteSum, ih, BitVec.add_assoc]

theorem frameOfBytes_body (f : Frame) (x : Byte) : frameOfBytes (f.kind :: f.tag :: f.fields ++ [x]) = f := by
  simp [frameOfBytes, byteAt]

/-- Settles O7: the marker opens LENGTH, the length BODY, the body is stored, and its check byte completes it. -/
theorem receptionRoundTrip : Obligations.ReceptionRoundTrip := by
  intro f s hr hf
  have marker : takeSent s 0x7E#8 = { s with link := { s.link with receiver := .length, length := 0, assembly := [] } } := by
    simp [takeSent, receive, hr, sent_parity, Config.frameMarker]
  have size : (u8 (f.fields.length + 3)).toNat = f.fields.length + 3 := by
    simp only [u8, BitVec.toNat_ofNat]
    omega
  have opened : takeSent { s with link := { s.link with receiver := .length, length := 0, assembly := [] } }
      (u8 (f.fields.length + 3)) =
      { s with link := { s.link with receiver := .body, length := f.fields.length + 3, assembly := [] } } := by
    have h : Config.minLength ≤ f.fields.length + 3 ∧ f.fields.length + 3 ≤ Config.maxLength := by
      simp only [Config.minLength, Config.maxLength]
      omega
    simp only [takeSent, receive, sent_parity, Bool.not_true, Bool.or_self, Bool.false_eq_true, if_false, size, if_pos h]
  change List.foldl takeSent s _ = _
  simp only [Frame.bytes, List.foldl_cons, List.foldl_append, List.foldl_nil, marker, opened]
  rw [← List.foldl_cons (f := takeSent) (b := takeSent _ f.kind), ← List.foldl_cons (f := takeSent)]
  rw [takeSent_body _ _ rfl (by simp)]
  rw [takeSent_last rfl (by simp) ?_]
  · have e := frameOfBytes_body f (-(u8 (f.fields.length + 3) + byteSum (f.kind :: f.tag :: f.fields)))
    simp only [List.nil_append]
    rw [e]
  · simp only [List.nil_append, byteSum_append, byteSum]
    bv_omega

/-! ### Arrivals (R183, R184) -/

/-- A host row is the arrival of its frame. -/
theorem exec_arrive {c : Instr} {f : Frame} (s : State) (hf : frameOf c = some f) (hw : c.wellFormed = true) :
    exec c s = .next (arrive f s) := by
  by_cases hc : ∀ k t fs, c ≠ .unknownKind k t fs
  · rw [exec_of_frame hf hc]
    have taken : (fun t => replyTo f (serve c t)) = handle f := by
      funext t
      simp only [handle, parseFrame_frameOf hf hc]
    rw [command, taken, arrive]
  · simp only [not_forall, not_not] at hc
    obtain ⟨k, t, fs, rfl⟩ := hc
    cases hf
    have taken : handle ⟨k, t, fs⟩ = fun u => (u, unknownReply ⟨k, t, fs⟩) := by
      funext u
      simp only [handle, parseFrame_unknown hw]
    change execUnknownKind k t fs s = _
    rw [arrive, taken]
    simp only [Instr.wellFormed, Bool.and_eq_true, Bool.not_eq_true'] at hw
    simp [execUnknownKind, hw.1, hw.2]

/-- Settles O8. -/
theorem rowIsArrival : Obligations.RowIsArrival := fun _ _ s hf hw => exec_arrive s hf hw

/-- Settles O9: an arrival at a full held slot is an OVERRUN, and one at a full reply slot is held. -/
theorem busySlots : Obligations.BusySlots := by
  intro c f s hf hw
  rw [exec_arrive s hf hw]
  refine ⟨fun g hg => ⟨_, rfl, ?_⟩, fun g hh hr => ?_⟩
  · obtain ⟨m, h⟩ := heard_cases s
    rw [arrive, deliver_overrun hg, linkError, h]
    rfl
  · rw [arrive, deliver_held hh hr]

/-! ### Errors (R182) -/

theorem receiveError_eq (e : LinkError) (s : State) : receiveError e s = { s with
    link := { s.link with
      receiver := .hunt, length := 0, assembly := [], lastError := e
      errors := s.link.errors + 1, flags := s.link.flags ||| 0b100000000#9 } } := rfl

theorem characterBad {b : Byte} {p stop : Bool} :
    (parityError b p || !stop) = true ↔ parityError b p = true ∨ stop = false := by simp

/-- Settles O10: the branches of the receiver. -/
theorem receiveCharacter : Obligations.ReceiveCharacter := by
  intro b p stop s
  have good (h1 : parityError b p = false) (h2 : stop = true) : (parityError b p || !stop) = false := by simp [h1, h2]
  refine ⟨receive b p stop s, rfl, fun hr h1 h2 h3 => ?_, fun hr h => ?_, fun hr h1 h2 h3 h4 => ?_, fun hr h1 h2 h3 => ?_,
    fun hr h => ?_, fun hr h1 h2 h3 => ?_, fun hr h1 h2 h3 h4 => ?_⟩
  · simp only [receive, hr, if_pos (And.intro (good h1 h2) (h3.trans rfl : b = Config.frameMarker))]
  · have h' : ¬ ((parityError b p || !stop) = false ∧ b = Config.frameMarker) := by
      rintro ⟨k1, k2⟩
      simp only [Bool.or_eq_false_iff, Bool.not_eq_false'] at k1
      rcases h with h | h | h
      · rw [k1.1] at h; cases h
      · rw [k1.2] at h; cases h
      · exact h k2
    simp only [receive, hr, if_neg h']
  · simp [receive, hr, good h1 h2, h3, h4, Config.minLength, Config.maxLength]
  · have h' : (s.link.assembly ++ [b]).length < s.link.length := by simpa using h3
    simp [receive, hr, good h1 h2, h3]
  · rw [← characterBad] at h
    cases hs : s.link.receiver
    · exact absurd hs hr
    · simp only [receive, hs, h, if_true, receiveError_eq]
    · simp only [receive, hs, h, if_true, receiveError_eq]
  · have h' : ¬ (Config.minLength ≤ b.toNat ∧ b.toNat ≤ Config.maxLength) := by
      simp only [Config.minLength, Config.maxLength]
      omega
    simp only [receive, hr, good h1 h2, Bool.false_eq_true, if_false, if_neg h', receiveError_eq]
  · have h' : ¬ (s.link.assembly ++ [b]).length < s.link.length := by simpa using h3
    simp only [receive, hr, good h1 h2, Bool.false_eq_true, if_false, if_neg h', judgeFrame, if_neg h4, receiveError_eq]

/-- Settles O11: outside HUNT the gap is an error; an unknown kind on a free link is answered at once. -/
theorem gapAndUnknownKind : Obligations.GapAndUnknownKind := by
  refine ⟨fun s hr => ?_, fun s hr => ?_, fun k t fs s hs hw => ?_⟩
  · have outside : gapExceeded s = receiveError .gap s := by
      unfold gapExceeded
      split
      · next h => exact absurd h hr
      · rfl
      · rfl
    change Host.Outcome.next (gapExceeded s) = _
    rw [outside, receiveError_eq]
  · change Host.Outcome.next (gapExceeded s) = _
    simp only [gapExceeded, hr]
  · have taken : handle ⟨k, t, fs⟩ = fun u => (u, unknownReply ⟨k, t, fs⟩) := by
      funext u
      simp only [handle, parseFrame_unknown hw]
    rw [exec_arrive s rfl hw, arrive, taken, deliver_free hs (heard_free hs)]
    rfl

end Sys2Proof.Machine

/-! PROOFS. The transmitter and the bodies of the nine reports (O12). -/

namespace Sys2Proof.Machine

/-! ### Packs of two-bit codes (Table 13-2) -/

/-- Four two-bit codes in one byte: each is read back at its place. -/
theorem fourCodes_extract : ∀ a b c d : BitVec 2, ∀ i : Fin 4,
    (a.setWidth 8 ||| (b.setWidth 8 <<< 2) ||| (c.setWidth 8 <<< 4) ||| (d.setWidth 8 <<< 6) : Byte).extractLsb'
      (2 * i.val) 2 = [a, b, c, d].getD i.val 0 := by decide

/-- The bytes of a pack, each of four codes. -/
theorem packCodes_length : ∀ l : List Byte, (packCodes l).length = l.length / 4
  | a :: b :: c :: d :: rest => by
    have ih := packCodes_length rest
    simp only [packCodes, List.length_cons, ih]
    omega
  | [] => rfl
  | [_] | [_, _] | [_, _, _] => by simp [packCodes]

/-- A code below 4 is read back from its place in the pack. -/
theorem packCodes_extract : ∀ (l : List (BitVec 2)) (k : Nat), l.length % 4 = 0 → k < l.length →
    ((packCodes (l.map (·.setWidth 8))).getD (k / 4) 0).extractLsb' (2 * (k % 4)) 2 = l.getD k 0
  | a :: b :: c :: d :: rest, k, hl, hk => by
    by_cases first : k < 4
    · have here := fourCodes_extract a b c d ⟨k, first⟩
      have q : k / 4 = 0 := by omega
      have r : k % 4 = k := by omega
      simp only [List.map_cons, packCodes, q, r, List.getD_cons_zero]
      rw [here]
      obtain rfl | rfl | rfl | rfl : k = 0 ∨ k = 1 ∨ k = 2 ∨ k = 3 := by omega
      all_goals rfl
    · obtain ⟨j, rfl⟩ : ∃ j, k = j + 4 := ⟨k - 4, by omega⟩
      simp only [List.length_cons] at hl hk
      have ih := packCodes_extract rest j (by omega) (by omega)
      have q : (j + 4) / 4 = j / 4 + 1 := by omega
      have r : (j + 4) % 4 = j % 4 := by omega
      simpa only [List.map_cons, packCodes, q, r, List.getD_cons_succ] using ih
  | [], _, _, hk => by simp at hk
  | [_], _, hl, _ | [_, _], _, hl, _ | [_, _, _], _, hl, _ => by simp at hl

/-- The pack of a bank's codes gives every record's code at its place. -/
theorem packCodes_bank {n : Nat} (g : Fin n → Byte) (hn : n % 4 = 0) (small : ∀ i, ((g i).setWidth 2).setWidth 8 = g i)
    (i : Fin n) :
    ((packCodes ((List.finRange n).map g)).getD (i.val / 4) 0).extractLsb' (2 * (i.val % 4)) 2 = (g i).setWidth 2 := by
  have narrow : (List.finRange n).map g = ((List.finRange n).map (fun j => (g j).setWidth 2)).map (·.setWidth 8) := by
    simp [small]
  rw [narrow, packCodes_extract _ _ (by simpa using hn) (by simp)]
  simp [List.getD]

/-- The code of a lamp status has two bits. -/
theorem lampStatus_small (x : LampStatus) : (x.code.setWidth 2).setWidth 8 = x.code := by cases x <;> rfl

/-- The code of a detector fault has two bits. -/
theorem detectorFault_small (x : DetectorFault) : (x.code.setWidth 2).setWidth 8 = x.code := by cases x <;> rfl

/-! ### Report bodies (Table 13-8) -/

/-- The body of a MODE report. -/
theorem modeBytes_eq (s : State) : reportBytes s .mode = [s.unit.mode.code, s.unit.cause.code,
    rememberedCode s.unit.remembered, flagByte s.unit.switchLevel] ++ u16 s.unit.outageTimer := rfl

/-- The additional-fault mark stands in bit 7 of the record's first byte. -/
theorem additional_byte (b : Bool) : (1 ||| (flagByte b <<< 7) : Byte) = if b then 0x81#8 else 1 := by
  cases b <;> decide

/-- The lamp report: its pack of statuses, then its changed mask. -/
theorem lampBytes_pack (s : State) : (reportBytes s .lamp).length = 18 ∧
    (∀ o : Fin 48, ((reportBytes s .lamp).getD (o.val / 4) 0).extractLsb' (2 * (o.val % 4)) 2 =
      (s.mon.lamps.get o).status.code.setWidth 2) ∧
    ∀ k, k < 6 → (reportBytes s .lamp)[12 + k]? = some (s.mon.changed.extractLsb' (40 - 8 * k) 8) := by
  have pack : s.mon.statusPack.length = 12 := by simp [Monitor.statusPack, packCodes_length]
  have body : reportBytes s .lamp = s.mon.statusPack ++ lampSetBytes s.mon.changed := rfl
  refine ⟨by simp [body, pack, lampSetBytes], fun o => ?_, fun k hk => ?_⟩
  · rw [body, List.getD_append _ _ _ _ (by omega)]
    exact packCodes_bank _ rfl (fun i => lampStatus_small _) o
  · rw [body, List.getElem?_append_right (by omega), pack, Nat.add_sub_cancel_left]
    interval_cases k <;> rfl

/-- The detector report: its pack of faults, then its two masks. -/
theorem detectorBytes_pack (s : State) : (reportBytes s .detector).length = 12 ∧
    (∀ d : Det, ((reportBytes s .detector).getD (d.val / 4) 0).extractLsb' (2 * (d.val % 4)) 2 =
      (s.det d).fault.code.setWidth 2) ∧
    ∀ k, k < 3 → (reportBytes s .detector)[6 + k]? = some (s.detMasks.changed.extractLsb' (16 - 8 * k) 8) ∧
      (reportBytes s .detector)[9 + k]? = some (s.detMasks.wrongWay.extractLsb' (16 - 8 * k) 8) := by
  have pack : (packCodes ((List.finRange 24).map (fun d => (s.det d).fault.code))).length = 6 := by
    simp [packCodes_length]
  have body : reportBytes s .detector = packCodes ((List.finRange 24).map (fun d => (s.det d).fault.code)) ++
      (detSetBytes s.detMasks.changed ++ detSetBytes s.detMasks.wrongWay) := List.append_assoc _ _ _
  refine ⟨by simp [body, pack, detSetBytes], fun d => ?_, fun k hk => ?_⟩
  · rw [body, List.getD_append _ _ _ _ (by omega)]
    exact packCodes_bank _ rfl (fun i => detectorFault_small _) d
  · have masks : ∀ i, (reportBytes s .detector)[6 + i]? =
        (detSetBytes s.detMasks.changed ++ detSetBytes s.detMasks.wrongWay)[i]? := fun i => by
      rw [body, List.getElem?_append_right (by omega), pack, Nat.add_sub_cancel_left]
    rw [masks k, show 9 + k = 6 + (3 + k) by omega, masks (3 + k)]
    interval_cases k <;> exact ⟨rfl, rfl⟩

/-! ### The choice of a report (R185) -/

/-- No report is begun when no enabled kind is flagged. -/
theorem nextReport_none {l : Link} (h : l.flags &&& l.enable = 0) : l.nextReport = none := by
  have off := mask_eq_zero.mp h
  simp only [has_and] at off
  simp [Link.nextReport, off]

/-- The first enabled flagged kind in the order of the report mask is begun. -/
theorem nextReport_some {l : Link} {r : Report} (h : has (l.flags &&& l.enable) r.index = true)
    (first : ∀ q : Report, q.index < r.index → has (l.flags &&& l.enable) q.index = false) :
    l.nextReport = some r := by
  simp only [has_and] at h first
  have earlier : ∀ q ∈ Report.all.take r.index.val, ¬ (has l.flags q.index && has l.enable q.index) = true := by
    intro q hq
    simp [first q (by cases r <;> revert q <;> decide)]
  have split : Report.all = Report.all.take r.index.val ++ r :: Report.all.drop (r.index.val + 1) := by
    cases r <;> rfl
  rw [Link.nextReport, split, List.find?_append, List.find?_eq_none.mpr earlier]
  simp [h]

/-- What a report begun changes. -/
theorem beginReport_changes (r : Report) (s : State) :
    (beginReport r s).link = { s.link with
      flags := eraseBit s.link.flags r.index
      sequence := s.link.sequence + 1
      sending := some ⟨r.kind, s.link.sequence,
        reportBytes { s with link := { s.link with flags := eraseBit s.link.flags r.index } } r⟩ } ∧
    (beginReport r s).chans = s.chans ∧ (beginReport r s).lamps = s.lamps ∧ (beginReport r s).compat = s.compat ∧
    (beginReport r s).greens = s.greens ∧ (beginReport r s).dets = s.dets ∧ (beginReport r s).pres = s.pres ∧
    (beginReport r s).unit = s.unit ∧ (beginReport r s).time = s.time ∧ (beginReport r s).tones = s.tones ∧
    (beginReport r s).signs = s.signs ∧
    (beginReport r s).seq = (if r = .stage then { s.seq with pruned := false } else s.seq) ∧
    (beginReport r s).arb = (if r = .preempt then { s.arb with disabled := 0 } else s.arb) ∧
    (beginReport r s).mon = (if r = .lamp then { s.mon with changed := 0 } else s.mon) ∧
    (beginReport r s).detMasks = (if r = .detector then { changed := 0, wrongWay := 0 } else s.detMasks) := by
  cases r <;> exact ⟨rfl, rfl, rfl, rfl, rfl, rfl, rfl, rfl, rfl, rfl, rfl, rfl, rfl, rfl, rfl⟩

/-- A report begun puts its frame over whatever the transmitter sent. -/
theorem beginReport_sent (r : Report) (s : State) :
    beginReport r { s with link := { s.link with sending := none } } = beginReport r s := by
  cases r <;> rfl

/-- With no reply waiting the transmitter's next choice is the report. -/
theorem endFrame_report {s : State} {r : Report} (hs : s.link.sending ≠ none) (hr : s.link.reply = none)
    (h : s.link.nextReport = some r) : endFrame s = beginReport r s := by
  obtain ⟨f, hf⟩ := Option.ne_none_iff_exists'.mp hs
  rw [← beginReport_sent r s]
  rw [Link.nextReport] at h
  simp only [endFrame, hf, chooseNext, hr, Link.nextReport, h]

/-- With no reply and no report the transmitter goes idle. -/
theorem endFrame_idle {s : State} {f : Frame} (hs : s.link.sending = some f) (hr : s.link.reply = none)
    (h : s.link.nextReport = none) : endFrame s = { s with link := { s.link with sending := none } } := by
  rw [Link.nextReport] at h
  simp only [endFrame, hs, chooseNext, hr, Link.nextReport, h]

/-- A reply that waits is sent, and a held frame is then handled. -/
theorem endFrame_reply {s : State} {f g : Frame} (hs : s.link.sending = some f) (hr : s.link.reply = some g) :
    endFrame s = match s.link.held with
      | none => answered s g
      | some h => placeReply (handle h { answered s g with link := { (answered s g).link with held := none } }) := by
  simp only [endFrame, hs, chooseNext, hr, beginReply, takeHeld, answered]
  cases s.link.held <;> rfl

/-! ### TXD (R181) -/

/-- After the last character TXD stays high. -/
theorem txd_after {l : Link} {f : Frame} (h : l.sending = some f) {time : Nat} (ht : 11 * (f.bytes.length + 1) ≤ time) :
    l.txd time = true := by
  have past : f.sent[time / Config.characterBits]? = none := by
    simp only [List.getElem?_eq_none_iff, Frame.sent, List.length_cons, Config.characterBits]
    omega
  simp [Link.txd, h, past]

/-- The four parts of a character of the frame being sent. -/
theorem txd_bits {l : Link} {f : Frame} {k : Nat} {b : Byte} (h : l.sending = some f)
    (hk : (0x7E#8 :: f.bytes)[k]? = some b) :
    l.txd (11 * k) = false ∧ (∀ i, i < 8 → l.txd (11 * k + 1 + i) = b.getLsbD i) ∧
      parityError b (l.txd (11 * k + 9)) = false ∧ l.txd (11 * k + 10) = true := by
  have level : ∀ i, i < 11 → l.txd (11 * k + i) = characterLevel b i := fun i hi => txd_character h hk hi
  refine ⟨level 0 (by omega), fun i hi => ?_, ?_, level 10 (by omega)⟩
  · rw [Nat.add_assoc, Nat.add_comm 1 i, level (i + 1) (by omega)]
    simp [characterLevel, show i + 1 ≤ 8 from hi]
  · rw [level 9 (by omega)]
    exact parityError_even b

/-- Settles O12: the report bodies as the tables list them, and the transmitter's choices of R184 and R185. -/
theorem transmitter : Obligations.Transmitter := by
  refine ⟨fun s => ?_, fun s => ?_, fun s => ?_, fun s => ?_, lampBytes_pack, detectorBytes_pack, fun s => ?_,
    fun s => ?_, fun s => ?_, fun s h => ?_, fun s f g hs hr hh => ?_, fun s f g h hs hr hh => ?_,
    fun s f hs hr h => ?_, fun c s r h hr hf first => ?_, fun l h time => ?_, fun l f h => ?_⟩
  · rw [modeBytes_eq]
    cases s.unit.remembered <;> rfl
  · simp only [reportBytes]
    cases s.mon.record with
    | none => rfl
    | some r => simp only [faultRecordBytes, additional_byte]
  · rfl
  · have place : u8 s.positionIndex = if s.seq.queue = [] then 0 else u8 (s.seq.position + 1) := by
      simp only [State.positionIndex, List.isEmpty_iff]
      split <;> rfl
    rw [← place]
    rfl
  · simp only [reportBytes, State.supplyBytes]
    rcases s.time.decided with _ | _ | _ <;> rfl
  · have entry : ∀ m : SignModule, [m.shownByte, m.flags] = [match m.status with
          | none => 0
          | some x => x.shown.setWidth 8,
        flagByte m.latched.isSome ||| (flagByte m.status.isSome <<< 1) |||
          (flagByte (m.status.any (·.displayFault)) <<< 2) ||| (flagByte m.mismatch <<< 3) |||
          (u8 m.mismatchRun <<< 4)] := fun m => by
      simp only [SignModule.shownByte, SignModule.flags, SignModule.faulty]
      cases m.status <;> rfl
    simp only [reportBytes, State.signBytes, entry]
    rfl
  · rfl
  · simp [exec, execFrameSent, endFrame, h]
  · simp [exec, execFrameSent, endFrame_reply hs hr, hh]
  · exact ⟨_, rfl, by simp [endFrame_reply hs hr, hh]⟩
  · simp [exec, execFrameSent, endFrame_idle hs hr (nextReport_none h)]
  · refine ⟨beginReport r s, ?_, beginReport_changes r s⟩
    have next := nextReport_some hf first
    rcases h with ⟨rfl, hs⟩ | ⟨rfl, hs⟩
    · simp [exec, execSendReport, startReport, hs, hr, next]
    · simp [exec, execFrameSent, endFrame_report hs hr next]
  · simp [Link.txd, h]
  · exact ⟨fun time ht => txd_after h ht, fun k b hk => txd_bits h hk⟩

end Sys2Proof.Machine

/-! PROOFS. What the operations on the channels touch, channel by channel, and what the judgments of a moment leave of
the unit mode, the link and the Monitor. -/

namespace Sys2Proof.Machine

/-! ### Operations on channels (R5 to R11) -/

/-- `t` differs from `s` in channels of a set at most, with the green records, owed orders and tone lines of these
channels and the pending flag of the sign chain. -/
structure Touches (m : Chan → Prop) (s t : State) : Prop where
  frame : t = { s with chans := t.chans, greens := t.greens, seq := t.seq, tones := t.tones, signs := t.signs }
  seq : t.seq = { s.seq with owedEnds := t.seq.owedEnds }
  owed : ∀ c, ¬ m c → has t.seq.owedEnds c = has s.seq.owedEnds c
  chan : ∀ c, ¬ m c → t.chan c = s.chan c
  green : ∀ c, ¬ m c → t.green c = s.green c
  line : ∀ i, (∀ c, (s.line i).channel = some c → ¬ m c) → t.line i = s.line i
  voice : ∀ i, (t.line i).channel = (s.line i).channel
  signs : t.signs = { s.signs with pendingExchange := t.signs.pendingExchange }
  asked : s.signs.pendingExchange = true → t.signs.pendingExchange = true

theorem Touches.refl (m : Chan → Prop) (s : State) : Touches m s s :=
  ⟨rfl, rfl, fun _ _ => rfl, fun _ _ => rfl, fun _ _ => rfl, fun _ _ => rfl, fun _ => rfl, rfl, id⟩

theorem Touches.trans {m : Chan → Prop} {s t u : State} (h : Touches m s t) (k : Touches m t u) : Touches m s u where
  frame := by rw [k.frame, h.frame]
  seq := by rw [k.seq, h.seq]
  owed c hc := (k.owed c hc).trans (h.owed c hc)
  chan c hc := (k.chan c hc).trans (h.chan c hc)
  green c hc := (k.green c hc).trans (h.green c hc)
  line i hi := (k.line i (by rw [h.voice]; exact hi)).trans (h.line i hi)
  voice i := (k.voice i).trans (h.voice i)
  signs := by rw [k.signs, h.signs]
  asked e := k.asked (h.asked e)

theorem Touches.mono {m n : Chan → Prop} (hmn : ∀ c, m c → n c) {s t : State} (h : Touches m s t) : Touches n s t where
  frame := h.frame
  seq := h.seq
  owed c hc := h.owed c (fun e => hc (hmn c e))
  chan c hc := h.chan c (fun e => hc (hmn c e))
  green c hc := h.green c (fun e => hc (hmn c e))
  line i hi := h.line i (fun c e k => hi c e (hmn c k))
  voice := h.voice
  signs := h.signs
  asked := h.asked

theorem Touches.calm {m : Chan → Prop} {s t : State} (h : Touches m s t) :
    t.unit = s.unit ∧ t.link = s.link ∧ t.mon = s.mon ∧ t.pres = s.pres ∧ t.arb = s.arb ∧ t.compat = s.compat ∧
      t.dets = s.dets ∧ t.lamps = s.lamps := by
  rw [h.frame]
  exact ⟨rfl, rfl, rfl, rfl, rfl, rfl, rfl, rfl⟩

theorem setChan_touches (s : State) (c : Chan) (r : Channel) : Touches (· = c) s (s.setChan c r) :=
  { Touches.refl (· = c) s with frame := rfl, chan := fun _ h => setChan_chan_other s r h }

theorem setGreen_touches (s : State) (c : Chan) (g : Green) : Touches (· = c) s (s.setGreen c g) :=
  { Touches.refl (· = c) s with frame := rfl, green := fun _ h => setGreen_green_other s g h }

theorem loaded_touches (s : State) (c : Chan) (n : Nat) (f : Timing → Timing → Timing) :
    Touches (· = c) s (loadTimer c n (copyActive c f s)) := by
  rw [loaded_eq]
  exact setChan_touches s c _

theorem requestLatches_touches (m : ChanSet) (s : State) : Touches (fun c => has m c = true) s (requestLatches m s) := by
  obtain ⟨g, e⟩ := requestLatches_eq m s
  refine { Touches.refl (fun c => has m c = true) s with
    frame := by rw [e], seq := by rw [e], owed := fun _ _ => by rw [e], chan := fun _ _ => by rw [e]; rfl,
    green := fun c h => ?_, line := fun _ _ => by rw [e]; rfl, voice := fun _ => by rw [e]; rfl,
    signs := by rw [e], asked := fun k => by rw [e]; exact k }
  simp [requestLatches_green, h]

theorem arbitrate_channel (b : Bool) (l : ToneLine) : (l.arbitrate b).channel = l.channel := by
  unfold ToneLine.arbitrate
  split
  · rfl
  · split <;> rfl

theorem follow_channel (o n : Indication) (l : ToneLine) : (l.follow o n).channel = l.channel := by
  unfold ToneLine.follow
  simp only
  split
  · rfl
  · split
    · split
      · rfl
      · split <;> rfl
    · rfl

theorem tonesFollow_touches (c : Chan) (o n : Indication) (s : State) : Touches (· = c) s (tonesFollow c o n s) := by
  have at_line (i : Line) : (tonesFollow c o n s).line i =
      if (s.line i).channel = some c ∧ s.lineActive i = true then ((s.line i).follow o n).arbitrate s.lamps.dimOn
      else s.line i := vmap_get _ _ _
  refine { Touches.refl (· = c) s with frame := rfl, line := fun i h => ?_, voice := fun i => ?_ }
  · rw [at_line, if_neg (fun k => h c k.1 rfl)]
  · rw [at_line]
    split
    · rw [arbitrate_channel, follow_channel]
    · rfl

theorem signsFollow_touches (c : Chan) (s : State) : Touches (· = c) s (signsFollow c s) := by
  unfold signsFollow
  split
  · exact { Touches.refl (· = c) s with frame := rfl, signs := rfl, asked := fun _ => rfl }
  · exact .refl _ s

theorem leaveGreen_touches (c : Chan) (s : State) : Touches (· = c) s (leaveGreen c s) := by
  unfold leaveGreen handLocking
  simp only
  have idled := setGreen_touches s c (s.green c).idle
  have dropped : Touches (· = c) (s.setGreen c (s.green c).idle)
      { s.setGreen c (s.green c).idle with
        seq := { (s.setGreen c (s.green c).idle).seq with
          owedEnds := eraseBit (s.setGreen c (s.green c).idle).seq.owedEnds c } } :=
    { Touches.refl (· = c) _ with frame := rfl, seq := rfl, owed := fun j h => by simp [h] }
  refine (idled.trans dropped).trans ((requestLatches_touches _ _).mono fun j h => ?_)
  simpa using (by simpa using h : _ ∧ _).1

/-- An entry into an indication touches its own channel (R11). -/
theorem enter_touches (c : Chan) (i : Indication) (s : State) : Touches (· = c) s (enter c i s) := by
  have told (r : Channel) :=
    ((setChan_touches s c r).trans (tonesFollow_touches c (s.chan c).ind i _)).trans (signsFollow_touches c _)
  unfold enter
  simp only
  split
  · exact (told _).trans (leaveGreen_touches c _)
  · exact told _

/-- The green record of a channel that enters an indication: idle after a departure from GREEN, its latch judged by the
locking calls, and else as it was (R69, R91). -/
theorem enter_green (c : Chan) (i : Indication) (s : State) : ∃ b, (enter c i s).green c =
    if (s.chan c).ind = .green then { (s.green c).idle with latch := b } else s.green c := by
  have told (r : Channel) : (signsFollow c (tonesFollow c (s.chan c).ind i (s.setChan c r))).green c = s.green c := by
    unfold signsFollow
    split <;> rfl
  unfold enter
  simp only
  split
  · unfold leaveGreen handLocking
    simp only [requestLatches_green]
    split
    · refine ⟨true, ?_⟩
      simp only [State.green, State.setGreen, vset_get_same]
      have := told { s.chan c with ind := i, staged := patternOf (s.chan c) i }
      simp only [State.green] at this
      rw [this]
    · refine ⟨(s.green c).latch, ?_⟩
      simp only [State.green, State.setGreen, vset_get_same]
      have := told { s.chan c with ind := i, staged := patternOf (s.chan c) i }
      simp only [State.green] at this
      rw [this]
      rfl
  · exact ⟨false, told _⟩

/-- A departure from GREEN drops an order owed to the channel (R109). -/
theorem enter_owed {c : Chan} {s : State} (h : (s.chan c).ind = .green) (i : Indication) :
    has (enter c i s).seq.owedEnds c = false := by
  have same (m : ChanSet) (u : State) : (requestLatches m u).seq = u.seq := by
    obtain ⟨g, e⟩ := requestLatches_eq m u; rw [e]
  unfold enter leaveGreen handLocking
  simp only [h, if_true, same]
  simp

/-! ### Orders and expiries -/

theorem enterPedClear_touches (c : Chan) (s : State) : Touches (· = c) s (enterPedClear c s) :=
  (loaded_touches s c _ _).trans (enter_touches c _ _)

/-- The termination order of a GREEN vehicle channel (R6). -/
theorem terminateChannel_vehicle {c : Chan} {s : State} (hi : (s.chan c).ind = .green) (hk : (s.chan c).kind = .vehicle) :
    terminateChannel c s = enter c .amber (loadTimer c (s.chan c).pendingSet.amber (copyActive c copyAmber s)) := by
  simp [terminateChannel, hi, hk]

/-- The termination order of a walk (R9). -/
theorem terminateChannel_pedestrian {c : Chan} {s : State} (hi : (s.chan c).ind = .green)
    (hk : (s.chan c).kind = .pedestrian) : terminateChannel c s = enterPedClear c s := by
  simp [terminateChannel, hi, hk]

/-- A termination order finds nothing to end on a channel that is not GREEN (R6). -/
theorem terminateChannel_none {c : Chan} {s : State} (h : (s.chan c).ind ≠ .green ∨ (s.chan c).kind = .unused) :
    terminateChannel c s = s := by
  rcases h with h | h
  · simp [terminateChannel, h]
  · simp [terminateChannel, h]

theorem terminateChannel_touches (c : Chan) (s : State) : Touches (· = c) s (terminateChannel c s) := by
  by_cases hi : (s.chan c).ind = .green
  · cases hk : (s.chan c).kind with
    | unused => rw [terminateChannel_none (.inr hk)]; exact .refl _ s
    | vehicle =>
      rw [terminateChannel_vehicle hi hk]
      exact (loaded_touches s c _ _).trans (enter_touches c _ _)
    | pedestrian => rw [terminateChannel_pedestrian hi hk]; exact enterPedClear_touches c s
  · rw [terminateChannel_none (.inl hi)]; exact .refl _ s

theorem enterClearance_touches (c : Chan) (s : State) : Touches (· = c) s (enterClearance c s) := by
  unfold enterClearance
  simp only
  split
  · exact (loaded_touches s c _ _).trans (enter_touches c _ _)
  · exact (loaded_touches s c _ _).trans (enter_touches c _ _)

theorem expireChannel_touches (c : Chan) (s : State) : Touches (· = c) s (expireChannel c s) := by
  unfold expireChannel
  simp only
  split
  · exact enterClearance_touches c s
  · exact enterClearance_touches c s
  · exact enter_touches c _ s
  · split
    · exact enterPedClear_touches c s
    · exact .refl _ s
  all_goals exact .refl _ s

theorem cutClearance_touches (n : Nat) (c : Chan) (s : State) : Touches (· = c) s (cutClearance n c s) := by
  unfold cutClearance
  simp only
  split
  · exact setChan_touches s c _
  · exact .refl _ s

theorem startChannel_touches (c : Chan) (s : State) : Touches (· = c) s (startChannel c s) := by
  unfold startChannel
  simp only
  split
  · split
    · exact .refl _ s
    · exact ((setChan_touches s c _).trans (enter_touches c _ _)).trans (setGreen_touches _ c _)
    · exact (((setChan_touches s c _).trans (setChan_touches _ c _)).trans (enter_touches c _ _)).trans
        (setGreen_touches _ c _)
  · exact .refl _ s

/-! ### One order to each channel of a set -/

/-- An order given to the channels of a list that a test takes. -/
def eachOf (op : Chan → State → State) (p : Chan → Bool) (l : List Chan) (s : State) : State :=
  l.foldl (fun s c => if p c then op c s else s) s

theorem eachOf_touches {op : Chan → State → State} (h : ∀ c s, Touches (· = c) s (op c s)) (p : Chan → Bool)
    (l : List Chan) (s : State) : Touches (fun c => c ∈ l ∧ p c = true) s (eachOf op p l s) := by
  induction l generalizing s with
  | nil => exact .refl _ s
  | cons a l ih =>
    refine Touches.trans (t := if p a then op a s else s) ?_ ((ih _).mono fun c k => ⟨.tail _ k.1, k.2⟩)
    split
    · next ha => exact (h a s).mono fun c e => by subst e; exact ⟨.head _, ha⟩
    · exact .refl _ s

/-- The order to one channel of the set, between what touches the other channels only. -/
theorem eachOf_one {op : Chan → State → State} (h : ∀ c s, Touches (· = c) s (op c s)) {p : Chan → Bool} {l : List Chan}
    (hl : l.Nodup) {c : Chan} (hc : c ∈ l) (hp : p c = true) (s : State) :
    ∃ u, Touches (· ≠ c) s u ∧ Touches (· ≠ c) (op c u) (eachOf op p l s) := by
  induction l generalizing s with
  | nil => cases hc
  | cons a l ih =>
    obtain ⟨ha, hl⟩ := List.nodup_cons.mp hl
    rcases List.mem_cons.mp hc with rfl | hc
    · refine ⟨s, .refl _ s, ?_⟩
      have rest := eachOf_touches h p l (op c s)
      have e : eachOf op p (c :: l) s = eachOf op p l (op c s) := by simp [eachOf, hp]
      rw [e]
      exact rest.mono fun j k => by rintro rfl; exact ha k.1
    · obtain ⟨u, h1, h2⟩ := ih hl hc (if p a then op a s else s)
      refine ⟨u, Touches.trans ?_ h1, h2⟩
      split
      · exact (h a s).mono fun j (e : j = a) (k : j = c) => ha (by rw [← e, k]; exact hc)
      · exact .refl _ s

theorem terminateAll_eq (m : ChanSet) (s : State) :
    terminateAll m s = eachOf terminateChannel (has m) (List.finRange 16) s := rfl

theorem terminateAll_touches (m : ChanSet) (s : State) : Touches (fun c => has m c = true) s (terminateAll m s) :=
  (eachOf_touches terminateChannel_touches (has m) _ s).mono fun _ h => h.2

theorem terminateAll_one {m : ChanSet} {c : Chan} (h : has m c = true) (s : State) :
    ∃ u, Touches (· ≠ c) s u ∧ Touches (· ≠ c) (terminateChannel c u) (terminateAll m s) :=
  eachOf_one terminateChannel_touches (List.nodup_finRange 16) (List.mem_finRange c) h s

theorem expireAll_touches (m : ChanSet) (s : State) : Touches (fun c => has m c = true) s (expireAll m s) :=
  (eachOf_touches expireChannel_touches (has m) _ s).mono fun _ h => h.2

theorem expireAll_one {m : ChanSet} {c : Chan} (h : has m c = true) (s : State) :
    ∃ u, Touches (· ≠ c) s u ∧ Touches (· ≠ c) (expireChannel c u) (expireAll m s) :=
  eachOf_one expireChannel_touches (List.nodup_finRange 16) (List.mem_finRange c) h s

theorem cutClearances_eq (n : Nat) (m : ChanSet) (s : State) :
    cutClearances n m s = eachOf (cutClearance n) (fun c => !has m c) (List.finRange 16) s := by
  unfold cutClearances eachOf
  congr 1
  funext s c
  cases h : has m c <;> simp [h]

theorem cutClearances_touches (n : Nat) (m : ChanSet) (s : State) :
    Touches (fun c => has m c = false) s (cutClearances n m s) := by
  rw [cutClearances_eq]
  exact (eachOf_touches (cutClearance_touches n) _ _ s).mono fun _ h => by simpa using h.2

theorem cutClearances_one (n : Nat) {m : ChanSet} {c : Chan} (h : has m c = false) (s : State) :
    ∃ u, Touches (· ≠ c) s u ∧ Touches (· ≠ c) (cutClearance n c u) (cutClearances n m s) := by
  rw [cutClearances_eq]
  exact eachOf_one (cutClearance_touches n) (List.nodup_finRange 16) (List.mem_finRange c) (by simp [h]) s

/-! ### What the judgments of a moment leave of the unit mode, the link and the Monitor -/

/-- The unit mode, the link and the Monitor as they were. -/
def Calm (s t : State) : Prop := t.unit = s.unit ∧ t.link = s.link ∧ t.mon = s.mon

theorem Calm.refl (s : State) : Calm s s := ⟨rfl, rfl, rfl⟩

theorem Calm.trans {s t u : State} (h : Calm s t) (k : Calm t u) : Calm s u :=
  ⟨k.1.trans h.1, k.2.1.trans h.2.1, k.2.2.trans h.2.2⟩

theorem Touches.isCalm {m : Chan → Prop} {s t : State} (h : Touches m s t) : Calm s t :=
  have ⟨a, b, c, _⟩ := h.calm
  ⟨a, b, c⟩

theorem setClass_calm (c : Chan) (k : TransitionClass) (s : State) : Calm s (setClass c k s) := by
  unfold setClass
  split <;> exact .refl s

theorem beginStepTransition_calm (m : ChanSet) (s : State) : Calm s (beginStepTransition m s) :=
  Calm.trans (t := beginTransition m .step s) ⟨rfl, rfl, rfl⟩ (terminateAll_touches _ _).isCalm

theorem makeCurrent_calm (i : Nat) (drop : Bool) (s : State) : Calm s (makeCurrent i drop s) :=
  have h := beginStepTransition_calm
  ⟨(h _ _).1, (h _ _).2.1, (h _ _).2.2⟩

theorem truncate_calm (cfg : PreemptConfig) (m : ChanSet) (s : State) : Calm s (truncate cfg m s) := by
  have four (a b c : ChanSet) : Calm s (terminateAll c
      { terminateAll a (cutGreens cfg.minGreen m s) with
        seq := { (terminateAll a (cutGreens cfg.minGreen m s)).seq with owedEnds := b } }) :=
    Calm.trans (t := { terminateAll a (cutGreens cfg.minGreen m s) with seq := _ })
      (terminateAll_touches a (cutGreens cfg.minGreen m s)).isCalm (terminateAll_touches c _).isCalm
  unfold truncate
  simp only
  split
  · exact (four _ _ _).trans (cutClearances_touches _ _ _).isCalm
  · exact four _ _ _

theorem enterService_calm (p : Pre) (s : State) : Calm s (enterService p s) := by
  unfold enterService
  simp only
  have h := truncate_calm (s.pre p).cfg (s.pre p).firstTarget (beginTransition (s.pre p).firstTarget .preempt
    { stopStep s with
      arb := { (stopStep s).arb with holder := some p, interrupted := s.arb.interrupted || s.seq.current } })
  exact ⟨h.1, h.2.1, h.2.2⟩

/-- A judgment in CONTROLLED leaves the unit mode, the link and the Monitor. -/
theorem controlledJudgment_calm {s t : State}
    (h : judgeSlot s = some t ∨ judgeOwed s = some t ∨ judgeStage s = some t ∨ judgeStart s = some t ∨
      judgeFull s = some t ∨ judgeTrack s = some t ∨ judgeDwell s = some t ∨ judgeExit s = some t ∨
      judgeTermination s = some t ∨ judgeFirst s = some t) : Calm s t := by
  rcases h with h | h | h | h | h | h | h | h | h | h
  · unfold judgeSlot at h
    split at h
    · cases h
    · split at h
      · cases h; exact enterService_calm _ s
      · split at h <;> cases h
        exact (Calm.refl s).trans (enterService_calm _ (s.setPre _ _))
  · unfold judgeOwed at h
    simp only at h
    split at h <;> cases h
    exact (terminateAll_touches _ s).isCalm
  · unfold judgeStage at h
    split at h
    · cases h
    · simp only at h
      split at h <;> cases h
      exact .refl s
  · unfold judgeStart at h
    split at h
    · cases h
    · simp only at h
      split at h <;> cases h
      unfold startMoment
      split
      · exact setClass_calm _ _ s
      · exact (setClass_calm _ _ s).trans (startChannel_touches _ _).isCalm
  · unfold judgeFull at h
    split at h
    · cases h
    · split at h
      · split at h
        · cases h; exact .refl s
        · simp only at h
          split at h <;> cases h <;> exact .refl s
      · cases h
  · unfold judgeTrack at h
    split at h
    · cases h
    · simp only at h
      split at h <;> cases h
      exact Calm.trans (t := beginTransition _ .preempt (s.setPre _ _)) ⟨rfl, rfl, rfl⟩ (terminateAll_touches _ _).isCalm
  · unfold judgeDwell at h
    split at h
    · cases h
    · simp only at h
      split at h
      · split at h <;> cases h <;> exact .refl s
      · cases h
  · unfold judgeExit at h
    split at h
    · cases h
    · simp only at h
      split at h
      · split at h <;> cases h
        exact Calm.trans (t := { s.setPre _ _ with arb := _ }) ⟨rfl, rfl, rfl⟩ (makeCurrent_calm _ _ _)
      · cases h
  · unfold judgeTermination at h
    split at h
    · split at h
      · cases h
      · split at h
        · split at h
          · cases h; exact makeCurrent_calm _ _ s
          · split at h <;> cases h
            exact .refl s
        · split at h <;> cases h
          exact .refl s
    · cases h
  · unfold judgeFirst at h
    split at h
    · cases h
    · split at h <;> cases h
      exact makeCurrent_calm _ _ s

/-- A judgment leaves the unit mode, the link and the Monitor, but for the entry of LOCAL_FLASH from CLEARING_TO_FLASH. -/
theorem judge_calm {s t : State} (h : judge s = some t) :
    Calm s t ∨ (s.unit.mode = .clearingToFlash ∧ t = enterLocalFlash s) := by
  rcases judge_cases h with h | h | ⟨-, h⟩ | ⟨hm, h⟩
  · unfold judgeClocks at h
    simp only at h
    split at h <;> cases h
    exact .inl (.refl s)
  · unfold judgeRequests at h
    split at h
    · cases h
    · split at h <;> cases h
      exact .inl (.refl s)
  · exact .inl (controlledJudgment_calm h)
  · unfold judgeClearing at h
    split at h
    · cases h
      exact .inl (terminateAll_touches _ s).isCalm
    · split at h <;> cases h
      exact .inr ⟨hm, rfl⟩

/-- The unit after the settling of a moment: as it was, or an orderly flash has reached LOCAL_FLASH (R143). -/
theorem settle_unit (old new : State) : (settle old new).unit = new.unit ∨
    (new.unit.mode = .clearingToFlash ∧ (settle old new).unit = { new.unit with mode := .localFlash, ftr := true }) := by
  refine settle_induction (fun t => t.unit = new.unit ∨ (new.unit.mode = .clearingToFlash ∧
    t.unit = { new.unit with mode := .localFlash, ftr := true })) (fun t u hj ht => ?_) old new (.inl (by simp))
  rw [noting_unit]
  rcases judge_calm hj with ⟨k, -⟩ | ⟨hm, rfl⟩
  · rw [k]; exact ht
  · rcases ht with ht | ⟨-, ht⟩
    · exact .inr ⟨by rw [← ht]; exact hm, by simp [enterLocalFlash, ht, Mode.relay]⟩
    · rw [ht] at hm; cases hm

/-- A mode other than CLEARING_TO_FLASH stands through the settling of a moment. -/
theorem settle_unit_same {old new : State} (h : new.unit.mode ≠ .clearingToFlash) : (settle old new).unit = new.unit :=
  (settle_unit old new).resolve_right (fun k => h k.1)

/-- Report flags that are set in `s` are set in `t`. -/
def FlagsStay (s t : State) : Prop := ∀ i, has s.link.flags i = true → has t.link.flags i = true

theorem flagIf_flags (b : Bool) (r : Report) (s : State) : FlagsStay s (flagIf b r s) := fun i h => by
  unfold flagIf
  split
  · simp [flag_link, h]
  · exact h

theorem noting_flags (o s : State) : FlagsStay s (noting o s) := fun i h =>
  flagIf_flags _ _ _ i (flagIf_flags _ _ _ i (flagIf_flags _ _ _ i h))

/-- The settling of a moment clears no report flag. -/
theorem settle_flags (old new : State) : FlagsStay new (settle old new) := by
  refine settle_induction (fun t => FlagsStay new t) (fun t u hj ht i h => noting_flags t u i ?_) old new
    (noting_flags old new)
  rcases judge_calm hj with ⟨-, k, -⟩ | ⟨-, rfl⟩
  · rw [k]; exact ht i h
  · simpa [enterLocalFlash] using ht i h

end Sys2Proof.Machine

/-! PROOFS. The two timers of the link and the tone lines (O13, O15, O33). -/

namespace Sys2Proof.Machine

/-! ### The link's timers (R186, R187) -/

/-- A status flag set. -/
theorem insertBit_status (m : BitVec 9) : insertBit m Report.status.index = m ||| 0b100000000#9 := rfl

/-- An expiry of supervision, as the link shows it. -/
theorem loseLink_link (s : State) : ∃ m, (loseLink s).link = { s.link with supervision := 0, lost := true, flags := m } ∧
    (s.link.lost = false → has m Report.status.index = true) := by
  unfold loseLink
  cases h : s.link.lost
  · exact ⟨_, rfl, fun _ => has_insertBit _ _ _ |>.trans (by simp)⟩
  · exact ⟨s.link.flags, rfl, fun e => by simp at e⟩

theorem loseLink_unit (s : State) : (loseLink s).unit = s.unit := by simp [loseLink]

theorem linkLoss_link (s : State) : (linkLoss s).link = s.link := by
  unfold linkLoss
  split
  · exact enterClearing_link _ s
  · split <;> rfl

/-- An orderly flash that begins stands, or has reached LOCAL_FLASH, when the moment is settled (R143). -/
theorem enterClearing_settled (old : State) (k : FlashCause) (s : State) :
    (settle old (enterClearing k s)).unit.cause = k ∧ (settle old (enterClearing k s)).unit.ftr = true ∧
      ((settle old (enterClearing k s)).unit.mode = .clearingToFlash ∨
        (settle old (enterClearing k s)).unit.mode = .localFlash) := by
  have entered := (enterClearing_view k s).2.2.2.2.1
  rcases settle_unit old (enterClearing k s) with e | ⟨-, e⟩
  · rw [e, entered]; exact ⟨rfl, rfl, .inl rfl⟩
  · rw [e, entered]; exact ⟨rfl, rfl, .inr rfl⟩

/-- Settles O13. -/
theorem linkTimers : Obligations.LinkTimers := by
  refine ⟨fun s hp ht => ?_, fun s hs => ⟨_, by simp only [exec, execSupervisionExpiry, if_pos hs]; rfl, ?_⟩⟩
  · simp only [exec, execStatusTimerExpiry, if_pos (And.intro hp ht)]
    rfl
  · obtain ⟨m, lost, flagged⟩ := loseLink_link s
    obtain ⟨m', kept⟩ := settle_link s (linkLoss (loseLink s))
    rw [linkLoss_link, lost] at kept
    refine ⟨by rw [kept], by rw [kept], fun h => ?_, fun h => ?_, fun h k => ?_⟩
    · refine settle_flags _ _ _ ?_
      rw [linkLoss_link, lost]
      exact flagged h
    · have begun : linkLoss (loseLink s) = enterClearing .linkLost (loseLink s) := by
        rw [linkLoss, if_pos (by rw [loseLink_unit]; exact h)]
      rw [begun]
      have settled := enterClearing_settled s .linkLost (loseLink s)
      exact ⟨settled.1, settled.2.2⟩
    · have owed : (linkLoss (loseLink s)).unit = { s.unit with owedLinkLoss := true } := by
        rw [linkLoss, if_neg (by rw [loseLink_unit]; simp [h]), if_pos (by rw [loseLink_unit]; exact ⟨h, k⟩)]
        exact congrArg (fun u : UnitState => { u with owedLinkLoss := true }) (loseLink_unit s)
      rw [settle_unit_same (by simp [owed, h]), owed]
      exact ⟨h, rfl⟩

/-! ### The sounding item of a line (R165, R170) -/

theorem inWindow_eq (n : Nat) (o : Option Nat) : inWindow n o = o.any (fun k => k < n) := by cases o <;> rfl

/-- An arbitration changes the sounding item, its level and its age only. -/
theorem arbitrate_eq (b : Bool) (l : ToneLine) : ∃ v a, l.arbitrate b = { l with sounding := l.due, level := v, age := a } := by
  unfold ToneLine.arbitrate
  split
  · next h => exact ⟨l.level, l.age, by rw [h]⟩
  · split
    · next h => exact ⟨0, 0, by rw [h]⟩
    · exact ⟨_, _, rfl⟩

/-- A new sound starts at age 0 with the volume of the dim state (R165). -/
theorem arbitrate_new {b : Bool} {l : ToneLine} (hn : l.due ≠ .none) (hd : l.due ≠ l.sounding) :
    (l.arbitrate b).age = 0 ∧ (l.arbitrate b).level = if b then l.nightVolume else l.dayVolume := by
  simp [ToneLine.arbitrate, hn, hd, ToneLine.startLevel]

/-- One millisecond of a line: its cycles counted, the first due item sounding. -/
theorem millisecond_eq (b : Bool) (l : ToneLine) :
    ∃ v a, l.millisecond b = { l.count with sounding := l.count.due, level := v, age := a } := by
  unfold ToneLine.millisecond
  simp only
  split
  · next h =>
    rw [h]
    split
    · exact ⟨l.count.level, l.count.age, rfl⟩
    · exact ⟨_, _, rfl⟩
  · exact arbitrate_eq b l.count

/-- A sound that begins in a millisecond (R165). -/
theorem millisecond_new {b : Bool} {l : ToneLine} (hn : l.count.due ≠ .none) (hd : l.count.due ≠ l.sounding) :
    (l.millisecond b).age = 0 ∧ (l.millisecond b).level = if b then l.nightVolume else l.dayVolume := by
  have hd' : l.count.due ≠ l.count.sounding := hd
  rw [ToneLine.millisecond]
  simp only [if_neg hd']
  exact arbitrate_new hn hd'

/-- A sound that goes on ages, and fades under the envelope (R165). -/
theorem millisecond_old {b : Bool} {l : ToneLine} (hn : l.count.due ≠ .none) (hd : l.count.due = l.sounding)
    (ha : l.age < 250) : (l.millisecond b).age = l.age + 1 ∧
      (l.millisecond b).level = if l.envelope = true ∧ (l.age + 1) % 5 = 0 then l.level - 1 else l.level := by
  have hd' : l.count.due = l.count.sounding := hd
  have age : min 250 (l.age + 1) = l.age + 1 := by omega
  rw [ToneLine.millisecond]
  simp only [if_pos hd', if_neg (hd' ▸ hn), ToneLine.ageOne]
  refine ⟨age, ?_⟩
  change (if l.envelope && min 250 (l.age + 1) % 5 == 0 then l.level - 1 else l.level) = _
  simp [age]

/-- Settles O15, line by line. -/
theorem millisecond : Obligations.Millisecond := by
  intro s
  refine ⟨_, rfl, rfl, fun i h => ?_, fun i h => ?_⟩
  · refine (vmap_get _ _ i).trans ?_
    rw [if_neg (by simp [h])]
    rfl
  · have line := (vmap_get (fun i l => if s.lineActive i then l.millisecond s.lamps.dimOn else l) s.tones i).trans
      (if_pos h)
    generalize hl : s.line i = l
    rw [show s.tones.get i = l from hl] at line
    simp only [State.line, line]
    obtain ⟨v, a, e⟩ := millisecond_eq s.lamps.dimOn l
    refine ⟨⟨_, _, _, _, _, v, a, e⟩, by rw [e]; rfl, by rw [e]; rfl, by rw [e]; rfl, ?_, ?_, fun hn hd => ?_,
      fun hn hd ha => ?_⟩
    · rw [e]
      simp only [ToneLine.count, beq_eq_decide, decide_eq_true_eq]
    · rw [e]
      simp only [ToneLine.due, inWindow_eq]
      rfl
    · rw [e] at hn hd
      exact millisecond_new hn hd
    · rw [e] at hn hd
      exact millisecond_old hn hd ha

/-! ### The events of a line (R167 to R169) -/

/-- Settles O33: each event is one arbitration of its line. -/
theorem toneEvents : Obligations.ToneEvents := by
  refine ⟨outputAt_iff, fun l f v hf h => ?_, fun i s ha => ⟨fun hc => ?_, fun hw => ?_, fun hc => ?_⟩⟩
  · unfold ToneLine.output at h
    split at h
    · cases h
    · simp only [Option.some.injEq, Prod.mk.injEq] at h
      obtain ⟨rfl, rfl⟩ := h
      refine ⟨rfl, ?_⟩
      have : l.frequency < 8 := by omega
      interval_cases l.frequency <;> rfl
  · generalize hl : s.line i = l at *
    let u : ToneLine := { l with
      locatorCycle := some 0, confirmTimer := if l.confirmTimer = 1 then 0 else l.confirmTimer,
      tickOpen := (if l.confirmTimer = 1 then 0 else l.confirmTimer) == 0 }
    have opens : u.tickOpen = decide (l.confirmTimer ≤ 1) := by
      simp only [u]
      split
      · next h => simp [h]
      · next h => rw [beq_eq_decide]; congr 1; simp only [eq_iff_iff]; omega
    have sounds : u.due = if l.walkCycle.any (fun n => n < 30) then .walk
        else if 1 < l.confirmTimer then .confirm else .locator := by
      have confirms : 0 < u.confirmTimer ↔ 1 < l.confirmTimer := by simp only [u]; split <;> omega
      simp only [ToneLine.due, inWindow_eq, opens, confirms]
      by_cases h : 1 < l.confirmTimer
      · simp only [if_pos h]; rfl
      · simp only [if_neg h, show l.confirmTimer ≤ 1 by omega, decide_true, Bool.and_true]; rfl
    obtain ⟨v, a, e⟩ := arbitrate_eq s.lamps.dimOn u
    refine ⟨s.setLine i (u.arbitrate s.lamps.dimOn), ?_, ⟨u.due, v, a, ?_⟩, ?_, fun hn ho => ?_⟩
    · simp only [exec, execLocatorTick, hl]
      rw [if_pos ⟨ha, hc⟩]
    · rw [e, ← opens]; rfl
    · rw [setLine_line, e, ← sounds]
    · rw [setLine_line] at hn ⊢
      rw [e] at hn
      have due : u.due = .locator := hn
      exact arbitrate_new (by simp [due]) (by rw [due]; exact fun k => ho k.symm)
  · generalize hl : s.line i = l at *
    let u : ToneLine := { l with walkCycle := some 0 }
    have due : u.due = .walk := rfl
    obtain ⟨v, a, e⟩ := arbitrate_eq s.lamps.dimOn u
    refine ⟨s.setLine i (u.arbitrate s.lamps.dimOn), ?_, ⟨v, a, ?_⟩, fun ho => ?_⟩
    · simp only [exec, execWalkTick, hl]
      rw [if_pos ⟨ha, hw⟩]
    · rw [e]; rfl
    · rw [setLine_line]
      exact arbitrate_new (by simp [due]) (by rw [due]; exact fun k => ho k.symm)
  · generalize hl : s.line i = l at *
    let u : ToneLine := { l with confirmTimer := 0 }
    obtain ⟨v, a, e⟩ := arbitrate_eq s.lamps.dimOn u
    refine ⟨s.setLine i (u.arbitrate s.lamps.dimOn), ?_, ⟨u.due, v, a, ?_⟩, ?_⟩
    · simp only [exec, execConfirmEnd, hl]
      rw [if_pos ⟨ha, hc⟩]
    · rw [e]; rfl
    · rw [setLine_line, e]
      simp only [ToneLine.due, inWindow_eq, u]
      rfl

end Sys2Proof.Machine

/-! PROOFS. The sign exchange (O34). -/

namespace Sys2Proof.Machine

/-! ### The start of an exchange (R173 to R175) -/

theorem chain_nth : ∀ n : Fin 9, ((List.finRange 8).filter (fun k => k.val < n.val)).length = n.val ∧
    ∀ k : Fin 8, k.val < n.val → ((List.finRange 8).filter (fun k => k.val < n.val))[k.val]? = some k := by decide

/-- The modules of the chain are as many as its count, module k standing at its own place. -/
theorem chain_places {g : Signs} (h : g.count ≤ 8) : g.chain.length = g.count ∧
    ∀ k : Fin 8, k.val < g.count → g.chain[k.val]? = some k := chain_nth ⟨g.count, by omega⟩

/-- The word of a module stands behind the marker and the words of the modules after it (R174). -/
theorem loadedBuffer_places {s : State} (h : s.signs.count ≤ 8) : (loadedBuffer s).length = s.signs.count + 1 ∧
    (loadedBuffer s)[0]? = some 0x5AA5#16 ∧ ∀ k : Fin 8, k.val < s.signs.count →
      (loadedBuffer s)[s.signs.count - k.val]? = some (commandWord s (s.signs.modules.get k).entry) := by
  obtain ⟨hl, hk⟩ := chain_places h
  refine ⟨by simp [loadedBuffer, hl], rfl, fun k lt => ?_⟩
  obtain ⟨j, hj⟩ : ∃ j, s.signs.count - k.val = j + 1 := ⟨s.signs.count - k.val - 1, by omega⟩
  have back : s.signs.chain.length - 1 - j = k.val := by omega
  rw [loadedBuffer, hj, List.getElem?_cons_succ, List.getElem?_map, List.getElem?_reverse (by omega), back, hk k lt]
  rfl

/-- The fields of a command word (Table 13-9). -/
theorem showWord_fields (flash : Bool) (bright : BitVec 2) (message : BitVec 6) : showWord flash bright message =
    0#1 ++ (if flash then 1#1 else 0#1) ++ bright ++ 0#6 ++ message := by
  revert flash bright message
  decide

/-- The word of an entry, blank or with its message (R173). -/
theorem commandWord_fields {s : State} (hm : s.unit.mode ≠ .powerOut) (e : SignEntry) :
    let blank := s.unit.mode = .startFlash ∨ s.unit.mode = .faultFlash ∨ e.display = false
    let bright := if s.lamps.dimOn then e.nightBright else e.dayBright
    (blank → commandWord s e = 0x8000#16) ∧
    (¬ blank → e.source = none →
      commandWord s e = 0#1 ++ (if e.flash then 1#1 else 0#1) ++ bright ++ 0#6 ++ e.message) ∧
    (∀ c, ¬ blank → e.source = some c → commandWord s e = 0#2 ++ bright ++ 0#6 ++
      (if s.unit.mode.isControl = true ∧ (s.chan c).ind = .green then e.messageGreen else e.messageOther)) := by
  simp only
  refine ⟨fun h => ?_, fun h hs => ?_, fun c h hs => ?_⟩
  · rw [commandWord, if_pos (by tauto)]
    rfl
  · rw [commandWord, if_neg (by tauto), hs]
    exact showWord_fields _ _ _
  · rw [commandWord, if_neg (by tauto), hs]
    exact showWord_fields false _ _

/-! ### The end of an exchange (R174, R176) -/

/-- The comparison of what a module shows with what it had latched (R176). -/
theorem complete_module (m : SignModule) (sent word : Word) : let new := m.complete sent word
    new.entry = m.entry ∧ new.status = some ⟨word.extractLsb' 0 6, word.getLsbD 12⟩ ∧ new.latched = some sent ∧
    ((m.latched = none ∨ ∃ w, m.latched = some w ∧ w.getLsbD 15 = true) →
      new.mismatchRun = 0 ∧ new.mismatch = m.mismatch) ∧
    (∀ w, m.latched = some w → w.getLsbD 15 = false → word.extractLsb' 0 6 = w.extractLsb' 0 6 →
      new.mismatchRun = 0 ∧ new.mismatch = false) ∧
    (∀ w, m.latched = some w → w.getLsbD 15 = false → word.extractLsb' 0 6 ≠ w.extractLsb' 0 6 →
      new.mismatchRun = min 3 (m.mismatchRun + 1) ∧ new.mismatch = (m.mismatch || new.mismatchRun == 3)) := by
  have entry : (m.compare (messageOf word)).entry = m.entry := by
    unfold SignModule.compare
    split
    · rfl
    · split
      · rfl
      · split <;> rfl
  refine ⟨entry, rfl, rfl, fun h => ?_, fun w hw hb he => ?_, fun w hw hb he => ?_⟩
  all_goals simp only [SignModule.complete, messageOf]
  · rcases h with h | ⟨w, h, hb⟩
    · simp [SignModule.compare, h]
    · simp only [SignModule.compare, h, isBlank, hb, if_true, and_self]
  · simp only [SignModule.compare, hw, isBlank, hb, messageOf, he, Bool.false_eq_true, if_false, if_true, and_self]
  · simp only [SignModule.compare, hw, isBlank, hb, messageOf, he, Bool.false_eq_true, if_false, and_self]

/-- The port at the end of an exchange, its flags and the level of SDO aside. -/
theorem endExchange_signs (received : Vector Word 9) (s : State) : (endExchange received s).signs =
    if whole s.signs.count received then { s.signs with
        shifting := false, sck := false, slat := false, sdo := Config.sdoAfter s.signs.transfers
        transfers := s.signs.transfers + 1, chainError := false, buffer := received.toList.take (s.signs.count + 1)
        modules := completedModules s.signs received }
    else { s.signs with
        shifting := false, sck := false, slat := false, sdo := Config.sdoAfter s.signs.transfers
        transfers := s.signs.transfers + 1, chainError := true, buffer := [] } := by
  simp only [endExchange, flagIf_signs]

/-- An exchange ends in the port, and in the link's flags. -/
theorem endExchange_frame (received : Vector Word 9) (s : State) : ∃ m, endExchange received s =
    { s with signs := (endExchange received s).signs, link := { s.link with flags := m } } := by
  simp only [endExchange]
  rcases flagIf_cases _ .sign _ with e | e
  · rw [e]; exact ⟨s.link.flags, rfl⟩
  · rw [e]; exact ⟨_, rfl⟩

/-- Settles O34. -/
theorem signExchange : Obligations.SignExchange := by
  refine ⟨fun g received hs => ?_, fun s hc hm ht => ?_, fun s hp hs hc h8 hm => ?_, fun received s hs h8 => ?_⟩
  · refine ⟨fun p i hp hi => ?_, fun p j risen hp hj => ?_, fun time risen ht => ?_, fun h => ?_, fun h => ?_,
      bufferAt_end received⟩
    · obtain ⟨low, data, quiet⟩ := lines_bit received hs hp hi false
      exact ⟨low, (lines_bit received hs hp hi true).1, quiet, data⟩
    · obtain ⟨low, data, quiet⟩ := lines_gap received hs hp hj risen
      simp only [Nat.add_assoc]
      exact ⟨low, quiet, data⟩
    · obtain ⟨low, -, pulse⟩ := lines_after received hs ht risen
      refine ⟨low, ?_⟩
      rw [pulse, Bool.and_eq_true, whole_iff, beq_iff_eq]
      rfl
    · rw [Signs.exchangeTime, if_pos ((whole_iff _ _).mpr h)]
      rfl
    · rw [Signs.exchangeTime, if_neg (fun k => h ((whole_iff _ _).mp k))]
      rfl
  · have due : 0 < s.signs.count ∧ s.unit.mode ≠ .powerOut ∧ s.signs.timer ≤ 1 := ⟨hc, hm, by omega⟩
    simp only [exec, execSignPeriodExpiry, if_pos due]
  · obtain ⟨hl, h0, hk⟩ := loadedBuffer_places h8
    refine ⟨loadedBuffer s, ?_, hl, h0, fun k lt => ⟨_, hk k lt, commandWord_fields hm _⟩⟩
    simp [exec, execSignExchangeStart, State.exchangeDue, hp, hs, hc, hm, startExchange, Signs.linesLow]
  · have ends := endExchange_signs received s
    refine ⟨endExchange received s, by simp only [exec, execSignExchangeEnd, hs, if_true], ?_, ?_, fun h => ?_,
      fun h => ?_, fun h => ?_⟩
    · rw [ends]; split <;> rfl
    · obtain ⟨m, e⟩ := endExchange_frame received s
      rw [ends] at e ⊢
      split at e
      · next h => rw [if_pos h]; exact ⟨_, _, m, _, e⟩
      · next h => rw [if_neg h]; exact ⟨_, _, m, _, e⟩
    · rw [ends, if_neg (fun k => h ((whole_iff _ _).mp k))]
      exact ⟨rfl, rfl, rfl⟩
    · rw [ends, if_pos ((whole_iff _ _).mpr h)]
      refine ⟨by simp; omega, fun p hp => ?_⟩
      simp only [List.getElem?_take_of_lt (show p < s.signs.count + 1 by omega), List.getD_eq_getElem?_getD]
      rw [List.getElem?_eq_getElem (by simp; omega)]
      rfl
    · rw [ends, if_pos ((whole_iff _ _).mpr h)]
      refine ⟨rfl, fun k lt => ?_⟩
      have new : (completedModules s.signs received).get k = (s.signs.modules.get k).complete
          (s.signs.buffer.getD (s.signs.count - k.val) 0) (receivedAt received (s.signs.count - 1 - k.val)) := by
        simp only [completedModules, vmap_get, if_pos lt]
      simp only [new]
      exact complete_module _ _ _

end Sys2Proof.Machine

/-! PROOFS. Masks and tables, a host command answered at once, and the settings, the host copy, the queue and the calls
(O37, O39 to O42). -/

namespace Sys2Proof.Machine

/-! ### Masks and tables (R21, R23) -/

/-- Masks have a common member where their intersection is not empty. -/
theorem and_ne_zero {n : Nat} (a b : BitVec n) : a &&& b ≠ 0 ↔ ∃ i, has a i = true ∧ has b i = true := by
  rw [Ne, mask_eq_zero]
  simp

/-- A mask lies within another where nothing of it is outside. -/
theorem within_iff {n : Nat} (a b : BitVec n) : a &&& ~~~ b = 0 ↔ ∀ i, has a i = true → has b i = true := by
  rw [mask_eq_zero]
  simp only [has_and, has_not, Bool.and_eq_false_iff, Bool.not_eq_false']
  exact forall_congr' fun i => by cases has a i <;> simp

/-- A set names used channels only. -/
theorem within_used {s : State} {m : ChanSet} : m &&& ~~~ s.usedMask = 0 ↔
    ∀ c, has m c = true → (s.chan c).used = true := by
  rw [within_iff]
  simp [State.usedMask]

@[simp] theorem has_conflictsOf (t : PairTable) (i j : Chan) : has (conflictsOf t i) j = !compatible t i j := by
  simp [conflictsOf]

/-- A set is pairwise compatible (R21). -/
theorem pairwiseCompatible_iff {t : PairTable} {m : ChanSet} : pairwiseCompatible t m = true ↔
    ∀ i j, has m i = true → has m j = true → compatible t i j = true := by
  simp only [pairwiseCompatible, List.all_eq_true, List.mem_finRange, true_imp_iff, Bool.or_eq_true, Bool.not_eq_true',
    beq_iff_eq, mask_eq_zero, has_and, has_conflictsOf, Bool.and_eq_false_iff, Bool.not_eq_false']
  refine forall_congr' fun i => ?_
  cases has m i
  · simp
  · simp only [reduceCtorEq, false_or, true_imp_iff]
    exact forall_congr' fun j => by cases has m j <;> simp

theorem pairIndex_lt : ∀ i j : Chan, i < j → pairIndex i j < 120 := by decide

theorem pairTable_pairIndex : ∀ i j : Chan, i < j → pairTable[pairIndex i j]? = some (i, j) := by decide

theorem pairTable_ordered : ∀ n : Fin 120, (pairTable.get n).1 < (pairTable.get n).2 ∧
    pairIndex (pairTable.get n).1 (pairTable.get n).2 = n.val := by decide

theorem pairIndex_comm (i j : Chan) : pairIndex i j = pairIndex j i := by
  simp only [pairIndex, Nat.min_comm, Nat.max_comm]

/-- A pair's own cell. -/
theorem pairTable_get {i j : Chan} (h : i < j) : pairTable.get ⟨pairIndex i j, pairIndex_lt i j h⟩ = (i, j) := by
  have e := pairTable_pairIndex i j h
  rw [Vector.getElem?_eq_getElem (pairIndex_lt i j h)] at e
  exact Option.some.inj e

/-- The cells of two tables are the same where both permit the same pairs. -/
theorem table_ext {a b : PairTable} (h : ∀ i j : Chan, i ≠ j → compatible a i j = compatible b i j) : a = b := by
  refine mask_ext fun n => ?_
  obtain ⟨lt, e⟩ := pairTable_ordered n
  have same := h _ _ (ne_of_lt lt)
  simpa only [compatible, e, beq_false_of_ne (ne_of_lt lt), Bool.false_or, has] using same

/-- The table of symmetric rows permits what the rows do (R32). -/
theorem tableOfRows_compatible {rows : Vector ChanSet 16}
    (h : ∀ i j : Chan, i ≠ j → has (rows.get i) j = has (rows.get j) i) {i j : Chan} (ne : i ≠ j) :
    compatible (tableOfRows rows) i j = has (rows.get i) j := by
  have above {a b : Chan} (lt : a < b) : compatible (tableOfRows rows) a b = has (rows.get a) b := by
    have cell := has_maskOf (fun n => has (rows.get (pairTable.get n).1) (pairTable.get n).2)
      ⟨pairIndex a b, pairIndex_lt a b lt⟩
    rw [pairTable_get lt] at cell
    rw [compatible, beq_false_of_ne (ne_of_lt lt), Bool.false_or]
    exact cell
  rcases lt_or_gt_of_ne ne with lt | gt
  · exact above lt
  · rw [h i j ne, ← above gt, compatible_comm]

theorem symmetric_iff (rows : Vector ChanSet 16) : symmetric rows = true ↔
    ∀ i j : Chan, i ≠ j → has (rows.get i) j = has (rows.get j) i := by
  simp only [symmetric, List.all_eq_true, List.mem_finRange, true_imp_iff, beq_iff_eq]
  refine forall_congr' fun i => forall_congr' fun j => ⟨fun h _ => h, fun h => ?_⟩
  by_cases e : i = j
  · rw [e]
  · exact h e

/-! ### A host command answered at once (R183 to R185) -/

@[simp] theorem heard_chans (s : State) : (heard s).chans = s.chans := by simp [heard]
@[simp] theorem heard_lamps (s : State) : (heard s).lamps = s.lamps := by simp [heard]
@[simp] theorem heard_compat (s : State) : (heard s).compat = s.compat := by simp [heard]
@[simp] theorem heard_seq (s : State) : (heard s).seq = s.seq := by simp [heard]
@[simp] theorem heard_greens (s : State) : (heard s).greens = s.greens := by simp [heard]
@[simp] theorem heard_dets (s : State) : (heard s).dets = s.dets := by simp [heard]
@[simp] theorem heard_detMasks (s : State) : (heard s).detMasks = s.detMasks := by simp [heard]
@[simp] theorem heard_pres (s : State) : (heard s).pres = s.pres := by simp [heard]
@[simp] theorem heard_arb (s : State) : (heard s).arb = s.arb := by simp [heard]
@[simp] theorem heard_mon (s : State) : (heard s).mon = s.mon := by simp [heard]
@[simp] theorem heard_time (s : State) : (heard s).time = s.time := by simp [heard]
@[simp] theorem heard_tones (s : State) : (heard s).tones = s.tones := by simp [heard]
@[simp] theorem heard_signs (s : State) : (heard s).signs = s.signs := by simp [heard]
@[simp] theorem heard_unit (s : State) : (heard s).unit = { s.unit with owedLinkLoss := false } := by simp [heard]
@[simp] theorem heard_chan (s : State) (c : Chan) : (heard s).chan c = s.chan c := by simp [State.chan]
@[simp] theorem heard_green (s : State) (c : Chan) : (heard s).green c = s.green c := by simp [State.green]
@[simp] theorem heard_det (s : State) (d : Det) : (heard s).det d = s.det d := by simp [State.det]
@[simp] theorem heard_pre (s : State) (p : Pre) : (heard s).pre p = s.pre p := by simp [State.pre]
@[simp] theorem heard_line (s : State) (i : Line) : (heard s).line i = s.line i := by simp [State.line]
@[simp] theorem heard_record (s : State) : (heard s).record = s.record := by simp [State.record]
@[simp] theorem heard_shown (s : State) (c : Chan) : (heard s).shown c = s.shown c := by simp [State.shown]
@[simp] theorem heard_usedMask (s : State) : (heard s).usedMask = s.usedMask := by simp [State.usedMask]
@[simp] theorem heard_standing (s : State) : (heard s).standingMode = s.standingMode := by simp [State.standingMode]

/-- A host command on a free link is served on the heard state, and its one reply begun. -/
theorem answers {c : Instr} {f : Frame} {s t : State} {kind tag : Byte} {fields : List Byte} (hf : frameOf c = some f)
    (hk : f.kind + 0x80#8 = kind ∧ f.tag = tag) (hc : ∀ k g fs, c ≠ .unknownKind k g fs) (hs : s.linkFree)
    (h : serve c (heard s) = (t, fields)) : exec c s = .next (answered t ⟨kind, tag, fields⟩) := by
  obtain ⟨rfl, rfl⟩ := hk
  obtain ⟨h1, h2, h3⟩ := heard_free hs
  have kept := (serve_middle c (heard s)).slots
  rw [h] at kept
  have free : (serve c (heard s)).1.linkFree := by
    rw [h]
    exact ⟨kept.1.trans h1, kept.2.1.trans h2, kept.2.2.trans h3⟩
  rw [exec_of_frame hf hc, command_free hs free, h]

/-- A number from 1 on names its record. -/
theorem indexOf_number {n : Nat} (hn : n < 256) (i : Fin n) : indexOf n (u8 (i.val + 1)).toNat = some i := by
  have e : (u8 (i.val + 1)).toNat = i.val + 1 := by
    simp only [u8, BitVec.toNat_ofNat]
    omega
  rw [e, indexOf, dif_pos (by omega)]
  rfl

theorem indexOf_none {n b : Nat} (h : b = 0 ∨ n < b) : indexOf n b = none := by
  rw [indexOf, dif_neg (by omega)]

@[simp] theorem decodeFlag_flagByte (b : Bool) : decodeFlag (flagByte b) = some b := by cases b <;> rfl

@[simp] theorem decodeTermination_code (m : Termination) : decodeTermination m.code = some m := by cases m <;> rfl

theorem clampTo_eq {lo hi : Nat} (h : lo ≤ hi) (v : Nat) : clampTo lo hi v = min hi (max lo v) := by
  unfold clampTo
  split
  · omega
  · split <;> omega

/-- The result byte of a command that may clamp. -/
theorem clampResult_if {b : Bool} {p : Prop} [Decidable p] (h : b = false ↔ p) : clampResult b = if p then 0 else 1 := by
  cases b <;> simp_all [clampResult, resultOk, resultClamped]

/-! ### Settings (R15, R150, R161, R189) -/

/-- Settles O37. -/
theorem settingCommands : Obligations.SettingCommands := by
  intro tag s hs
  refine ⟨fun supervision enable period => ?_, fun a b c d => ?_, fun d g h => ?_, fun on k hon => ?_⟩
  · refine answers rfl ⟨rfl, rfl⟩ (by simp) hs ?_
    have mask : reportMaskBytes (enable.setWidth 9) = wordBytes (enable &&& 0x01FF#16) := by
      refine congrArg wordBytes (BitVec.eq_of_toNat_eq ?_)
      simp only [BitVec.toNat_setWidth, BitVec.toNat_and, BitVec.toNat_ofNat]
      rw [show (511 % 2 ^ 16 : Nat) = 2 ^ 9 - 1 from rfl, Nat.and_two_pow_sub_one_eq_mod]
      omega
    have result : clampResult (max 5 supervision.toNat != supervision.toNat) =
        if supervision.toNat < 5 then 1 else 0 := by
      rw [clampResult_if (p := ¬ supervision.toNat < 5) (by simp), ite_not]
    simp only [serve, serveSetLink, mask, result]
  · refine answers rfl ⟨rfl, rfl⟩ (by simp) hs ?_
    have start : clampTo 30 255 a.toNat = min 255 (max 30 a.toNat) := clampTo_eq (by omega) _
    have entry : clampTo 20 255 b.toNat = min 255 (max 20 b.toNat) := clampTo_eq (by omega) _
    have outage : clampTo 0 20 c.toNat = min 20 c.toNat := (clampTo_eq (by omega) _).trans (by rw [Nat.zero_max])
    have fail : clampTo 10 25 d.toNat = min 25 (max 10 d.toNat) := clampTo_eq (by omega) _
    have result : clampResult (min 255 (max 30 a.toNat) != a.toNat || min 255 (max 20 b.toNat) != b.toNat ||
        min 20 c.toNat != c.toNat || min 25 (max 10 d.toNat) != d.toNat) =
        if min 255 (max 30 a.toNat) = a.toNat ∧ min 255 (max 20 b.toNat) = b.toNat ∧ min 20 c.toNat = c.toNat ∧
          min 25 (max 10 d.toNat) = d.toNat then 0 else 1 := clampResult_if (by simp [and_assoc])
    simp only [serve, serveSetStart, start, entry, outage, fail, result, heard_mon]
  · refine answers rfl ⟨rfl, rfl⟩ (by simp) hs ?_
    have sag : clampTo 120 195 g.toNat = min 195 (max 120 g.toNat) := clampTo_eq (by omega) _
    have high : clampTo 205 250 h.toNat = min 250 (max 205 h.toNat) := clampTo_eq (by omega) _
    have drop : clampTo 60 (min 195 (max 120 g.toNat) - 10) d.toNat =
        min (min 195 (max 120 g.toNat) - 10) (max 60 d.toNat) := clampTo_eq (by omega) _
    have result : clampResult (min (min 195 (max 120 g.toNat) - 10) (max 60 d.toNat) != d.toNat ||
        min 195 (max 120 g.toNat) != g.toNat || min 250 (max 205 h.toNat) != h.toNat) =
        if min (min 195 (max 120 g.toNat) - 10) (max 60 d.toNat) = d.toNat ∧ min 195 (max 120 g.toNat) = g.toNat ∧
          min 250 (max 205 h.toNat) = h.toNat then 0 else 1 := clampResult_if (by simp [and_assoc])
    simp only [serve, serveSetSupply, sag, high, drop, result, heard_time]
  · refine answers rfl ⟨rfl, rfl⟩ (by simp) hs ?_
    have level : clampTo 4 8 k.toNat = min 8 (max 4 k.toNat) := clampTo_eq (by omega) _
    have result : clampResult (min 8 (max 4 k.toNat) != k.toNat) = if 4 ≤ k.toNat ∧ k.toNat ≤ 8 then 0 else 1 := by
      refine clampResult_if ?_
      simp only [bne_eq_false_iff_eq]
      omega
    rcases hon with rfl | rfl
    all_goals
      simp only [serve, serveSetDimming, level, heard_lamps, result]
      rfl

/-! ### The host copy (R31, R32) -/

/-- A recomputed match, flagged when it changes (R31). -/
theorem recomputeMatch_cases (s : State) : ∃ m, recomputeMatch s =
    { s with
      compat := { s.compat with isMatch := s.compat.hostCopy == some s.compat.inUse }
      link := { s.link with flags := m } } ∧
    ((s.compat.hostCopy == some s.compat.inUse) ≠ s.compat.isMatch → has m Report.status.index = true) := by
  unfold recomputeMatch
  simp only
  by_cases h : (s.compat.hostCopy == some s.compat.inUse) = s.compat.isMatch
  · exact ⟨s.link.flags, by simp [h, flagIf], fun k => absurd h k⟩
  · refine ⟨insertBit s.link.flags Report.status.index, ?_, fun _ => by simp⟩
    rw [flagIf, if_pos (by simpa using h)]
    rfl

/-- Settles O39. -/
theorem loadCompatibility : Obligations.LoadCompatibility := by
  intro tag rows s hs hm hr
  let stored : State := { heard s with compat := { s.compat with hostCopy := some (tableOfRows rows) } }
  obtain ⟨m, e, flagged⟩ := recomputeMatch_cases stored
  have copied : ∀ i j : Chan, i ≠ j → compatible (tableOfRows rows) i j = has (rows.get i) j :=
    fun i j => tableOfRows_compatible hr
  refine ⟨recomputeMatch stored, tableOfRows rows, answers rfl ⟨rfl, rfl⟩ (by simp) hs ?_, ?_, copied, ?_, m, ?_, ?_⟩
  · have permitted : ¬ (heard s).standingMode.isControl = true := by rw [heard_standing]; simp [hm]
    have even : ¬ symmetric rows = false := by simp [(symmetric_iff rows).mpr hr]
    simp only [serve, serveLoadCompatibility, if_neg permitted, if_neg even, heard_compat]
    rfl
  · rw [e]
  · rw [e]
    change (some (tableOfRows rows) == some s.compat.inUse) = true ↔ _
    simp only [beq_iff_eq, Option.some.injEq]
    refine ⟨fun h i j ne => by rw [← h, copied i j ne], fun h => table_ext fun i j ne => ?_⟩
    rw [copied i j ne, h i j ne]
  · rw [e]
  · rw [e]
    exact flagged

/-! ### The queue (R36, R52 to R55) -/

/-- Settles O40. -/
theorem queueStep : Obligations.QueueStep := by
  intro tag m skip set time s hs hl hu hp
  refine answers rfl ⟨rfl, rfl⟩ (by simp) hs ?_
  have room : ¬ Config.queueCapacity ≤ s.seq.queue.length := Nat.not_le.mpr hl
  have known : ¬ set &&& ~~~ s.usedMask ≠ 0 := not_not.mpr (within_used.mpr hu)
  have permitted : ¬ pairwiseCompatible s.compat.inUse set = false := by
    rw [pairwiseCompatible_iff.mpr hp]
    simp
  have stored : storedTime m time.toNat = match m with
      | .fixed => some (min 6000 (max 10 time.toNat))
      | .actuated => none := by
    cases m
    · exact congrArg some (clampTo_eq (by omega) _)
    · rfl
  have result : clampResult (m == .fixed && storedTime m time.toNat != some time.toNat) =
      if m = .actuated ∨ (10 ≤ time.toNat ∧ time.toNat ≤ 6000) then 0 else 1 := by
    refine clampResult_if ?_
    cases m
    · rw [stored]; simp; omega
    · simp
  simp only [serve, serveQueueStep, decodeTermination_code, decodeFlag_flagByte, heard_seq, heard_usedMask,
    heard_compat, if_neg room, if_neg known, if_neg permitted, result, appendStep, List.length_append]
  rw [stored]
  rfl

/-- Settles O41. -/
theorem queueControls : Obligations.QueueControls := by
  intro tag s hs
  refine ⟨fun r hc hr => ?_, fun hc => ?_, fun h => ?_, fun h => ?_, ?_, fun b => ?_, fun hm hh hc => ?_, fun h => ?_⟩
  all_goals refine answers rfl ⟨rfl, rfl⟩ (by simp) hs ?_
  · have kept : clearQueue (heard s) = { heard s with seq := { s.seq with queue := [r], position := 0 } } := by
      simp [clearQueue, clearedQueue, hc, hr]
    simp only [serve, serveClearQueue, kept, heard_seq]
    rfl
  · have none : clearQueue (heard s) = { heard s with
        seq := { s.seq with queue := [], position := 0 }, arb := { s.arb with interrupted := false } } := by
      simp [clearQueue, clearedQueue, hc]
    simp only [serve, serveClearQueue, none, heard_seq]
    rfl
  · have dropped : changeQueueMode .single (heard s) = { heard s with
        seq := { s.seq with mode := .single, queue := s.seq.queue.drop s.seq.position, position := 0 } } := by
      simp [changeQueueMode, h]
    simp only [serve, serveSetQueueMode, decodeQueueMode, if_true, dropped, heard_seq]
    rfl
  · have same : changeQueueMode .single (heard s) = heard s := by
      have q : ({ s.seq with mode := .single } : Sequencer) = s.seq := by rw [← h]
      simp only [changeQueueMode, heard_seq, h, reduceCtorEq, false_and, if_false, q]
      rw [← heard_seq]
    simp only [serve, serveSetQueueMode, decodeQueueMode, if_true, same, heard_seq, Nat.sub_self]
    rfl
  · have stored : changeQueueMode .cycle (heard s) = { heard s with seq := { s.seq with mode := .cycle } } := by
      simp [changeQueueMode]
    have cycle : decodeQueueMode 1 = some .cycle := rfl
    simp only [serve, serveSetQueueMode, cycle, stored, heard_seq, Nat.sub_self]
    rfl
  · simp only [serve, serveHold, decodeFlag_flagByte, heard_seq]
    rfl
  · have allowed : ¬ ((heard s).unit.mode ≠ .controlled ∨ (heard s).inService = true ∨ (heard s).seq.current = false) := by
      simp [State.inService, hm, hh, hc]
    simp only [serve, serveForceEnd, if_neg allowed]
    rw [heard_seq]
    rfl
  · have refused : (heard s).unit.mode ≠ .controlled ∨ (heard s).inService = true ∨ (heard s).seq.current = false := by
      simpa [State.inService, Option.isSome_iff_ne_none] using h
    simp only [serve, serveForceEnd, if_pos refused]
    rfl

/-! ### Calls (R62, R66) -/

/-- Settles O42. -/
theorem placeCall : Obligations.PlaceCall := by
  intro tag mask s hs
  refine ⟨fun ⟨c, hc, hk⟩ => answers rfl ⟨rfl, rfl⟩ (by simp) hs ?_, fun h => ⟨requestLatches mask (heard s),
    answers rfl ⟨rfl, rfl⟩ (by simp) hs ?_, ?_, fun c => ?_⟩⟩
  · have unknown : mask &&& ~~~ (heard s).usedMask ≠ 0 := by
      rw [heard_usedMask, Ne, within_used]
      exact fun k => by simpa [Channel.used, hk] using k c hc
    simp only [serve, servePlaceCall, if_pos unknown]
    rfl
  · have known : ¬ mask &&& ~~~ (heard s).usedMask ≠ 0 := by
      rw [heard_usedMask]
      exact not_not.mpr (within_used.mpr fun c hc => by simpa [Channel.used] using h c hc)
    simp only [serve, servePlaceCall, if_neg known]
    rfl
  · obtain ⟨g, e⟩ := requestLatches_eq mask (heard s)
    rw [e]
  · rw [requestLatches_green, heard_green, heard_chan, heard_shown]
    by_cases hm : has mask c = true
    · have used : (s.chan c).used = true := by simpa [Channel.used] using h c hm
      simp only [hm, used, true_and]
    · simp only [hm, Bool.false_eq_true, false_and, if_false]

end Sys2Proof.Machine

/-! PROOFS. The reading commands (O36). -/

namespace Sys2Proof.Machine

/-! ### The reading commands (R19, R33, R56, R94, R117, R133, R179) -/

/-- A reading command answers with what the state holds, for what it reads knows nothing of the link's own. -/
theorem reads {c : Instr} {f : Frame} {s : State} {kind tag : Byte} {fields : List Byte} (hf : frameOf c = some f)
    (hk : f.kind + 0x80#8 = kind ∧ f.tag = tag) (hc : ∀ k g fs, c ≠ .unknownKind k g fs) (hs : s.linkFree)
    (h : ∀ m, let t : State := { s with link := m, unit := { s.unit with owedLinkLoss := false } }
      serve c t = (t, fields)) :
    exec c s = .next (answered (heard s) ⟨kind, tag, fields⟩) := by
  obtain ⟨m, e⟩ := heard_cases s
  exact answers hf hk hc hs (e ▸ h _)

/-- The row of a channel in the table that READ COMPATIBILITY sends. -/
theorem rowsOfTable_get (t : PairTable) (i : Chan) :
    (rowsOfTable t).get i = maskOf (fun j : Chan => i != j && compatible t i j) := by
  simp only [rowsOfTable, Vector.get_ofFn]

/-- The names of a READ DETECTORS, in the words of its range. -/
theorem namedDetectors_filter (first count : Nat) :
    (List.finRange 24).filter (fun d => has (namedDetectors first count) d) =
      (List.finRange 24).filter (fun d => first ≤ d.val + 1 && d.val + 1 < first + count) := by
  refine List.filter_congr fun d _ => ?_
  rw [namedDetectors, has_maskOf]
  rfl

theorem clearCounts_det (m : DetSet) (s : State) (d : Det) : (clearCounts m s).det d =
    if has m d = true then { s.det d with volume := 0, occupancy := 0, forward := 0, reverse := 0 } else s.det d :=
  vmap_get _ _ _

theorem has_namedDetectors {first count : Nat} {d : Det} : has (namedDetectors first count) d = true ↔
    first ≤ d.val + 1 ∧ d.val + 1 < first + count := by
  rw [namedDetectors, has_maskOf]
  rw [Bool.and_eq_true, decide_eq_true_eq, decide_eq_true_eq]
  rfl

/-- The fault record in bytes (Table 13-7). -/
theorem faultRecordBytes_eq (r : Option FaultRecord) : faultRecordBytes r = match r with
    | none => List.replicate 9 0
    | some r => [if r.additional then 0x81#8 else 1, r.cause.code, u8 r.first, u8 r.second] ++
        u32 r.tenth.toNat ++ [r.mode.code] := by
  cases r with
  | none => rfl
  | some r => cases h : r.additional <;> simp [faultRecordBytes, h, flagByte]

theorem queueFlags_unpruned (s : State) : s.queueFlags false =
    flagByte s.seq.hold ||| (flagByte s.seq.force <<< 1) ||| (flagByte s.arb.holder.isSome <<< 2) := by
  have e : (flagByte false <<< 3 : Byte) = 0#8 := rfl
  rw [State.queueFlags, e, BitVec.or_zero, State.inService]

/-- READ DETECTORS (R94). -/
theorem readDetectors_answer (tag first count clear : Byte) {s : State} (hs : s.linkFree) (hf : 1 ≤ first.toNat)
    (hn : 1 ≤ count.toNat) (h4 : count.toNat ≤ 4) (h25 : first.toNat + count.toNat ≤ 25) (hb : clear = 0 ∨ clear = 1) :
    exec (.readDetectors tag first count clear) s = .next (answered
      (if clear = 1 then clearCounts (namedDetectors first.toNat count.toNat) (heard s) else heard s)
      ⟨0xB1#8, tag, [0, first, count] ++ u32 s.time.tenth.toNat ++
          ((List.finRange 24).filter (fun d => first.toNat ≤ d.val + 1 && d.val + 1 < first.toNat + count.toNat)).flatMap
            s.detectorEntry⟩) := by
  have range : 1 ≤ first.toNat ∧ first.toNat ≤ 24 ∧ 1 ≤ count.toNat ∧ count.toNat ≤ 4 ∧ first.toNat + count.toNat ≤ 25 :=
    ⟨hf, by omega, hn, h4, h25⟩
  have entries : (heard s).detectorEntry = s.detectorEntry := by
    obtain ⟨m, e⟩ := heard_cases s
    rw [e]
    rfl
  refine answers rfl ⟨rfl, rfl⟩ (by simp) hs ?_
  rw [← namedDetectors_filter]
  rcases hb with rfl | rfl
  all_goals
    simp only [serve, serveReadDetectors, decodeFlag, if_pos range, entries, heard_time]
    rfl

/-- Settles O36. -/
theorem readCommands : Obligations.ReadCommands := by
  intro tag s hs
  refine ⟨fun c => ?_, ?_, fun first h1 h16 => ?_, fun first count clear h1 hn h4 h25 hb =>
    ⟨_, readDetectors_answer tag first count clear hs h1 hn h4 h25 hb, ?_, fun d => ?_⟩, fun p => ?_, ?_, ?_⟩
  · refine reads rfl ⟨rfl, rfl⟩ (by simp) hs fun m => ?_
    simp only [serve, serveReadChannel, indexOf_number (by decide) c]
    rfl
  · refine reads rfl ⟨rfl, rfl⟩ (by simp) hs fun m => ?_
    simp only [serve, serveReadCompatibility, rowBytes, rowsOfTable_get]
    rfl
  · refine reads rfl ⟨rfl, rfl⟩ (by simp) hs fun m => ?_
    simp only [serve, serveReadQueue, if_pos (And.intro h1 h16), queueFlags_unpruned]
    rfl
  · split <;> rfl
  · by_cases h : clear = 1
    · simp only [h, if_true, true_and, clearCounts_det, heard_det, has_namedDetectors]
    · simp only [if_neg h, heard_det, h, false_and, if_false]
  · refine reads rfl ⟨rfl, rfl⟩ (by simp) hs fun m => ?_
    simp only [serve, serveReadPreempt, indexOf_number (by decide) p]
    rfl
  · refine reads rfl ⟨rfl, rfl⟩ (by simp) hs fun m => ?_
    simp only [serve, serveReadFault, faultRecordBytes_eq]
    rfl
  · exact reads rfl ⟨rfl, rfl⟩ (by simp) hs fun m => rfl

end Sys2Proof.Machine

/-! PROOFS. The tones and signs a host sets (O46). -/

namespace Sys2Proof.Machine

/-! ### The enumerated fields (R190) -/

@[simp] theorem decodeType_code (k : ChannelType) : decodeType k.code = some k := by cases k <;> rfl
@[simp] theorem decodeRecall_code (r : Recall) : decodeRecall r.code = some r := by cases r <;> rfl
@[simp] theorem decodeDetectorMode_code (m : DetectorMode) : decodeDetectorMode m.code = some m := by cases m <;> rfl
@[simp] theorem decodeFailAction_code (a : FailAction) : decodeFailAction a.code = some a := by cases a <;> rfl
@[simp] theorem decodeExitKind_code (k : ExitKind) : decodeExitKind k.code = some k := by cases k <;> rfl

/-- The code of a binding is read back. -/
theorem bindingOf_code {n : Nat} (hn : n < 256) (o : Option (Fin n)) :
    bindingOf n (bindingCode o : Byte).toNat = some o := by
  cases o with
  | none => rfl
  | some i =>
    have e : (u8 (i.val + 1)).toNat ≠ 0 := by
      simp only [u8, BitVec.toNat_ofNat]
      omega
    change (if (u8 (i.val + 1)).toNat = 0 then some none else (indexOf n (u8 (i.val + 1)).toNat).map some) = _
    rw [if_neg e, indexOf_number hn]
    rfl

/-- A field of few values in a byte. -/
theorem setWidth_setWidth_of_lt {b : Byte} {n : Nat} (h : b.toNat < 2 ^ n) (hn : n ≤ 8) :
    ((b.setWidth n).setWidth 8 : Byte) = b := by
  refine BitVec.eq_of_toNat_eq ?_
  rw [BitVec.toNat_setWidth, BitVec.toNat_setWidth, Nat.mod_eq_of_lt h]
  exact Nat.mod_eq_of_lt b.isLt

/-- Three flags in the low bits of a byte. -/
theorem flags_low (f : Byte) : flagByte (f.getLsbD 0) ||| (flagByte (f.getLsbD 1) <<< 1) |||
    (flagByte (f.getLsbD 2) <<< 2) = f &&& 7 := by
  revert f
  decide

theorem flags_two (f : Byte) : flagByte (f.getLsbD 0) ||| (flagByte (f.getLsbD 1) <<< 1) = f &&& 3 := by
  revert f
  decide

/-! ### Tones (R164, R166) -/

/-- A silenced line that begins a cycle judges it at once (R166). -/
theorem lineAfresh_cases (s : State) (i : Line) (l : ToneLine) :
    (s.lineActive i = false → lineAfresh s i l = l.silenced) ∧
    (s.lineActive i = true → ∃ v a, lineAfresh s i l =
      { l.begun (s.lineShows i) with sounding := (l.begun (s.lineShows i)).due, level := v, age := a }) := by
  refine ⟨fun h => by simp [lineAfresh, h], fun h => ?_⟩
  obtain ⟨v, a, e⟩ := arbitrate_eq s.lamps.dimOn (l.begun (s.lineShows i))
  exact ⟨v, a, by simp [lineAfresh, h, e]⟩

/-- The cycles of a line judged afresh (R166). -/
theorem begun_eq (ind : Indication) (l : ToneLine) : l.begun ind =
    { l.silenced with
      walkCycle := if ind = .green then some 0 else none
      locatorCycle := if (ind = .red ∨ ind = .pedClear) ∧ l.locator = true then some 0 else none
      tickOpen := decide ((ind = .red ∨ ind = .pedClear) ∧ l.locator = true) } := by
  have loc : (locates ind && l.locator) = true ↔ (ind = .red ∨ ind = .pedClear) ∧ l.locator = true := by
    cases ind <;> simp [locates]
  unfold ToneLine.begun
  simp only
  split
  · next green => subst green; rfl
  · simp only [← loc, show l.silenced.locator = l.locator from rfl]
    cases h : locates ind && l.locator <;> simp [ToneLine.startLocator, ToneLine.silenced]

/-- What sounds on a line judged afresh. -/
theorem begun_due (ind : Indication) (l : ToneLine) : (l.begun ind).due =
    if ind = .green then .walk
    else if (ind = .red ∨ ind = .pedClear) ∧ l.locator = true then .locator else .none := by
  rw [begun_eq]
  by_cases green : ind = .green
  · simp [green, ToneLine.due, inWindow, Config.walkWindow]
  · by_cases h : (ind = .red ∨ ind = .pedClear) ∧ l.locator = true
    · simp [green, h, ToneLine.due, inWindow, ToneLine.silenced, Config.locatorWindow]
    · simp only [green, if_false, if_neg h, ToneLine.due, inWindow, ToneLine.silenced]
      rfl

/-- The answer to an accepted SET TONE (R164). -/
theorem setTone_answer (tag : Byte) {i : Line} {c : Option Chan} {b : Option Det} {f : ToneFields} {s : State}
    (hs : s.linkFree) (hi : f.number = u8 (i.val + 1)) (hc : f.channel = bindingCode c) (hb : f.button = bindingCode b)
    (hq : f.frequency.toNat ≤ 7) (hn : ∀ n, c = some n → (s.chan n).kind = .pedestrian) :
    exec (.setTone tag f) s = .next (answered (applyTone i (storeTone f c b (s.line i)) (heard s)) ⟨0xD8#8, tag,
        [if f.dayVolume.toNat ≤ 7 ∧ f.nightVolume.toNat ≤ 7 then 0 else 1, f.number, f.channel, f.button, f.frequency,
          u8 (min 7 f.dayVolume.toNat), u8 (min 7 f.nightVolume.toNat), f.flags &&& 7]⟩) := by
  refine answers rfl ⟨rfl, rfl⟩ (by simp) hs ?_
  have bindable : (heard s).bindable c = true := by
    cases c with
    | none => rfl
    | some n => simp [State.bindable, hn n rfl]
  have accepted : ¬ (7 < f.frequency.toNat ∨ (heard s).bindable c = false) := by simp [bindable, hq]
  have result : clampResult (min 7 f.dayVolume.toNat != f.dayVolume.toNat ||
      min 7 f.nightVolume.toNat != f.nightVolume.toNat) =
      if f.dayVolume.toNat ≤ 7 ∧ f.nightVolume.toNat ≤ 7 then 0 else 1 := by
    refine clampResult_if ?_
    simp only [Bool.or_eq_false_iff, bne_eq_false_iff_eq]
    omega
  have bytes : (storeTone f c b (s.line i)).bytes i = [f.number, f.channel, f.button, f.frequency,
      u8 (min 7 f.dayVolume.toNat), u8 (min 7 f.nightVolume.toNat), f.flags &&& 7] := by
    simp only [ToneLine.bytes, storeTone, toneFlags, flags_low, hi, hc, hb]
    rw [show u8 f.frequency.toNat = f.frequency from BitVec.eq_of_toNat_eq (by simp [u8])]
    rfl
  rw [← bytes, ← result]
  simp only [serve, serveSetTone, hi, hc, hb, indexOf_number (n := 8) (by decide), bindingOf_code (n := 16) (by decide),
    bindingOf_code (n := 24) (by decide), if_neg accepted, heard_line]
  rfl

/-- An accepted SET TONE changes the tone lines only, and of them one (R164, R166). -/
theorem applyTone_line (i : Line) (l : ToneLine) (s : State) : ∃ t : Vector ToneLine 8,
    applyTone i l s = { s with tones := t } ∧ (∀ j, j ≠ i → t.get j = s.line j) ∧
      t.get i = lineAfresh { s with tones := vset s.tones i l } i l :=
  ⟨_, rfl, fun j h => (vset_get_other _ _ h).trans (vset_get_other _ _ h), vset_get_same _ _ _⟩

/-! ### Signs (R172, R177) -/

theorem storedBright_eq (b : Byte) : storedBright b = BitVec.ofNat 2 (min 3 b.toNat) := by
  revert b
  decide

theorem isGap_of_mem {n : Nat} (h : n ∈ [0, 1, 2, 4, 8, 16, 32, 64]) : isGap n = true := by
  simpa [isGap, or_assoc] using h

/-- A report flagged on a condition. -/
theorem flagIf_marks (b : Bool) (r : Report) (s : State) : ∃ m,
    flagIf b r s = { s with link := { s.link with flags := m } } ∧ (b = true → has m r.index = true) := by
  cases b with
  | false => exact ⟨s.link.flags, rfl, fun h => absurd h Bool.false_ne_true⟩
  | true => exact ⟨insertBit s.link.flags r.index, rfl, fun _ => by simp⟩

/-- A changed chain: what it keeps and what it forgets (R171, R177). -/
theorem changeChain_cases (count period gap : Nat) (s : State) : ∃ m, changeChain count period gap s =
    { s with
      signs := { s.signs with
        count := count, period := period, gap := gap, timer := period, pendingExchange := decide (0 < count)
        shifting := false, buffer := if s.signs.shifting then [] else s.signs.buffer
        modules := vmap (fun k m => m.rechained (k.val < count)) s.signs.modules
        chainError := s.signs.chainError && decide (0 < count)
        sck := if s.signs.shifting = true ∨ count = 0 then false else s.signs.sck
        sdo := if s.signs.shifting = true ∨ count = 0 then false else s.signs.sdo
        slat := if s.signs.shifting = true ∨ count = 0 then false else s.signs.slat }
      link := { s.link with flags := m } } ∧
    (((s.signs.chainError && decide (0 < count)) ≠ s.signs.chainError ∨ ∃ k : Fin 8,
        ((s.signs.modules.get k).rechained (k.val < count)).mismatch ≠ (s.signs.modules.get k).mismatch) →
      has m Report.sign.index = true) := by
  obtain ⟨m, e, flagged⟩ := flagIf_marks
    ((s.signs.chainError && !(s.signs.chainError && decide (0 < count))) ||
      (List.finRange 8).any (fun k => (s.signs.modules.get k).mismatch &&
        !((vmap (fun k m => SignModule.rechained (k.val < count) m) s.signs.modules).get k).mismatch)) .sign
    { abandonExchange s with
      signs := { (if count = 0 then (abandonExchange s).signs.linesLow else (abandonExchange s).signs) with
        count := count, period := period, gap := gap, timer := period
        modules := vmap (fun k m => m.rechained (k.val < count)) s.signs.modules
        pendingExchange := 0 < count, chainError := s.signs.chainError && 0 < count } }
  refine ⟨m, e.trans ?_, fun h => flagged ?_⟩
  · by_cases zero : count = 0
    all_goals
      cases shifting : s.signs.shifting
      all_goals simp [abandonExchange, Signs.linesLow, zero, shifting]
  · rw [Bool.or_eq_true, List.any_eq_true]
    rcases h with h | ⟨k, h⟩
    · left
      cases hc : s.signs.chainError <;> simp_all
    · right
      refine ⟨k, List.mem_finRange k, ?_⟩
      rw [vmap_get]
      cases hm : (s.signs.modules.get k).mismatch <;> simp_all [SignModule.rechained]

/-- Settles O46. -/
theorem toneAndSignCommands : Obligations.ToneAndSignCommands := by
  intro tag s hs
  refine ⟨fun i c b f hi hc hb hq hn => ?_, fun k c f hk hc h1 h2 h3 => ?_, fun count period gap hn hg => ?_⟩
  · obtain ⟨t, e, others, own⟩ := applyTone_line i (storeTone f c b (s.line i)) (heard s)
    refine ⟨_, setTone_answer tag hs hi hc hb hq hn, by rw [e], fun j h => ?_, ?_⟩
    · rw [e]
      exact (others j h).trans (heard_line s j)
    · let u : State := { heard s with tones := vset (heard s).tones i (storeTone f c b (s.line i)) }
      have bound : u.line i = storeTone f c b (s.line i) := vset_get_same _ _ _
      have line : (applyTone i (storeTone f c b (s.line i)) (heard s)).line i =
          lineAfresh u i (storeTone f c b (s.line i)) := by rw [e]; exact own
      have active : u.lineActive i = (s.unit.mode.isControl && c.isSome) := by
        have kind (n : Chan) : (u.chan n).kind = (s.chan n).kind :=
          congrArg Channel.kind (heard_chan s n)
        rw [State.lineActive, bound]
        cases c with
        | none => rw [show u.unit = (heard s).unit from rfl]; simp [storeTone]
        | some n =>
          have k : (u.chan n).kind = .pedestrian := (kind n).trans (hn n rfl)
          rw [show u.unit = (heard s).unit from rfl]
          simp only [storeTone, k, heard_unit]
          rfl
      rw [line]
      obtain ⟨silent, sounds⟩ := lineAfresh_cases u i (storeTone f c b (s.line i))
      cases ha : u.lineActive i with
      | false =>
        rw [silent ha]
        refine ⟨rfl, rfl, rfl, rfl, rfl, rfl, rfl, rfl, rfl, fun _ => ⟨rfl, rfl, rfl⟩, fun n hm hcn => ?_⟩
        simp [active, hm, hcn] at ha
      | true =>
        obtain ⟨v, a, e'⟩ := sounds ha
        rw [e', begun_due, begun_eq]
        refine ⟨rfl, rfl, rfl, rfl, rfl, rfl, rfl, rfl, rfl, fun h => ?_, fun n hm hcn => ?_⟩
        · rw [active] at ha
          rcases h with h | h <;> simp [h] at ha
        · have shows : u.lineShows i = (s.chan n).ind := by
            rw [State.lineShows, bound, ← heard_chan]
            simp only [storeTone, hcn]
            rfl
          rw [shows]
          exact ⟨rfl, rfl, rfl⟩
  · refine answers rfl ⟨rfl, rfl⟩ (by simp) hs ?_
    have accepted : ¬ (63 < f.message.toNat ∨ 63 < f.messageGreen.toNat ∨ 63 < f.messageOther.toNat) := by omega
    have result : clampResult (decide (3 < f.dayBright.toNat) || decide (3 < f.nightBright.toNat)) =
        if f.dayBright.toNat ≤ 3 ∧ f.nightBright.toNat ≤ 3 then 0 else 1 := clampResult_if (by simp)
    have bright (b : Byte) : ((storedBright b).setWidth 8 : Byte) = u8 (min 3 b.toNat) := by
      revert b
      decide
    have bytes : (storedSign f c).bytes k = [f.entry, f.source, f.flags &&& 3, f.message, f.messageGreen,
        f.messageOther, u8 (min 3 f.dayBright.toNat), u8 (min 3 f.nightBright.toNat)] := by
      simp only [SignEntry.bytes, storedSign, flags_two, bright, hk, hc,
        setWidth_setWidth_of_lt (n := 6) (b := f.message) (by omega) (by omega),
        setWidth_setWidth_of_lt (n := 6) (b := f.messageGreen) (by omega) (by omega),
        setWidth_setWidth_of_lt (n := 6) (b := f.messageOther) (by omega) (by omega)]
      cases c <;> rfl
    rw [← bytes, ← result]
    simp only [serve, serveSetSign, hk, hc, indexOf_number (n := 8) (by decide), bindingOf_code (n := 16) (by decide),
      if_neg accepted, applySign, heard_signs, storedSign, storedBright_eq]
  · have accepted : ¬ (8 < count.toNat ∨ isGap gap.toNat = false) := by
      rw [isGap_of_mem hg]
      simp [hn]
    have result : clampResult (max 2 period.toNat != period.toNat) = if period.toNat < 2 then 1 else 0 := by
      rw [clampResult_if (p := ¬ period.toNat < 2) (by simp; omega), ite_not]
    by_cases same : s.signs.count = count.toNat ∧ s.signs.period = max 2 period.toNat ∧ s.signs.gap = gap.toNat
    · refine ⟨heard s, answers rfl ⟨rfl, rfl⟩ (by simp) hs ?_, fun _ _ _ => rfl, fun h => ?_⟩
      · rw [← result]
        simp only [serve, serveSetSignChain, if_neg accepted, heard_signs, if_pos same]
      · obtain ⟨h1, h2, h3⟩ := same
        simp [h1, h2, h3] at h
    · obtain ⟨m, e, flagged⟩ := changeChain_cases count.toNat (max 2 period.toNat) gap.toNat (heard s)
      refine ⟨changeChain count.toNat (max 2 period.toNat) gap.toNat (heard s), answers rfl ⟨rfl, rfl⟩ (by simp) hs ?_,
        fun h1 h2 h3 => absurd ⟨h1, h2, h3⟩ same, fun _ => ⟨⟨_, m, e.trans (by rw [heard_signs])⟩, fun k => ?_, fun h => ?_⟩⟩
      · rw [← result]
        simp only [serve, serveSetSignChain, if_neg accepted, heard_signs, if_neg same]
      · rw [e]
        refine (vmap_get _ _ k).trans ?_
        rw [heard_signs]
        by_cases hk : k.val < count.toNat <;> simp [SignModule.rechained, hk]
      · rw [e]
        refine flagged (h.imp (fun h => ?_) fun ⟨k, h⟩ => ⟨k, ?_⟩)
        · rw [e] at h
          simpa only [heard_signs] using h
        · rw [e] at h
          exact fun same => h ((congrArg SignModule.mismatch (vmap_get _ _ k)).trans (same.trans (by rw [heard_signs])))

end Sys2Proof.Machine

/-! PROOFS. The refused commands (O47). -/

namespace Sys2Proof.Machine

/-! ### Values without a meaning (R190) -/

theorem decodeFlag_none {b : Byte} (h : 1 < b.toNat) : decodeFlag b = none := by
  revert b
  decide

theorem decodeType_none {b : Byte} (h : 2 < b.toNat) : decodeType b = none := by
  revert b
  decide

theorem decodeRecall_none {b : Byte} (h : 3 < b.toNat) : decodeRecall b = none := by
  revert b
  decide

theorem decodeTermination_none {b : Byte} (h : 1 < b.toNat) : decodeTermination b = none := by
  revert b
  decide

theorem decodeQueueMode_none {b : Byte} (h : 1 < b.toNat) : decodeQueueMode b = none := by
  revert b
  decide

theorem decodeDetectorMode_none {b : Byte} (h : 3 < b.toNat) : decodeDetectorMode b = none := by
  revert b
  decide

theorem decodeFailAction_none {b : Byte} (h : 1 < b.toNat) : decodeFailAction b = none := by
  revert b
  decide

theorem decodeExitKind_none {b : Byte} (h : 1 < b.toNat) : decodeExitKind b = none := by
  revert b
  decide

theorem bindingOf_none {n b : Nat} (h : n < b) : bindingOf n b = none := by
  rw [bindingOf, if_neg (by omega), indexOf_none (Or.inr h)]
  rfl

/-! ### The refusals (R184) -/

/-- A command refused on a free link (R184). -/
theorem refuses {c : Instr} {f : Frame} {s : State} {kind tag k code : Byte} {n : Nat} (hf : frameOf c = some f)
    (hk : f.kind + 0x80#8 = kind ∧ f.tag = tag) (hc : ∀ k g fs, c ≠ .unknownKind k g fs) (hs : s.linkFree)
    (hn : replyLength k = n) (h : serve c (heard s) = refuse (heard s) k code) :
    exec c s = .next (answered (heard s) ⟨kind, tag, code :: List.replicate n 0⟩) := by
  subst hn
  exact answers hf hk hc hs h

/-- A set that names an unused channel. -/
theorem not_within_used {s : State} {m : ChanSet} {c : Chan} (hm : has m c = true) (hu : (s.chan c).used = false) :
    m &&& ~~~ s.usedMask ≠ 0 := by
  rw [Ne, within_used]
  exact fun k => by simp [k c hm] at hu

/-- A set with an incompatible pair. -/
theorem not_pairwiseCompatible {t : PairTable} {m : ChanSet} {i j : Chan} (hi : has m i = true) (hj : has m j = true)
    (h : compatible t i j = false) : pairwiseCompatible t m = false := by
  rw [← Bool.not_eq_true, pairwiseCompatible_iff]
  exact fun k => by simp [k i j hi hj] at h

@[simp] theorem heard_inASet (s : State) (c : Chan) : (heard s).inASet c = s.inASet c := by simp [State.inASet]

/-- The frame of a known kind with a wrong length (R184). -/
theorem badLength_answer {kind tag : Byte} {fs : List Byte} {n : Nat} {s : State} (hs : s.linkFree)
    (hn : commandLength kind = some n) (hl : fs.length ≠ n) : arrive ⟨kind, tag, fs⟩ s =
      answered (heard s) ⟨kind + 0x80#8, tag, 3 :: List.replicate (replyLength kind) 0⟩ := by
  have taken (t : State) : handle ⟨kind, tag, fs⟩ t = replyTo ⟨kind, tag, fs⟩ (refuse t kind resultBadLength) := by
    simp [handle, parseFrame, hn, hl]
  rw [arrive, deliver_free hs (by rw [taken]; exact heard_free hs), taken]
  rfl

section
variable {tag : Byte} {s : State}

/-- The refusals of SET CHANNEL by its operands alone (R17, checks 1 and 2). -/
theorem setChannel_operands (hs : s.linkFree) {n k f r : Byte} {t : TimingFields} (h : (n.toNat = 0 ∨ 16 < n.toNat) ∨
    (2 < k.toNat ∨ 3 < r.toNat) ∨ ∃ k' r', k = ChannelType.code k' ∧ r = Recall.code r' ∧ recallSuits k' r' = false) :
    exec (.setChannel tag n k f r t) s = .next (answered (heard s) ⟨0x90#8, tag, 4 :: List.replicate 23 0⟩) := by
  refine refuses rfl ⟨rfl, rfl⟩ (by simp) hs (k := Config.kindSetChannel) rfl ?_
  simp only [serve, serveSetChannel]
  split
  · next c k' r' hc hk hr =>
    rcases h with h | (h | h) | ⟨x, y, rfl, rfl, h⟩
    · simp [indexOf_none h] at hc
    · simp [decodeType_none h] at hk
    · simp [decodeRecall_none h] at hr
    · simp only [decodeType_code, Option.some.injEq] at hk
      simp only [decodeRecall_code, Option.some.injEq] at hr
      subst hk hr
      rw [if_pos h]
      rfl
  · rfl

/-- The refusals of SET DETECTOR by its operands alone (R100, check 1). -/
theorem setDetector_operands (hs : s.linkFree) {f : DetectorFields} (h : f.number.toNat = 0 ∨ 24 < f.number.toNat ∨
    3 < f.mode.toNat ∨ 1 < f.failAction.toNat ∨ 1 < f.locking.toNat ∨ 1 < f.wrongWay.toNat) :
    exec (.setDetector tag f) s = .next (answered (heard s) ⟨0xB0#8, tag, 4 :: List.replicate 14 0⟩) := by
  refine refuses rfl ⟨rfl, rfl⟩ (by simp) hs (k := Config.kindSetDetector) rfl ?_
  simp only [serve, serveSetDetector]
  split
  · next d m a l w hd hm ha hl hw =>
    rcases h with h | h | h | h | h | h
    · simp [indexOf_none (Or.inl h)] at hd
    · simp [indexOf_none (Or.inr h)] at hd
    · simp [decodeDetectorMode_none h] at hm
    · simp [decodeFailAction_none h] at ha
    · simp [decodeFlag_none h] at hl
    · simp [decodeFlag_none h] at hw
  · rfl

/-- The refusals of SET PREEMPT by its operands and its sets (R103, checks 1 and 2). -/
theorem setPreempt_operands (hs : s.linkFree) {f : PreemptFields} (h : f.number.toNat = 0 ∨ 4 < f.number.toNat ∨
    3 < f.priority.toNat ∨ 1 < f.exitKind.toNat ∨ 1 < f.locking.toNat ∨ 1 < f.pedTruncate.toNat ∨ 1 < f.enable.toNat ∨
      (∃ c, (has f.trackSet c = true ∨ has f.dwellSet c = true) ∧ (s.chan c).used = false)) :
    exec (.setPreempt tag f) s = .next (answered (heard s) ⟨0xB8#8, tag, 4 :: List.replicate 18 0⟩) := by
  refine refuses rfl ⟨rfl, rfl⟩ (by simp) hs (k := Config.kindSetPreempt) rfl ?_
  simp only [serve, serveSetPreempt]
  split
  · next p l t k e hp hl ht hk he =>
    rcases h with h | h | h | h | h | h | h | ⟨c, hc, hu⟩
    · simp [indexOf_none (Or.inl h)] at hp
    · simp [indexOf_none (Or.inr h)] at hp
    · rw [if_pos (Or.inl h)]
      rfl
    · simp [decodeExitKind_none h] at hk
    · simp [decodeFlag_none h] at hl
    · simp [decodeFlag_none h] at ht
    · simp [decodeFlag_none h] at he
    · rw [heard_usedMask, if_pos (Or.inr (not_within_used (c := c) (by simpa using hc) hu))]
      rfl
  · rfl

/-- The refusals of SET PREEMPT with operands that are in order (R103, checks 3 and 4). -/
theorem setPreempt_refused (hs : s.linkFree) {p : Pre} {f : PreemptFields} (hn : f.number = u8 (p.val + 1))
    (hp : f.priority.toNat ≤ 3) (hk : f.exitKind.toNat ≤ 1) (hl : f.locking.toNat ≤ 1) (ht : f.pedTruncate.toNat ≤ 1)
    (he : f.enable.toNat ≤ 1)
    (hu : ∀ c, has f.trackSet c = true ∨ has f.dwellSet c = true → (s.chan c).used = true) :
    ((s.pre p).serving = true →
      exec (.setPreempt tag f) s = .next (answered (heard s) ⟨0xB8#8, tag, 5 :: List.replicate 18 0⟩)) ∧
    ((s.pre p).serving = false → (∃ i j, compatible s.compat.inUse i j = false ∧
        ((has f.trackSet i = true ∧ has f.trackSet j = true) ∨ (has f.dwellSet i = true ∧ has f.dwellSet j = true))) →
      exec (.setPreempt tag f) s = .next (answered (heard s) ⟨0xB8#8, tag, 7 :: List.replicate 18 0⟩)) := by
  have flag {b : Byte} (h : b.toNat ≤ 1) : ∃ v, decodeFlag b = some v := by revert b; decide
  have exit {b : Byte} (h : b.toNat ≤ 1) : ∃ v, decodeExitKind b = some v :=
    Option.isSome_iff_exists.mp (by revert b; decide)
  obtain ⟨l, hl⟩ := flag hl
  obtain ⟨t, ht⟩ := flag ht
  obtain ⟨e, he⟩ := flag he
  obtain ⟨k, hk⟩ := exit hk
  have known : ¬ (3 < f.priority.toNat ∨ (f.trackSet ||| f.dwellSet) &&& ~~~ s.usedMask ≠ 0) := by
    rw [not_or, not_not]
    exact ⟨by omega, within_used.mpr fun c hc => hu c (by simpa using hc)⟩
  refine ⟨fun serving => ?_, fun free ⟨i, j, hij, h⟩ => ?_⟩
  · refine refuses rfl ⟨rfl, rfl⟩ (by simp) hs (k := Config.kindSetPreempt) rfl ?_
    simp only [serve, serveSetPreempt, hn, indexOf_number (n := 4) (by decide), hl, ht, he, hk, heard_usedMask, heard_pre,
      if_neg known, if_pos serving]
    rfl
  · refine refuses rfl ⟨rfl, rfl⟩ (by simp) hs (k := Config.kindSetPreempt) rfl ?_
    have mixed : (pairwiseCompatible s.compat.inUse f.trackSet && pairwiseCompatible s.compat.inUse f.dwellSet) = false := by
      rcases h with ⟨hi, hj⟩ | ⟨hi, hj⟩
      · rw [not_pairwiseCompatible hi hj hij, Bool.false_and]
      · rw [not_pairwiseCompatible hi hj hij, Bool.and_false]
    have free : ¬ (s.pre p).serving = true := by simp [free]
    simp only [serve, serveSetPreempt, hn, indexOf_number (n := 4) (by decide), hl, ht, he, hk, heard_usedMask, heard_pre,
      heard_compat, if_neg known, if_neg free, if_pos mixed]
    rfl

/-- The refusals of SET TONE (R164). -/
theorem setTone_refused (hs : s.linkFree) {f : ToneFields} (h : f.number.toNat = 0 ∨ 8 < f.number.toNat ∨
    16 < f.channel.toNat ∨ 24 < f.button.toNat ∨ 7 < f.frequency.toNat ∨
    (∃ c : Chan, f.channel = u8 (c.val + 1) ∧ (s.chan c).kind ≠ .pedestrian)) :
    exec (.setTone tag f) s = .next (answered (heard s) ⟨0xD8#8, tag, 4 :: List.replicate 7 0⟩) := by
  refine refuses rfl ⟨rfl, rfl⟩ (by simp) hs (k := Config.kindSetTone) rfl ?_
  simp only [serve, serveSetTone]
  split
  · next i c b hi hc hb =>
    rcases h with h | h | h | h | h | ⟨n, hn, hk⟩
    · simp [indexOf_none (Or.inl h)] at hi
    · simp [indexOf_none (Or.inr h)] at hi
    · simp [bindingOf_none h] at hc
    · simp [bindingOf_none h] at hb
    · rw [if_pos (Or.inl h)]
      rfl
    · have named : bindingOf 16 f.channel.toNat = some (some n) := by
        rw [hn]
        exact bindingOf_code (by decide) (some n)
      have unfit : (heard s).bindable c = false := by
        rw [named] at hc
        cases hc
        simpa [State.bindable] using hk
      rw [if_pos (Or.inr unfit)]
      rfl
  · rfl

/-- The refusals of SET SIGN (R172). -/
theorem setSign_refused (hs : s.linkFree) {f : SignFields} (h : f.entry.toNat = 0 ∨ 8 < f.entry.toNat ∨
    16 < f.source.toNat ∨ 63 < f.message.toNat ∨ 63 < f.messageGreen.toNat ∨ 63 < f.messageOther.toNat) :
    exec (.setSign tag f) s = .next (answered (heard s) ⟨0xE1#8, tag, 4 :: List.replicate 8 0⟩) := by
  refine refuses rfl ⟨rfl, rfl⟩ (by simp) hs (k := Config.kindSetSign) rfl ?_
  simp only [serve, serveSetSign]
  split
  · next k c hk hc =>
    rcases h with h | h | h | h
    · simp [indexOf_none (Or.inl h)] at hk
    · simp [indexOf_none (Or.inr h)] at hk
    · simp [bindingOf_none h] at hc
    · rw [if_pos h]
      rfl
  · rfl

/-- The refusals of READ DETECTORS (R94). -/
theorem readDetectors_refused (hs : s.linkFree) {n k b : Byte} (h : n.toNat = 0 ∨ 24 < n.toNat ∨ k.toNat = 0 ∨
    4 < k.toNat ∨ 25 < n.toNat + k.toNat ∨ 1 < b.toNat) :
    exec (.readDetectors tag n k b) s = .next (answered (heard s) ⟨0xB1#8, tag, 4 :: List.replicate 6 0⟩) := by
  refine refuses rfl ⟨rfl, rfl⟩ (by simp) hs (k := Config.kindReadDetectors) rfl ?_
  simp only [serve, serveReadDetectors]
  split
  · next v hb =>
    by_cases out : 1 < b.toNat
    · simp [decodeFlag_none out] at hb
    · rw [if_neg (by omega)]
      rfl
  · rfl

/-- The refusals of SET CHANNEL by the state (R17, checks 3 and 4). -/
theorem setChannel_refused (hs : s.linkFree) {c : Chan} {k : ChannelType} {r : Recall} {f : Byte} {t : TimingFields}
    (hr : recallSuits k r = true) :
    (k ≠ (s.chan c).kind → s.standingMode.isControl = true → exec (.setChannel tag (u8 (c.val + 1)) k.code f r.code t) s =
      .next (answered (heard s) ⟨0x90#8, tag, 5 :: List.replicate 23 0⟩)) ∧
    (¬ (k ≠ (s.chan c).kind ∧ s.standingMode.isControl = true) → k = .unused → s.inASet c = true →
      exec (.setChannel tag (u8 (c.val + 1)) k.code f r.code t) s =
      .next (answered (heard s) ⟨0x90#8, tag, 4 :: List.replicate 23 0⟩)) := by
  have suits : ¬ recallSuits k r = false := by simp [hr]
  refine ⟨fun hk hm => ?_, fun hk hu ha => ?_⟩
  all_goals refine refuses rfl ⟨rfl, rfl⟩ (by simp) hs (k := Config.kindSetChannel) rfl ?_
  · simp only [serve, serveSetChannel, indexOf_number (n := 16) (by decide), decodeType_code, decodeRecall_code,
      if_neg suits, heard_chan, heard_standing, if_pos (And.intro hk hm)]
    rfl
  · simp only [serve, serveSetChannel, indexOf_number (n := 16) (by decide), decodeType_code, decodeRecall_code,
      if_neg suits, heard_chan, heard_standing, if_neg hk, heard_inASet, if_pos (And.intro hu ha)]
    rfl

/-- A channel of a queued record or of a preempt's set (R17, check 4). -/
theorem inASet_iff {c : Chan} : s.inASet c = true ↔ (∃ x ∈ s.seq.queue, has x.greenSet c = true) ∨
    ∃ p, has (s.pre p).cfg.trackSet c = true ∨ has (s.pre p).cfg.dwellSet c = true := by
  simp [State.inASet]

/-- The refusals of QUEUE STEP by the state (R36). -/
theorem queueStep_refused (hs : s.linkFree) {m : Termination} {b : Bool} {set : ChanSet} {time : Word} :
    (16 ≤ s.seq.queue.length → exec (.queueStep tag m.code (flagByte b) set time) s =
      .next (answered (heard s) ⟨0xA0#8, tag, 6 :: List.replicate 5 0⟩)) ∧
    (s.seq.queue.length < 16 → set &&& ~~~ s.usedMask ≠ 0 → exec (.queueStep tag m.code (flagByte b) set time) s =
      .next (answered (heard s) ⟨0xA0#8, tag, 4 :: List.replicate 5 0⟩)) ∧
    (s.seq.queue.length < 16 → set &&& ~~~ s.usedMask = 0 → pairwiseCompatible s.compat.inUse set = false →
      exec (.queueStep tag m.code (flagByte b) set time) s =
      .next (answered (heard s) ⟨0xA0#8, tag, 7 :: List.replicate 5 0⟩)) := by
  refine ⟨fun full => ?_, fun room unknown => ?_, fun room known mixed => ?_⟩
  all_goals refine refuses rfl ⟨rfl, rfl⟩ (by simp) hs (k := Config.kindQueueStep) rfl ?_
  · have full : Config.queueCapacity ≤ s.seq.queue.length := full
    simp only [serve, serveQueueStep, decodeTermination_code, decodeFlag_flagByte, heard_seq, if_pos full]
    rfl
  · have room : ¬ Config.queueCapacity ≤ s.seq.queue.length := Nat.not_le.mpr room
    simp only [serve, serveQueueStep, decodeTermination_code, decodeFlag_flagByte, heard_seq, if_neg room, heard_usedMask,
      if_pos unknown]
    rfl
  · have room : ¬ Config.queueCapacity ≤ s.seq.queue.length := Nat.not_le.mpr room
    have known : ¬ set &&& ~~~ s.usedMask ≠ 0 := not_not.mpr known
    simp only [serve, serveQueueStep, decodeTermination_code, decodeFlag_flagByte, heard_seq, if_neg room, heard_usedMask,
      if_neg known, heard_compat, if_pos mixed]
    rfl

end

/-- Settles O47. -/
theorem refusedCommands : Obligations.RefusedCommands := by
  intro tag s hs
  refine ⟨fun n k f r t h => setChannel_operands hs (Or.inl h),
    fun n k f r t h => setChannel_operands hs (Or.inr (Or.inl h)),
    fun n k r f t h => setChannel_operands hs (Or.inr (Or.inr ⟨k, r, rfl, rfl, h⟩)),
    fun c k r f t hr hk hm => (setChannel_refused hs hr).1 hk hm,
    fun c f t hk ha => (setChannel_refused hs (k := .unused) (r := .none) rfl).2 ?_ rfl (inASet_iff.mpr ha),
    fun n h => ?readChannel, fun on k h => ?setDimming, fun rows h => ?loadMode, fun rows i j hm h => ?loadRows,
    fun m k set time h => ?queueOperands, fun m b set time h => (queueStep_refused hs).1 h,
    fun m b set time c hl hc hu => (queueStep_refused hs).2.1 hl (not_within_used hc hu),
    fun m b set time i j hl hu hi hj hij =>
      (queueStep_refused hs).2.2 hl (within_used.mpr hu) (not_pairwiseCompatible hi hj hij),
    fun m h => ?queueMode, fun b h => ?hold, fun n h => ?readQueue, fun f h => setDetector_operands hs h,
    fun d f hd hl h => ?setDetector, fun n k b h => readDetectors_refused hs h, fun f h => setPreempt_operands hs h,
    fun p f hn hp hk hl ht he hu => setPreempt_refused hs hn hp hk hl ht he hu,
    fun n h => ?readPreempt, fun n h0 h50 h60 => ?setTimebase, fun f h => setTone_refused hs h,
    fun n p g h => ?setSignChain, fun f h => setSign_refused hs h,
    fun kind fs n hn hl => congrArg Host.Outcome.next (badLength_answer hs hn hl)⟩
  · rcases hk with hk | hk
    · exact fun h => h.1 hk
    · exact fun h => by simp [hk] at h
  case readChannel =>
    refine refuses rfl ⟨rfl, rfl⟩ (by simp) hs (k := Config.kindReadChannel) rfl ?_
    simp only [serve, serveReadChannel, indexOf_none h]
    rfl
  case setDimming =>
    refine refuses rfl ⟨rfl, rfl⟩ (by simp) hs (k := Config.kindSetDimming) rfl ?_
    simp only [serve, serveSetDimming, decodeFlag_none h]
    rfl
  case loadMode =>
    refine refuses rfl ⟨rfl, rfl⟩ (by simp) hs (k := Config.kindLoadCompatibility) rfl ?_
    simp only [serve, serveLoadCompatibility, heard_standing, if_pos h]
    rfl
  case loadRows =>
    refine refuses rfl ⟨rfl, rfl⟩ (by simp) hs (k := Config.kindLoadCompatibility) rfl ?_
    have control : ¬ s.standingMode.isControl = true := by simp [hm]
    have uneven : symmetric rows = false := by
      rw [← Bool.not_eq_true, symmetric_iff]
      exact fun k => h (k i j fun e => h (by rw [e]))
    simp only [serve, serveLoadCompatibility, heard_standing, if_neg control, if_pos uneven]
    rfl
  case queueOperands =>
    refine refuses rfl ⟨rfl, rfl⟩ (by simp) hs (k := Config.kindQueueStep) rfl ?_
    simp only [serve, serveQueueStep]
    split
    · next hm hk =>
      rcases h with h | h
      · simp [decodeTermination_none h] at hm
      · simp [decodeFlag_none h] at hk
    · rfl
  case queueMode =>
    refine refuses rfl ⟨rfl, rfl⟩ (by simp) hs (k := Config.kindSetQueueMode) rfl ?_
    simp only [serve, serveSetQueueMode, decodeQueueMode_none h]
    rfl
  case hold =>
    refine refuses rfl ⟨rfl, rfl⟩ (by simp) hs (k := Config.kindHold) rfl ?_
    simp only [serve, serveHold, decodeFlag_none h]
    rfl
  case readQueue =>
    refine refuses rfl ⟨rfl, rfl⟩ (by simp) hs (k := Config.kindReadQueue) rfl ?_
    rw [serve, serveReadQueue, if_neg (by omega)]
    rfl
  case setDetector =>
    refine refuses rfl ⟨rfl, rfl⟩ (by simp) hs (k := Config.kindSetDetector) rfl ?_
    simp only [serve, serveSetDetector, hd, indexOf_number (n := 24) (by decide)]
    split
    · next d' m a l w hd' hm _ _ _ =>
      cases hd'
      have lag : isLead d = false ∧ (m = .pair ∨ ((heard s).det (partner d)).mode = .pair) := by
        refine ⟨hl, h.imp (fun h => ?_) fun h => by rw [heard_det]; exact h⟩
        rw [h] at hm
        exact (Option.some.inj hm).symm
      rw [if_pos lag]
      rfl
    · rfl
  case readPreempt =>
    refine refuses rfl ⟨rfl, rfl⟩ (by simp) hs (k := Config.kindReadPreempt) rfl ?_
    simp only [serve, serveReadPreempt, indexOf_none h]
    rfl
  case setTimebase =>
    refine refuses rfl ⟨rfl, rfl⟩ (by simp) hs (k := Config.kindSetTimebase) rfl ?_
    simp only [serve, serveSetTimebase, decodeNominal, if_neg h0, if_neg h50, if_neg h60]
    rfl
  case setSignChain =>
    refine refuses rfl ⟨rfl, rfl⟩ (by simp) hs (k := Config.kindSetSignChain) rfl ?_
    have bad : 8 < n.toNat ∨ isGap g.toNat = false :=
      h.imp_right fun h => by rw [← Bool.not_eq_true]; exact fun k => h (isGap_mem k)
    simp only [serve, serveSetSignChain, if_pos bad]
    rfl

end Sys2Proof.Machine

/-! PROOFS. The detector configuration a host sets (O43). -/

namespace Sys2Proof.Machine

/-! ### SET DETECTOR (R100) -/

theorem partner_ne (d : Det) : partner d ≠ d := by
  revert d
  decide

/-- A detector's record written by a command: untouched where nothing changed, restarted where something did. -/
theorem writeDetector_det (d e : Det) (new : Detector) (s : State) : (writeDetector d new s).det e =
    if e = d then (if new = s.det d then s.det d else new.restarted) else s.det e := by
  unfold writeDetector
  by_cases same : new = s.det d
  · rw [if_pos same, if_pos same]
    split
    · next h => rw [h]
    · rfl
  · rw [if_neg same, if_neg same]
    have set : (s.setDet d new.restarted).det e = if e = d then new.restarted else s.det e := vset_get _ _ _ _
    simp only
    split
    · exact set
    · exact set

/-- A faulted record that is restarted is marked and flagged (R100). -/
theorem writeDetector_marks {d : Det} {new : Detector} {s : State} (h : new ≠ s.det d) (hf : (s.det d).fault ≠ .ok) :
    has (writeDetector d new s).detMasks.changed d = true ∧
      has (writeDetector d new s).link.flags Report.detector.index = true := by
  have faulted : (s.det d).faulted = true := by simpa [Detector.faulted] using hf
  rw [writeDetector, if_neg h]
  simp only [if_pos faulted]
  exact ⟨by simp [markChanged], by simp [markChanged, flag_link]⟩

/-- A write keeps the marks and the flags that stand. -/
theorem writeDetector_keeps_marks {d e : Det} {new : Detector} {s : State} (h : has s.detMasks.changed e = true) :
    has (writeDetector d new s).detMasks.changed e = true := by
  unfold writeDetector
  split
  · exact h
  · simp only
    split
    · simp [markChanged, h]
    · exact h

theorem writeDetector_flags (d : Det) (new : Detector) (s : State) : FlagsStay s (writeDetector d new s) := by
  intro i h
  unfold writeDetector
  split
  · exact h
  · simp only
    split
    · simp [markChanged, flag_link, h]
    · exact h

/-- The records after an accepted SET DETECTOR: the named one, its lag when it leads, and the others as they were. -/
theorem applyDetector_det (d : Det) (new : Detector) (s : State) :
    (applyDetector d new s).det d = (if new = s.det d then s.det d else new.restarted) ∧
    (applyDetector d new s).det (partner d) =
      (let lag := { s.det (partner d) with mode := lagMode (s.det d).mode new.mode (s.det (partner d)).mode }
       if isLead d = true ∧ lag ≠ s.det (partner d) then lag.restarted else s.det (partner d)) ∧
    ∀ e, e ≠ d → e ≠ partner d → (applyDetector d new s).det e = s.det e := by
  have latches (m : ChanSet) (t : State) (e : Det) : (requestLatches m t).det e = t.det e := by
    obtain ⟨g, h⟩ := requestLatches_eq m t
    rw [h]
    rfl
  have ne := partner_ne d
  have written (e : Det) : (applyDetector d new s).det e = (if isLead d = true then
      writeDetector (partner d) { s.det (partner d) with
        mode := lagMode (s.det d).mode new.mode (s.det (partner d)).mode } (writeDetector d new s)
      else writeDetector d new s).det e := by
    unfold applyDetector
    simp only
    split
    · rw [latches]
    · rfl
  cases lead : isLead d with
  | false =>
    simp only [lead, Bool.false_eq_true, if_false, writeDetector_det] at written
    refine ⟨by rw [written, if_pos rfl], by rw [written, if_neg ne]; simp, fun e h _ => by rw [written, if_neg h]⟩
  | true =>
    simp only [lead, if_true, writeDetector_det, if_neg ne] at written
    refine ⟨by rw [written, if_neg ne.symm, if_pos rfl], ?_, fun e h k => by rw [written, if_neg k, if_neg h]⟩
    rw [written, if_pos rfl]
    simp only [true_and, ne_eq, ite_not]

/-- The marks and flags of an accepted SET DETECTOR that restarts a faulted record. -/
theorem applyDetector_marks {d : Det} {new : Detector} {s : State} (h : new ≠ s.det d) (hf : (s.det d).fault ≠ .ok) :
    has (applyDetector d new s).detMasks.changed d = true ∧
      has (applyDetector d new s).link.flags Report.detector.index = true := by
  obtain ⟨marked, flagged⟩ := writeDetector_marks h hf
  have latches (m : ChanSet) (t : State) : (requestLatches m t).detMasks = t.detMasks ∧ (requestLatches m t).link = t.link := by
    obtain ⟨g, h⟩ := requestLatches_eq m t
    rw [h]
    exact ⟨rfl, rfl⟩
  unfold applyDetector
  simp only
  split
  · rw [(latches _ _).1, (latches _ _).2]
    split
    · exact ⟨writeDetector_keeps_marks marked, writeDetector_flags _ _ _ _ flagged⟩
    · exact ⟨marked, flagged⟩
  · split
    · exact ⟨writeDetector_keeps_marks marked, writeDetector_flags _ _ _ _ flagged⟩
    · exact ⟨marked, flagged⟩

/-- Settles O43. -/
theorem setDetector : Obligations.SetDetector := by
  intro tag d m a locking wrongWay f s hs hn hm ha hl hw hlag
  let stored := storeDetector f m locking a wrongWay (s.det d)
  let applied := applyDetector d stored (heard s)
  obtain ⟨own, lag, others⟩ := applyDetector_det d stored (heard s)
  have k := settle_keeps (heard s) applied
  have det (e : Det) : (settle (heard s) applied).det e = applied.det e := congrArg (fun v => v.get e) k.dets
  have limit : storedChatter f = min 50 (max 2 f.chatterLimit.toNat) := clampTo_eq (by omega) _
  have stored_eq : stored = { s.det d with
      mode := m, callMask := f.callMask, extendMask := f.extendMask, delay := f.delay.toNat, locking := locking
      maxPresence := f.maxPresence.toNat, maxAbsence := f.maxAbsence.toNat
      chatterLimit := min 50 (max 2 f.chatterLimit.toNat), failAction := a, wrongWay := wrongWay } := by
    simp only [stored, storeDetector, limit]
  have config : applied.configBytes d = [f.number, f.mode] ++ wordBytes f.callMask ++ wordBytes f.extendMask ++
      [f.delay, f.locking, f.maxPresence, f.maxAbsence, u8 (min 50 (max 2 f.chatterLimit.toNat)), f.failAction, f.wrongWay,
        (applied.det (lagOf d)).mode.code] := by
    have byte (b : Byte) : u8 b.toNat = b := BitVec.eq_of_toNat_eq (by simp [u8])
    have r : ∃ x y : Detector, applied.det d = { stored with
        delayTimer := x.delayTimer, presence := x.presence, absence := x.absence, window := x.window
        cleanRun := x.cleanRun, fault := x.fault, direction := x.direction } := by
      rw [show applied.det d = _ from own]
      split
      · next same => exact ⟨s.det d, s.det d, by rw [heard_det] at same ⊢; rw [← same]⟩
      · exact ⟨stored.restarted, stored, rfl⟩
    obtain ⟨x, -, e⟩ := r
    rw [State.configBytes, e]
    simp only [stored, storeDetector, limit, byte, hn, hm, ha, hl, hw]
    rfl
  have result : clampResult (storedChatter f != f.chatterLimit.toNat) =
      if min 50 (max 2 f.chatterLimit.toNat) = f.chatterLimit.toNat then 0 else 1 :=
    clampResult_if (by rw [limit]; simp)
  have permitted : ¬ (isLead d = false ∧ (m = .pair ∨ (s.det (partner d)).mode = .pair)) := by
    rintro ⟨h1, h2⟩
    rcases hlag with h | ⟨h3, h4⟩
    · simp [h] at h1
    · exact h2.elim h3 h4
  have answer : exec (.setDetector tag f) s = .next (answered (settle (heard s) applied) ⟨0xB0#8, tag,
      (if min 50 (max 2 f.chatterLimit.toNat) = f.chatterLimit.toNat then 0 else 1) :: applied.configBytes d⟩) := by
    refine answers rfl ⟨rfl, rfl⟩ (by simp) hs ?_
    simp only [serve, serveSetDetector, hn, hm, ha, hl, hw, indexOf_number (n := 24) (by decide), decodeDetectorMode_code,
      decodeFailAction_code, decodeFlag_flagByte, heard_det, if_neg permitted, result]
    rfl
  have flags : FlagsStay applied (settle (heard s) applied) := settle_flags _ _
  generalize settle (heard s) applied = u at k det answer flags
  refine ⟨_, answer, ?_, fun lead => ⟨fun hp ho => ?_, fun hp ho hoff => ?_, fun hp ho => ?_⟩, fun follow => ?_,
    fun e h1 h2 => ?_, fun hc hf => ?_, ?_⟩
  all_goals simp only [heard_det] at own lag others
  · refine ((det d).trans own).trans ?_
    rw [stored_eq]
    rfl
  · refine ((det _).trans lag).trans ?_
    have new : lagMode (s.det d).mode stored.mode (s.det (partner d)).mode = .pair := by
      simp [lagMode, stored, storeDetector, hp]
    simp only [new]
    rw [if_pos ⟨lead, fun e => ho (congrArg Detector.mode e).symm⟩]
    rfl
  · refine ((det _).trans lag).trans ?_
    have new : lagMode (s.det d).mode stored.mode (s.det (partner d)).mode = .off := by
      simp [lagMode, stored, storeDetector, hp, ho]
    simp only [new]
    rw [if_pos ⟨lead, fun e => hoff (congrArg Detector.mode e).symm⟩]
    rfl
  · refine ((det _).trans lag).trans ?_
    have new : lagMode (s.det d).mode stored.mode (s.det (partner d)).mode = (s.det (partner d)).mode := by
      simp [lagMode, stored, storeDetector, hp, ho]
    simp only [new]
    rw [if_neg fun h => h.2 rfl]
  · refine ((det _).trans lag).trans ?_
    exact if_neg fun h => by simp [follow] at h
  · exact (det e).trans (others e h1 h2)
  · rw [← stored_eq] at hc
    obtain ⟨marked, flagged⟩ := applyDetector_marks (s := heard s) (by rw [heard_det]; exact hc)
      (by rw [heard_det]; exact hf)
    refine ⟨?_, flags _ flagged⟩
    exact (congrArg (fun v => has v.changed d) k.detMasks).trans marked
  · change some _ = some _
    rw [config]
    have mode : (u.det (if isLead d then partner d else d)).mode = (applied.det (lagOf d)).mode :=
      congrArg Detector.mode (det _)
    rw [← mode]
    rfl

end Sys2Proof.Machine

/-! PROOFS. The judgments of a moment in the form they have where they hold, and what they do to each preempt. -/

namespace Sys2Proof.Machine

/-! ### A judgment that holds (R105 to R113, R40 to R51) -/

theorem judgeClocks_some {s t : State} (h : judgeClocks s = some t) : s.clockStarts ≠ 0 ∧
    t = { s with greens := vmap (fun c g => if has s.clockStarts c then { g with clock := some 0 } else g) s.greens } := by
  unfold judgeClocks at h
  simp only at h
  split at h
  · cases h
  · next hm => cases h; exact ⟨hm, rfl⟩

theorem judgeRequests_some {s t : State} (h : judgeRequests s = some t) :
    ∃ p r, (s.pre p).move = some r ∧ t = s.setPre p r := by
  unfold judgeRequests at h
  split at h
  · cases h
  · next p _ =>
    split at h <;> cases h
    next r hr => exact ⟨p, r, hr, rfl⟩

theorem judgeSlot_some {s t : State} (h : judgeSlot s = some t) : ∃ p, s.bestPending = some p ∧
    ((s.arb.holder = none ∧ t = enterService p s) ∨
      ∃ q, s.arb.holder = some q ∧ (s.pre q).cfg.priority < (s.pre p).cfg.priority ∧
        t = enterService p (s.setPre q (s.pre q).putOut)) := by
  unfold judgeSlot at h
  split at h
  · cases h
  · next p hp =>
    split at h
    · next hh => cases h; exact ⟨p, hp, .inl ⟨hh, rfl⟩⟩
    · next q hq =>
      split at h <;> cases h
      next lt => exact ⟨p, hp, .inr ⟨q, hq, lt, rfl⟩⟩

theorem judgeOwed_some {s t : State} (h : judgeOwed s = some t) :
    s.seq.owedEnds &&& s.runOut ≠ 0 ∧ t = terminateAll (s.seq.owedEnds &&& s.runOut) s := by
  unfold judgeOwed at h
  simp only at h
  split at h
  · cases h
  · next hd => cases h; exact ⟨hd, rfl⟩

theorem judgeStage_some {s t : State} (h : judgeStage s = some t) : ∃ p, s.arb.holder = some p ∧
    (s.pre p).state = .entry ∧ (s.pre p).stage = .minimum ∧ s.seq.owedEnds = 0 ∧
    t = s.setPre p { s.pre p with stage := .clearing } := by
  unfold judgeStage at h
  split at h
  · cases h
  · next p hp =>
    simp only at h
    split at h <;> cases h
    next hk => exact ⟨p, hp, hk.1, hk.2.1, hk.2.2, rfl⟩

theorem judgeStart_some {s t : State} (h : judgeStart s = some t) : ∃ tr c, s.seq.transition = some tr ∧
    (List.finRange 16).find? (s.mayStart tr s.clearMask) = some c ∧ t = startMoment c s := by
  unfold judgeStart at h
  split at h
  · cases h
  · next tr htr =>
    simp only at h
    split at h <;> cases h
    next c hc => exact ⟨tr, c, htr, hc, rfl⟩

theorem judgeFull_some {s t : State} (h : judgeFull s = some t) : ∃ tr, s.seq.transition = some tr ∧
    s.atFullGreen tr = true ∧ ((tr.owner = .step ∧ t = stepFullGreen tr s) ∨
      (tr.owner = .preempt ∧ ((s.arb.holder = none ∧ t = { s with seq := { s.seq with transition := none } }) ∨
        ∃ p, s.arb.holder = some p ∧ t =
          ({ s with seq := { s.seq with transition := none } } : State).setPre p (s.pre p).atFullGreen))) := by
  unfold judgeFull at h
  split at h
  · cases h
  · next tr htr =>
    split at h
    · next hf =>
      refine ⟨tr, htr, hf, ?_⟩
      split at h
      · next ho => cases h; exact .inl ⟨ho, rfl⟩
      · next ho =>
        simp only at h
        refine .inr ⟨ho, ?_⟩
        split at h
        · next p hp => cases h; exact .inr ⟨p, hp, rfl⟩
        · next hp => cases h; exact .inl ⟨hp, rfl⟩
    · cases h

theorem judgeTrack_some {s t : State} (h : judgeTrack s = some t) : ∃ p, s.arb.holder = some p ∧
    (s.pre p).state = .track ∧ (s.pre p).serviceTimer = 0 ∧
    t = terminateAll ((s.greenOf .vehicle ||| s.greenOf .pedestrian) &&& ~~~ (s.pre p).cfg.dwellSet)
      (beginTransition (s.pre p).cfg.dwellSet .preempt (s.setPre p { s.pre p with state := .dwell })) := by
  unfold judgeTrack at h
  split at h
  · cases h
  · next p hp =>
    simp only at h
    split at h <;> cases h
    next hk => exact ⟨p, hp, hk.1, hk.2, rfl⟩

theorem judgeDwell_some {s t : State} (h : judgeDwell s = some t) : ∃ p, s.arb.holder = some p ∧
    (s.pre p).state = .dwell ∧ s.seq.transition = none ∧ (s.pre p).serviceTimer = 0 ∧ (s.pre p).active = false ∧
    ((s.somePending = true ∧ t = { s.setPre p { s.pre p with state := .idle } with arb := { s.arb with holder := none } }) ∨
      (s.somePending = false ∧ t = s.setPre p { s.pre p with state := .exit, pendingAtExit := false })) := by
  unfold judgeDwell at h
  split at h
  · cases h
  · next p hp =>
    simp only at h
    split at h
    · next hk =>
      obtain ⟨h1, h2, h3, h4⟩ := hk
      refine ⟨p, hp, h1, by simpa using h2, h3, h4, ?_⟩
      split at h
      · next h5 => cases h; exact .inl ⟨h5, rfl⟩
      · next h5 => cases h; exact .inr ⟨by simpa using h5, rfl⟩
    · cases h

theorem judgeExit_some {s t : State} (h : judgeExit s = some t) : ∃ p i drop, s.arb.holder = some p ∧
    (s.pre p).state = .exit ∧ s.exitRecord (s.pre p).cfg.exitKind = some (i, drop) ∧
    t = makeCurrent i drop { s.setPre p { s.pre p with
        state := if (s.pre p).pendingAtExit then .pending else .idle, pendingAtExit := false } with
      arb := { s.arb with holder := none, interrupted := false } } := by
  unfold judgeExit at h
  split at h
  · cases h
  · next p hp =>
    simp only at h
    split at h
    · next hk =>
      split at h <;> cases h
      next i drop hi => exact ⟨p, i, drop, hp, hk, hi, rfl⟩
    · cases h

theorem judgeTermination_some {s t : State} (h : judgeTermination s = some t) : ∃ r, s.seq.current = true ∧
    s.record = some r ∧ ((s.mayTerminate r = true ∧ ∃ i, s.eligible = some i ∧ t = makeCurrent i true s) ∨
      (s.mayTerminate r = true ∧ s.eligible = none ∧ s.seq.phase = .fullGreen ∧
        t = { s with seq := { s.seq with phase := .resting } }) ∨
      (s.mayTerminate r = false ∧ s.seq.phase = .resting ∧ t = { s with seq := { s.seq with phase := .fullGreen } })) := by
  unfold judgeTermination at h
  split at h
  · next hc =>
    split at h
    · cases h
    · next r hr =>
      refine ⟨r, hc.1, hr, ?_⟩
      split at h
      · next hm =>
        split at h
        · next i hi => cases h; exact .inl ⟨hm, i, hi, rfl⟩
        · next hi =>
          split at h <;> cases h
          next hp => exact .inr (.inl ⟨hm, hi, hc.2.resolve_right hp, rfl⟩)
      · next hm =>
        split at h <;> cases h
        next hp => exact .inr (.inr ⟨by simpa using hm, hp, rfl⟩)
  · cases h

theorem judgeFirst_some {s t : State} (h : judgeFirst s = some t) : s.seq.current = false ∧ s.arb.holder = none ∧
    ∃ i, s.firstChoice = some i ∧ t = makeCurrent i false s := by
  unfold judgeFirst at h
  split at h
  · cases h
  · next hn =>
    split at h <;> cases h
    next i hi =>
      simp only [not_or, Bool.not_eq_true, Option.isSome_eq_false_iff, Option.isNone_iff_eq_none] at hn
      exact ⟨hn.1, hn.2, i, hi, rfl⟩

theorem judgeClearing_some {s t : State} (h : judgeClearing s = some t) :
    (s.runOut ≠ 0 ∧ t = terminateAll s.runOut s) ∨ (s.allRed = true ∧ t = enterLocalFlash s) := by
  unfold judgeClearing at h
  split at h
  · next hr => cases h; exact .inl ⟨hr, rfl⟩
  · split at h <;> cases h
    next ha => exact .inr ⟨ha, rfl⟩

/-! ### What a judgment does to a preempt -/

/-- The PENDING request of highest priority, the lowest number among equals (R106). -/
theorem bestPending_pending {s : State} {p : Pre} (h : s.bestPending = some p) : (s.pre p).state = .pending := by
  let f : Option Pre → Pre → Option Pre := fun best p =>
    if (s.pre p).state = .pending then
      match best with
      | none => some p
      | some q => if (s.pre q).cfg.priority < (s.pre p).cfg.priority then some p else best
    else best
  have held : ∀ (l : List Pre) (b : Option Pre), (∀ q, b = some q → (s.pre q).state = .pending) →
      ∀ q, l.foldl f b = some q → (s.pre q).state = .pending := by
    intro l
    induction l with
    | nil => exact fun b hb => hb
    | cons x xs ih =>
      refine fun b hb => ih (f b x) fun q hq => ?_
      simp only [f] at hq
      split at hq
      · next hx =>
        split at hq
        · cases hq; exact hx
        · next y =>
          split at hq
          · cases hq; exact hx
          · exact hb q hq
      · exact hb q hq
  exact held (List.finRange 4) none (fun q e => by cases e) p h

/-- What one judgment may make of a preempt `q`: a move of its request, or in CONTROLLED a move of its service. -/
inductive PreStep (s : State) (q : Pre) : Preempt → Prop where
  | same : PreStep s q (s.pre q)
  | request (r : Preempt) (h : (s.pre q).move = some r) : PreStep s q r
  | enters (k : EntryStage) (hc : s.unit.mode = .controlled) (hp : s.bestPending = some q) :
    PreStep s q { s.pre q with state := .entry, serviceTimer := 0, pendingAtExit := false, stage := k }
  | putOut (p : Pre) (hc : s.unit.mode = .controlled) (hh : s.arb.holder = some q) (hp : s.bestPending = some p)
    (lt : (s.pre q).cfg.priority < (s.pre p).cfg.priority) : PreStep s q (s.pre q).putOut
  | clears (hc : s.unit.mode = .controlled) (hh : s.arb.holder = some q) (he : (s.pre q).state = .entry) :
    PreStep s q { s.pre q with stage := .clearing }
  | full (hc : s.unit.mode = .controlled) (hh : s.arb.holder = some q) (tr : Transition)
    (ht : s.seq.transition = some tr) : PreStep s q (s.pre q).atFullGreen
  | dwells (hc : s.unit.mode = .controlled) (hh : s.arb.holder = some q) (he : (s.pre q).state = .track)
    (h0 : (s.pre q).serviceTimer = 0) : PreStep s q { s.pre q with state := .dwell }
  | passes (hc : s.unit.mode = .controlled) (hh : s.arb.holder = some q) (he : (s.pre q).state = .dwell)
    (h0 : (s.pre q).serviceTimer = 0) (ha : (s.pre q).active = false) (ht : s.seq.transition = none) :
    PreStep s q { s.pre q with state := .idle }
  | exits (hc : s.unit.mode = .controlled) (hh : s.arb.holder = some q) (he : (s.pre q).state = .dwell)
    (h0 : (s.pre q).serviceTimer = 0) (ha : (s.pre q).active = false) (ht : s.seq.transition = none) :
    PreStep s q { s.pre q with state := .exit, pendingAtExit := false }
  | returns (hc : s.unit.mode = .controlled) (hh : s.arb.holder = some q) (he : (s.pre q).state = .exit) :
    PreStep s q { s.pre q with state := if (s.pre q).pendingAtExit then .pending else .idle, pendingAtExit := false }

theorem setPre_get (s : State) (p q : Pre) (r : Preempt) : (s.setPre p r).pre q = if q = p then r else s.pre q :=
  vset_get _ _ _ _

theorem pre_of_pres {s t : State} (h : t.pres = s.pres) (q : Pre) : t.pre q = s.pre q := congrArg (fun v => v.get q) h

theorem setClass_slot (c : Chan) (k : TransitionClass) (s : State) : SlotSame s (setClass c k s) := by
  unfold setClass
  split <;> exact ⟨rfl, rfl⟩

theorem startMoment_slot (c : Chan) (s : State) : SlotSame s (startMoment c s) := by
  unfold startMoment
  split
  · exact setClass_slot _ _ s
  · obtain ⟨-, -, -, h1, h2, -⟩ := (startChannel_touches c (setClass c .started s)).calm
    exact (setClass_slot _ _ s).trans ⟨h1, h2⟩

theorem makeCurrent_slot (i : Nat) (drop : Bool) (s : State) : SlotSame s (makeCurrent i drop s) := by
  unfold makeCurrent beginStepTransition
  obtain ⟨h1, h2⟩ := terminateAll_slot _ _
  exact ⟨h1, h2⟩

/-- The truncation that an entry into service makes, its preempt named as the slot holder (R108, R109). -/
def truncated (p : Pre) (s : State) : State :=
  truncate (s.pre p).cfg (s.pre p).firstTarget (beginTransition (s.pre p).firstTarget .preempt
    { stopStep s with arb := { s.arb with holder := some p, interrupted := s.arb.interrupted || s.seq.current } })

theorem enterService_eq (p : Pre) (s : State) : enterService p s = (truncated p s).setPre p
    { s.pre p with
      state := .entry, serviceTimer := 0, pendingAtExit := false
      stage := if (truncated p s).seq.owedEnds = 0 then .clearing else .minimum } := rfl

/-- The preempts and the holder after an entry into service (R108). -/
theorem enterService_slot (p : Pre) (s : State) : ∃ k, (∀ q, (enterService p s).pre q =
      if q = p then { s.pre p with state := .entry, serviceTimer := 0, pendingAtExit := false, stage := k } else s.pre q) ∧
    (enterService p s).arb.holder = some p := by
  obtain ⟨h1, h2⟩ := truncate_slot (s.pre p).cfg (s.pre p).firstTarget (beginTransition (s.pre p).firstTarget .preempt
    { stopStep s with arb := { s.arb with holder := some p, interrupted := s.arb.interrupted || s.seq.current } })
  have pres : (truncated p s).pres = s.pres := h1
  refine ⟨if (truncated p s).seq.owedEnds = 0 then .clearing else .minimum, fun q => ?_, congrArg Arbiter.holder h2⟩
  rw [enterService_eq, setPre_get, pre_of_pres pres]

/-- What a judgment does to each preempt and to the slot (R105 to R113). -/
theorem judge_pre {s t : State} (h : judge s = some t) : (∀ q, PreStep s q (t.pre q)) ∧
    (t.arb.holder = s.arb.holder ∨ t.arb.holder = none ∨
      ∃ p, t.arb.holder = some p ∧ s.bestPending = some p ∧ s.unit.mode = .controlled) := by
  have still (e : SlotSame s t) : (∀ q, PreStep s q (t.pre q)) ∧ (t.arb.holder = s.arb.holder ∨ t.arb.holder = none ∨
      ∃ p, t.arb.holder = some p ∧ s.bestPending = some p ∧ s.unit.mode = .controlled) :=
    ⟨fun q => by rw [pre_of_pres e.1]; exact .same, .inl (congrArg _ e.2)⟩
  have one {p : Pre} {r : Preempt} (k : PreStep s p r) (q : Pre) : PreStep s q ((s.setPre p r).pre q) := by
    rw [setPre_get]
    split
    · next e => exact e ▸ k
    · exact .same
  rcases judge_cases h with h | h | ⟨hm, h | h | h | h | h | h | h | h | h | h⟩ | ⟨hm, h⟩
  · obtain ⟨-, rfl⟩ := judgeClocks_some h
    exact still ⟨rfl, rfl⟩
  · obtain ⟨p, r, hr, rfl⟩ := judgeRequests_some h
    exact ⟨one (.request r hr), .inl rfl⟩
  · obtain ⟨p, hp, ⟨hh, rfl⟩ | ⟨q, hq, lt, rfl⟩⟩ := judgeSlot_some h
    · obtain ⟨k, pre, hold⟩ := enterService_slot p s
      refine ⟨fun q => ?_, .inr (.inr ⟨p, hold, hp, hm⟩)⟩
      rw [pre]
      split
      · next e => rw [e]; exact .enters k hm hp
      · exact .same
    · obtain ⟨k, pre, hold⟩ := enterService_slot p (s.setPre q (s.pre q).putOut)
      have ne : p ≠ q := by rintro rfl; exact lt_irrefl _ lt
      refine ⟨fun x => ?_, .inr (.inr ⟨p, hold, hp, hm⟩)⟩
      rw [pre, setPre_get, setPre_get, if_neg ne]
      split
      · next e => rw [e]; exact .enters k hm hp
      · split
        · next e => rw [e]; exact .putOut p hm hq hp lt
        · exact .same
  · obtain ⟨-, rfl⟩ := judgeOwed_some h
    exact still (terminateAll_slot _ s)
  · obtain ⟨p, hp, he, -, -, rfl⟩ := judgeStage_some h
    exact ⟨one (.clears hm hp he), .inl rfl⟩
  · obtain ⟨-, c, -, -, rfl⟩ := judgeStart_some h
    exact still (startMoment_slot c s)
  · obtain ⟨tr, htr, -, ⟨-, rfl⟩ | ⟨-, ⟨-, rfl⟩ | ⟨p, hp, rfl⟩⟩⟩ := judgeFull_some h
    · exact still ⟨rfl, rfl⟩
    · exact still ⟨rfl, rfl⟩
    · exact ⟨one (.full hm hp tr htr), .inl rfl⟩
  · obtain ⟨p, hp, he, h0, rfl⟩ := judgeTrack_some h
    obtain ⟨h1, h2⟩ := terminateAll_slot ((s.greenOf .vehicle ||| s.greenOf .pedestrian) &&& ~~~ (s.pre p).cfg.dwellSet)
      (beginTransition (s.pre p).cfg.dwellSet .preempt (s.setPre p { s.pre p with state := .dwell }))
    exact ⟨fun q => by rw [pre_of_pres h1]; exact one (.dwells hm hp he h0) q, .inl (congrArg Arbiter.holder h2)⟩
  · obtain ⟨p, hp, he, ht, h0, ha, ⟨-, rfl⟩ | ⟨-, rfl⟩⟩ := judgeDwell_some h
    · exact ⟨one (.passes hm hp he h0 ha ht), .inr (.inl rfl)⟩
    · exact ⟨one (.exits hm hp he h0 ha ht), .inl rfl⟩
  · obtain ⟨p, i, drop, hp, he, -, rfl⟩ := judgeExit_some h
    obtain ⟨h1, h2⟩ := makeCurrent_slot i drop { s.setPre p { s.pre p with
        state := if (s.pre p).pendingAtExit then .pending else .idle, pendingAtExit := false } with
      arb := { s.arb with holder := none, interrupted := false } }
    exact ⟨fun q => by rw [pre_of_pres h1]; exact one (.returns hm hp he) q, .inr (.inl (congrArg Arbiter.holder h2))⟩
  · obtain ⟨r, -, -, ⟨-, i, -, rfl⟩ | ⟨-, -, -, rfl⟩ | ⟨-, -, rfl⟩⟩ := judgeTermination_some h
    · exact still (makeCurrent_slot _ _ s)
    · exact still ⟨rfl, rfl⟩
    · exact still ⟨rfl, rfl⟩
  · obtain ⟨-, -, i, -, rfl⟩ := judgeFirst_some h
    exact still (makeCurrent_slot _ _ s)
  · obtain ⟨-, rfl⟩ | ⟨-, rfl⟩ := judgeClearing_some h
    · exact still (terminateAll_slot _ s)
    · exact still ⟨by simp [enterLocalFlash], by simp [enterLocalFlash]⟩

end Sys2Proof.Machine

/-! PROOFS. The clocks and requests that a settling takes first, and the configuration of a preempt (O44). -/

namespace Sys2Proof.Machine

/-! ### The clocks and the requests of a moment (R70, R105) -/

/-- `t` is `s` after reduction clocks started and preempt requests moved, as a moment takes them first (log entry 6). -/
structure Requested (s t : State) : Prop where
  frame : t = { s with greens := t.greens, pres := t.pres, link := t.link }
  link : ∃ m, t.link = { s.link with flags := m }
  flags : FlagsStay s t
  green : ∀ c, t.green c = s.green c ∨
    (t.green c = { s.green c with clock := some 0 } ∧ (s.chan c).kind = .vehicle ∧ (s.chan c).ind = .green)
  pre : ∀ p, Relation.ReflTransGen (fun r q => Preempt.move r = some q) (s.pre p) (t.pre p)

theorem Requested.refl (s : State) : Requested s s :=
  ⟨rfl, ⟨_, rfl⟩, fun _ h => h, fun _ => .inl rfl, fun _ => .refl⟩

theorem Requested.trans {s t u : State} (h : Requested s t) (k : Requested t u) : Requested s u where
  frame := by rw [k.frame, h.frame]
  link := by
    obtain ⟨m, e⟩ := h.link
    obtain ⟨n, f⟩ := k.link
    exact ⟨n, by rw [f, e]⟩
  flags i e := k.flags i (h.flags i e)
  green c := by
    have chan : t.chan c = s.chan c := by rw [h.frame]; rfl
    rcases k.green c with e | ⟨e, hk, hi⟩ <;> rcases h.green c with f | ⟨f, gk, gi⟩
    · exact .inl (e.trans f)
    · exact .inr ⟨e.trans f, gk, gi⟩
    · exact .inr ⟨by rw [e, f], by rw [← chan]; exact hk, by rw [← chan]; exact hi⟩
    · exact .inr ⟨by rw [e, f], gk, gi⟩
  pre p := (h.pre p).trans (k.pre p)

theorem noting_requested (o s : State) : Requested s (noting o s) where
  frame := by
    obtain ⟨m, e⟩ := noting_link o s
    simp [noting, flagIf, flag]
    split <;> split <;> split <;> rfl
  link := noting_link o s
  flags := noting_flags o s
  green c := .inl (congrArg (fun v => v.get c) (noting_greens o s))
  pre p := by rw [pre_of_pres (noting_pres o s)]

/-- A channel whose reduction clock starts has none yet (R70). -/
theorem clockStarts_iff {s : State} {c : Chan} (h : has s.clockStarts c = true) :
    (s.chan c).kind = .vehicle ∧ (s.chan c).ind = .green ∧ (s.green c).clock = none ∧ s.unit.mode ≠ .powerOut ∧
      s.pressed c = true := by
  unfold State.clockStarts at h
  simp only at h
  split at h
  · simp at h
  · next hn =>
    rw [has_maskOf] at h
    simp only [Bool.and_eq_true, beq_iff_eq, bne_iff_ne] at h
    obtain ⟨⟨⟨h1, h2⟩, h3⟩, h4⟩ := h
    exact ⟨h1, h2, h3, fun e => hn (.inl e), by simpa [State.pressed] using h4⟩

theorem clocks_requested {s t : State} (h : judgeClocks s = some t) : Requested s t := by
  obtain ⟨-, rfl⟩ := judgeClocks_some h
  refine ⟨rfl, ⟨_, rfl⟩, fun _ h => h, fun c => ?_, fun p => .refl⟩
  have e := vmap_get (fun c g => if has s.clockStarts c then { g with clock := some 0 } else g) s.greens c
  by_cases hc : has s.clockStarts c = true
  · obtain ⟨hk, hi, -⟩ := clockStarts_iff hc
    exact .inr ⟨e.trans (if_pos hc), hk, hi⟩
  · exact .inl (e.trans (if_neg hc))

theorem requests_requested {s t : State} (h : judgeRequests s = some t) : Requested s t := by
  obtain ⟨p, r, hr, rfl⟩ := judgeRequests_some h
  refine ⟨rfl, ⟨_, rfl⟩, fun _ h => h, fun c => .inl rfl, fun q => ?_⟩
  rw [setPre_get]
  split
  · next e => rw [e]; exact .single hr
  · exact .refl

/-- How many moves a request can take before it waits (R105). -/
def Preempt.restless (r : Preempt) : Nat :=
  match r.move with
  | none => 0
  | some q => if q.move.isSome then 2 else 1

/-- An enabled preempt whose input is active (R105). -/
def Preempt.wants (r : Preempt) : Bool := r.cfg.enable && r.active

theorem idle_move {r : Preempt} (h : r.state = .idle) :
    r.move = if r.wants then some { r with state := .delaying, delayTimer := r.cfg.delay } else none := by
  simp [Preempt.move, h, Preempt.wants]

theorem delaying_move {r : Preempt} (h : r.state = .delaying) : r.move =
    if r.wants then if r.delayTimer = 0 then some { r with state := .pending } else none
    else some { r with state := .idle, delayTimer := 0 } := by
  cases he : r.cfg.enable <;> cases ha : r.active <;> simp [Preempt.move, h, Preempt.wants, he, ha]

theorem pending_move {r : Preempt} (h : r.state = .pending) :
    r.move = none ∨ (r.wants = false ∧ r.move = some { r with state := .idle }) := by
  cases he : r.cfg.enable <;> cases ha : r.active <;> simp [Preempt.move, h, Preempt.wants, he, ha]

theorem exit_move {r q : Preempt} (h : r.state = .exit) (hm : r.move = some q) : q.move = none := by
  simp only [Preempt.move, h] at hm
  split at hm
  · next ha =>
    cases hm
    simp only [Bool.and_eq_true] at ha
    simp only [Preempt.move, h, Preempt.active] at ha ⊢
    simp [ha.1]
  · split at hm <;> cases hm
    next ha =>
      simp only [Bool.and_eq_true, Bool.not_eq_true'] at ha
      simp only [Preempt.move, h, Preempt.active] at ha ⊢
      simp [ha.1.1]

/-- What a request becomes where it may move again, it keeps (Figure 6-1). -/
theorem move_move {r q u : Preempt} (h : r.move = some q) (k : q.move = some u) : u.move = none := by
  have idle {x : Preempt} (hs : x.state = .idle) (hw : x.wants = false) : x.move = none := by simp [idle_move hs, hw]
  have pending {x : Preempt} (hs : x.state = .pending) (hw : x.wants = true) : x.move = none :=
    (pending_move hs).resolve_right fun e => by simp [hw] at e
  cases hs : r.state with
  | idle =>
    rw [idle_move hs] at h
    split at h <;> cases h
    next hw =>
      have hw' : Preempt.wants { r with state := .delaying, delayTimer := r.cfg.delay } = true := hw
      rw [delaying_move rfl, if_pos hw'] at k
      split at k <;> cases k
      exact pending rfl hw
  | delaying =>
    rw [delaying_move hs] at h
    split at h
    · next hw =>
      split at h <;> cases h
      exact absurd k (by rw [pending (x := { r with state := .pending }) rfl hw]; simp)
    · next hw =>
      cases h
      have hw : r.wants = false := by simpa using hw
      exact absurd k (by rw [idle (x := { r with state := .idle, delayTimer := 0 }) rfl hw]; simp)
  | pending =>
    rcases pending_move hs with e | ⟨hw, e⟩
    · rw [e] at h; cases h
    · rw [e] at h
      cases h
      exact absurd k (by rw [idle (x := { r with state := .idle }) rfl hw]; simp)
  | exit => rw [exit_move hs h] at k; cases k
  | entry => simp [Preempt.move, hs] at h
  | track => simp [Preempt.move, hs] at h
  | dwell => simp [Preempt.move, hs] at h

/-- A request waits after two moves at most. -/
theorem move_restless {r q : Preempt} (h : r.move = some q) : q.restless < r.restless := by
  simp only [Preempt.restless, h]
  cases hq : q.move with
  | none => simp
  | some u => simp [move_move h hq]

/-- A green record whose reduction clock has not started counts one. -/
def Green.unclocked (g : Green) : Nat := if g.clock = none then 1 else 0

/-- How many clocks and requests a moment can still take. -/
def State.restless (s : State) : Nat :=
  (∑ c : Chan, (s.green c).unclocked) + ∑ p : Pre, (s.pre p).restless

theorem restless_le (s : State) : s.restless ≤ 24 := by
  have clocks : (∑ c : Chan, (s.green c).unclocked) ≤ ∑ _c : Chan, 1 :=
    Finset.sum_le_sum fun c _ => by unfold Green.unclocked; split <;> omega
  have moves : ∑ p : Pre, (s.pre p).restless ≤ ∑ _p : Pre, 2 :=
    Finset.sum_le_sum fun p _ => by unfold Preempt.restless; split <;> [omega; split <;> omega]
  simp only [Finset.sum_const, Finset.card_univ, Fintype.card_fin, smul_eq_mul] at clocks moves
  unfold State.restless
  omega

theorem restless_of_blocks {s t : State} (hg : t.greens = s.greens) (hp : t.pres = s.pres) : t.restless = s.restless := by
  simp only [State.restless, State.green, State.pre, hg, hp]

theorem clocks_restless {s t : State} (h : judgeClocks s = some t) : t.restless < s.restless := by
  obtain ⟨hn, rfl⟩ := judgeClocks_some h
  obtain ⟨c, hc⟩ : ∃ c, has s.clockStarts c = true := by
    by_contra hno
    exact hn (mask_eq_zero.mpr fun c => by simpa using fun h => hno ⟨c, h⟩)
  have green (x : Chan) := vmap_get (fun c g => if has s.clockStarts c then { g with clock := some 0 } else g) s.greens x
  refine Nat.add_lt_add_right (Finset.sum_lt_sum (fun x _ => ?_) ⟨c, Finset.mem_univ c, ?_⟩) _
  · simp only [State.green, green]
    split
    · simp [Green.unclocked]
    · exact le_refl _
  · simp only [State.green, green, hc, if_true]
    have idle : (s.greens.get c).clock = none := (clockStarts_iff hc).2.2.1
    simp [Green.unclocked, idle]

theorem requests_restless {s t : State} (h : judgeRequests s = some t) : t.restless < s.restless := by
  obtain ⟨p, r, hr, rfl⟩ := judgeRequests_some h
  refine Nat.add_lt_add_left (Finset.sum_lt_sum (fun q _ => ?_) ⟨p, Finset.mem_univ p, ?_⟩) _
  · rw [setPre_get]
    split
    · next e => rw [e]; exact (move_restless hr).le
    · exact le_refl _
  · rw [setPre_get, if_pos rfl]
    exact move_restless hr

/-- No clock starts and no request moves. -/
def State.calmRequests (s : State) : Prop := judgeClocks s = none ∧ judgeRequests s = none

theorem calmRequests_move {s : State} (h : s.calmRequests) (p : Pre) : (s.pre p).move = none := by
  have hr := h.2
  unfold judgeRequests at hr
  split at hr
  · next hf => simpa using List.find?_eq_none.mp hf p (List.mem_finRange p)
  · next q hq =>
    have some := List.find?_some hq
    split at hr
    · cases hr
    · next hn => simp [hn] at some

/-- What holds once the clocks and the requests of a moment have been taken, and is kept by every judgment, holds when the
moment is settled. -/
theorem settle_phases (P : State → Prop) (old new : State) (base : ∀ t, Requested new t → t.calmRequests → P t)
    (step : ∀ t u, judge t = some u → P t → P (noting t u)) : P (settle old new) := by
  have walk : ∀ n t, t.restless ≤ n → Requested new t → P (settleUpTo n t) := by
    intro n
    induction n with
    | zero =>
      intro t ht hr
      refine base t hr ⟨?_, ?_⟩
      · cases hc : judgeClocks t with
        | none => rfl
        | some u => exact absurd (clocks_restless hc) (by omega)
      · cases hc : judgeRequests t with
        | none => rfl
        | some u => exact absurd (requests_restless hc) (by omega)
    | succ n ih =>
      intro t ht hr
      have moved {u : State} (hu : Requested t u) (lt : u.restless < t.restless) : P (settleUpTo n (noting t u)) :=
        ih _ (by rw [restless_of_blocks (noting_greens t u) (noting_pres t u)]; omega)
          ((hr.trans hu).trans (noting_requested t u))
      cases hc : judgeClocks t with
      | some u =>
        have first : judge t = some u := by simp [judge, hc]
        rw [settleUpTo, first]
        exact moved (clocks_requested hc) (clocks_restless hc)
      | none =>
        cases hq : judgeRequests t with
        | some u =>
          have first : judge t = some u := by simp [judge, hc, hq]
          rw [settleUpTo, first]
          exact moved (requests_requested hq) (requests_restless hq)
        | none => exact settleUpTo_induction P step _ _ (base t hr ⟨hc, hq⟩)
  have fuel := restless_le (noting old new)
  obtain ⟨k, hk⟩ := Nat.exists_eq_add_of_le (show 24 ≤ Config.settleFuel by decide)
  have split : ∀ n m (t : State), settleUpTo (n + m) t = settleUpTo m (settleUpTo n t) := by
    intro n m
    induction n with
    | zero => intro t; rw [Nat.zero_add]; rfl
    | succ n ih =>
      intro t
      rw [Nat.add_right_comm]
      cases hj : judge t with
      | none => cases m <;> simp [settleUpTo, hj]
      | some u =>
        simp only [settleUpTo, hj]
        exact ih _
  rw [settle, hk, split]
  exact settleUpTo_induction P step _ _ (walk 24 _ fuel (noting_requested old new))

/-- What the noting of a change flags stays flagged. -/
theorem settle_noted (old new : State) : FlagsStay (noting old new) (settle old new) := by
  refine settle_induction (fun t => FlagsStay (noting old new) t) (fun t u hj ht i h => noting_flags t u i ?_) old new
    (fun _ h => h)
  rcases judge_calm hj with ⟨-, k, -⟩ | ⟨-, rfl⟩
  · rw [k]; exact ht i h
  · simpa [enterLocalFlash] using ht i h

theorem noting_preempt {old new : State} (h : preemptKey old ≠ preemptKey new) :
    has (noting old new).link.flags Report.preempt.index = true := by
  unfold noting
  refine flagIf_flags _ _ _ _ ?_
  rw [flagIf, if_pos (by simpa using h)]
  simp [flag_link]

/-! ### SET PREEMPT (R103, R105) -/

/-- Outside CONTROLLED a judgment only moves a request. -/
theorem PreStep.uncontrolled {s : State} {q : Pre} {v : Preempt} (h : PreStep s q v) (hm : s.unit.mode ≠ .controlled) :
    v = s.pre q ∨ (s.pre q).move = some v := by
  cases h
  case same => exact .inl rfl
  case request h => exact .inr h
  all_goals exact absurd ‹_› hm

/-- A preempt out of the slot that is not PENDING only has its request moved. -/
theorem PreStep.unserved {s : State} {q : Pre} {v : Preempt} (h : PreStep s q v) (hh : s.arb.holder ≠ some q)
    (hp : (s.pre q).state ≠ .pending) : v = s.pre q ∨ (s.pre q).move = some v := by
  cases h
  case same => exact .inl rfl
  case request h => exact .inr h
  case enters hb => exact absurd (bestPending_pending hb) hp
  all_goals exact absurd ‹_› hh

/-- A request that has come to wait, other than PENDING, waits through the moment. -/
theorem settle_waits {old new : State} {p : Pre} {v : Preempt} (hv : v.move = none) (hs : v.state ≠ .pending)
    (reach : ∀ t, Requested new t → (t.pre p).move = none → t.pre p = v) (hh : new.arb.holder ≠ some p) :
    (settle old new).pre p = v := by
  refine (settle_phases (fun t => t.pre p = v ∧ t.arb.holder ≠ some p) old new (fun t hr hc => ⟨?_, ?_⟩)
    fun t u hj ⟨e, k⟩ => ?_).1
  · exact reach t hr (calmRequests_move hc p)
  · rw [hr.frame]; exact hh
  · rw [pre_of_pres (noting_pres t u), noting_arb]
    obtain ⟨pre, hold⟩ := judge_pre hj
    refine ⟨?_, ?_⟩
    · rcases (pre p).unserved k (by rw [e]; exact hs) with h | h
      · rw [h, e]
      · rw [e, hv] at h; cases h
    · rcases hold with h | h | ⟨q, h, hb, -⟩
      · rw [h]; exact k
      · rw [h]; simp
      · rw [h]
        intro same
        cases same
        exact hs (by rw [← e]; exact bestPending_pending hb)

/-- The end of the moves of a request that cannot move. -/
theorem moves_none {r v : Preempt} (h : r.move = none) (k : Relation.ReflTransGen (fun r q => Preempt.move r = some q) r v) :
    v = r := by
  rcases Relation.ReflTransGen.cases_head k with e | ⟨q, hq, -⟩
  · exact e.symm
  · rw [h] at hq; cases hq

/-- The end of the moves of an IDLE request that is asked for (R105). -/
theorem moves_idle {r v : Preempt} (hi : r.state = .idle) (hw : r.wants = true) (hv : v.move = none)
    (k : Relation.ReflTransGen (fun r q => Preempt.move r = some q) r v) :
    v = { r with state := if r.cfg.delay = 0 then .pending else .delaying, delayTimer := r.cfg.delay } := by
  have first : r.move = some { r with state := .delaying, delayTimer := r.cfg.delay } := by rw [idle_move hi, if_pos hw]
  have wants : Preempt.wants { r with state := .delaying, delayTimer := r.cfg.delay } = true := hw
  have second := delaying_move (r := { r with state := .delaying, delayTimer := r.cfg.delay }) rfl
  rw [if_pos wants] at second
  rcases Relation.ReflTransGen.cases_head k with e | ⟨q, hq, k⟩
  · rw [← e, first] at hv; cases hv
  · rw [first] at hq
    cases hq
    by_cases zero : r.cfg.delay = 0
    · rw [if_pos zero] at second ⊢
      rcases Relation.ReflTransGen.cases_head k with e | ⟨q, hq, k⟩
      · rw [← e, second] at hv; cases hv
      · rw [second] at hq
        cases hq
        have wants' : Preempt.wants { r with state := .pending, delayTimer := r.cfg.delay } = true := hw
        exact moves_none ((pending_move rfl).resolve_right fun e => by rw [wants'] at e; cases e.1) k
    · rw [if_neg zero] at second ⊢
      exact moves_none second k

/-- A preempt that is wanted and PENDING, or in service towards its dwell. -/
def Preempt.Coming (r : Preempt) : Prop :=
  r.wants = true ∧ r.delayTimer = 0 ∧ r.state ∈ [.pending, .entry, .track, .dwell]

theorem Coming.kept {s : State} {q : Pre} {v : Preempt} (h : PreStep s q v) (hs : (s.pre q).Coming) : v.Coming := by
  obtain ⟨hw, ht, hm⟩ := hs
  have active : (s.pre q).active = true := (Bool.and_eq_true_iff.mp hw).2
  cases h
  case same => exact ⟨hw, ht, hm⟩
  case request h =>
    cases hs : (s.pre q).state <;> simp [hs] at hm
    · rcases pending_move hs with e | ⟨e, -⟩
      · rw [e] at h; cases h
      · rw [hw] at e; cases e
    all_goals simp [Preempt.move, hs] at h
  case enters => exact ⟨hw, ht, by simp⟩
  case putOut =>
    refine ⟨hw, ht, ?_⟩
    have stays : (s.pre q).putOut.state = .pending := by simp [Preempt.putOut, active]
    rw [stays]
    simp
  case clears => exact ⟨hw, ht, hm⟩
  case full =>
    unfold Preempt.atFullGreen
    split
    · split
      · exact ⟨hw, ht, by simp⟩
      · exact ⟨hw, ht, by simp⟩
    · exact ⟨hw, ht, hm⟩
    all_goals exact ⟨hw, ht, hm⟩
  case dwells => exact ⟨hw, ht, by simp⟩
  case passes ha _ => rw [active] at ha; cases ha
  case exits ha _ => rw [active] at ha; cases ha
  case returns he => simp [he] at hm

/-- A preempt put PENDING by a moment's requests is PENDING or in service at its end, and PENDING outside CONTROLLED. -/
theorem settle_coming {old new : State} {p : Pre} {v : Preempt} (hv : v.move = none) (hs : v.Coming) (hp : v.state = .pending)
    (reach : ∀ t, Requested new t → (t.pre p).move = none → t.pre p = v) : ((settle old new).pre p).Coming ∧
    (new.unit.mode ≠ .controlled → (settle old new).pre p = v) := by
  refine ⟨settle_phases (fun t => (t.pre p).Coming) old new (fun t hr hc => ?_) fun t u hj k => ?_, fun hm => ?_⟩
  · rw [reach t hr (calmRequests_move hc p)]
    exact hs
  · rw [pre_of_pres (noting_pres t u)]
    exact Coming.kept ((judge_pre hj).1 p) k
  · refine (settle_phases (fun t => t.pre p = v ∧ t.unit.mode ≠ .controlled) old new (fun t hr hc => ⟨?_, ?_⟩)
      fun t u hj ⟨e, k⟩ => ?_).1
    · exact reach t hr (calmRequests_move hc p)
    · rw [hr.frame]; exact hm
    · rw [pre_of_pres (noting_pres t u), noting_unit]
      refine ⟨?_, ?_⟩
      · rcases ((judge_pre hj).1 p).uncontrolled k with h | h
        · rw [h, e]
        · rw [e, hv] at h; cases h
      · rcases judge_calm hj with ⟨h, -⟩ | ⟨-, rfl⟩
        · rw [h]; exact k
        · simp [enterLocalFlash]

/-- The answer to an accepted SET PREEMPT (R103). -/
theorem setPreempt_answer (tag : Byte) {p : Pre} {locking pedTruncate enable : Bool} {k : ExitKind} {f : PreemptFields}
    {s : State} (hs : s.linkFree) (hn : f.number = u8 (p.val + 1)) (hl : f.locking = flagByte locking)
    (ht : f.pedTruncate = flagByte pedTruncate) (hk : f.exitKind = k.code) (he : f.enable = flagByte enable)
    (hp : f.priority.toNat ≤ 3) (hu : ∀ c, has f.trackSet c = true ∨ has f.dwellSet c = true → (s.chan c).used = true)
    (hst : (s.pre p).serving = false)
    (htr : ∀ i j, has f.trackSet i = true → has f.trackSet j = true → compatible s.compat.inUse i j = true)
    (hdw : ∀ i j, has f.dwellSet i = true → has f.dwellSet j = true → compatible s.compat.inUse i j = true) :
    exec (.setPreempt tag f) s = .next (answered
      (settle (heard s) ((heard s).setPre p ((s.pre p).reconfigured (storedPreempt f locking pedTruncate k enable))))
      ⟨0xB8#8, tag, clampResult (preemptClamped f (storedPreempt f locking pedTruncate k enable)) ::
        preemptConfigBytes p (storedPreempt f locking pedTruncate k enable)⟩) := by
  refine answers rfl ⟨rfl, rfl⟩ (by simp) hs ?_
  have known : ¬ (3 < f.priority.toNat ∨ (f.trackSet ||| f.dwellSet) &&& ~~~ s.usedMask ≠ 0) := by
    rw [not_or, not_not]
    exact ⟨by omega, within_used.mpr fun c hc => hu c (by simpa using hc)⟩
  have free : ¬ (s.pre p).serving = true := by simp [hst]
  have permitted : ¬ (pairwiseCompatible s.compat.inUse f.trackSet &&
      pairwiseCompatible s.compat.inUse f.dwellSet) = false := by
    rw [pairwiseCompatible_iff.mpr htr, pairwiseCompatible_iff.mpr hdw]
    simp
  simp only [serve, serveSetPreempt, hn, hl, ht, hk, he, indexOf_number (n := 4) (by decide), decodeFlag_flagByte,
    decodeExitKind_code, heard_usedMask, heard_pre, heard_compat, if_neg known, if_neg free, if_neg permitted]

/-- Settles O44. -/
theorem setPreempt : Obligations.SetPreempt := by
  intro tag p locking pedTruncate enable k f s hs hn hl ht hk he hp hu hst hh htr hdw
  let c := storedPreempt f locking pedTruncate k enable
  let new := (heard s).setPre p ((s.pre p).reconfigured c)
  have config : c = { priority := f.priority.toNat, delay := f.delay.toNat, locking := locking
                      minGreen := f.minGreen.toNat, pedTruncate := pedTruncate, pedClear := f.pedClear.toNat
                      trackSet := f.trackSet, trackTime := min 2550 f.trackTime.toNat, dwellSet := f.dwellSet
                      dwellMin := min 2550 (max 10 f.dwellMin.toNat), maxPresence := max 1 f.maxPresence.toNat
                      exitKind := k, enable := enable } := by
    simp only [c, storedPreempt, clampTo_eq (show 10 ≤ 2550 by omega)]
  have answer := setPreempt_answer tag hs hn hl ht hk he hp hu
    (by cases hx : (s.pre p).state <;> simp [hx] at hst <;> simp [Preempt.serving, hx]) htr hdw
  have pre : new.pre p = (s.pre p).reconfigured c := setPre_pre _ _ _
  have unheld : new.arb.holder ≠ some p := by
    change (heard s).arb.holder ≠ some p
    rw [heard_arb]; exact hh
  have kept := settle_keeps (heard s) new
  have levels := kept.levels p
  rw [pre] at levels
  obtain ⟨level, run, presence, stuck, cfg⟩ := levels
  have wants : (new.pre p).wants = (enable && (s.pre p).active) := by rw [pre]; rfl
  have idle : enable = false ∨ (s.pre p).active = false → (settle (heard s) new).pre p = (s.pre p).reconfigured c := by
    intro h
    have unwanted : (new.pre p).wants = false := by rw [wants]; rcases h with h | h <;> simp [h]
    have still : (new.pre p).move = none := by
      rw [idle_move (by rw [pre]; rfl), unwanted]
      rfl
    rw [← pre]
    exact settle_waits still (by rw [pre]; simp [Preempt.reconfigured]) (fun t hr _ => moves_none still (hr.pre p)) unheld
  have asked (h1 : enable = true) (h2 : (s.pre p).active = true) (t : State) (hr : Requested new t)
      (hm : (t.pre p).move = none) : t.pre p = { (s.pre p).reconfigured c with
        state := if f.delay.toNat = 0 then .pending else .delaying, delayTimer := f.delay.toNat } := by
    have e := moves_idle (by rw [pre]; rfl) (by rw [wants, h1, h2]; rfl) hm (hr.pre p)
    rw [pre] at e
    exact e
  have flags : FlagsStay (noting (heard s) new) (settle (heard s) new) := settle_noted _ _
  have delayed (h1 : enable = true) (h2 : (s.pre p).active = true) (h3 : 0 < f.delay.toNat) :
      (settle (heard s) new).pre p = { (s.pre p).reconfigured c with state := .delaying, delayTimer := f.delay.toNat } := by
    have positive : f.delay.toNat ≠ 0 := by omega
    simp only [if_neg positive] at asked
    refine settle_waits ?_ (by simp) (asked h1 h2) unheld
    have w : Preempt.wants { (s.pre p).reconfigured c with state := .delaying, delayTimer := f.delay.toNat } = true := by
      show (enable && (s.pre p).active) = true
      rw [h1, h2]
      rfl
    rw [delaying_move rfl, if_pos w, if_neg positive]
  have coming (h1 : enable = true) (h2 : (s.pre p).active = true) (h3 : f.delay = 0) :
      ((settle (heard s) new).pre p).Coming ∧ (s.unit.mode ≠ .controlled → ((settle (heard s) new).pre p).state = .pending) := by
    have zero : f.delay.toNat = 0 := by rw [h3]; rfl
    simp only [zero, if_true] at asked
    have w : Preempt.wants { (s.pre p).reconfigured c with state := .pending, delayTimer := 0 } = true := by
      show (enable && (s.pre p).active) = true
      rw [h1, h2]
      rfl
    have still : Preempt.move { (s.pre p).reconfigured c with state := .pending, delayTimer := 0 } = none :=
      (pending_move rfl).resolve_right fun e => by rw [w] at e; cases e.1
    obtain ⟨come, waits⟩ := settle_coming (old := heard s) still ⟨w, rfl, by simp⟩ rfl (asked h1 h2)
    refine ⟨come, fun hm => ?_⟩
    rw [waits (by change (heard s).unit.mode ≠ _; rw [heard_unit]; exact hm)]
  have flagged (h : enable ≠ (s.pre p).cfg.enable ∨ (s.pre p).state ∈ [.delaying, .pending]) :
      has (settle (heard s) new).link.flags Report.preempt.index = true := by
    refine flags _ (noting_preempt fun same => ?_)
    have lists := congrArg Prod.fst same
    simp only [preemptKey] at lists
    have at_p := List.map_inj_left.mp lists p (List.mem_finRange p)
    have keys : ((s.pre p).state, (s.pre p).cfg.enable) = (PreemptState.idle, enable) := by
      have own : (new.pres.get p).state = .idle ∧ (new.pres.get p).cfg.enable = enable := by
        change (new.pre p).state = _ ∧ (new.pre p).cfg.enable = _
        rw [pre]
        exact ⟨rfl, rfl⟩
      simp only [Prod.mk.injEq] at at_p ⊢
      rw [heard_pres] at at_p
      exact ⟨at_p.1.trans own.1, at_p.2.2.1.trans own.2⟩
    simp only [Prod.mk.injEq] at keys
    rcases h with h | h
    · exact h keys.2.symm
    · simp [keys.1] at h
  have result : clampResult (preemptClamped f c) = if c.trackTime = f.trackTime.toNat ∧ c.dwellMin = f.dwellMin.toNat ∧
      c.maxPresence = f.maxPresence.toNat then 0 else 1 := clampResult_if (by simp [preemptClamped, and_assoc])
  have bytes : preemptConfigBytes p c = [f.number, f.priority, f.delay, f.locking, f.minGreen, f.pedTruncate, f.pedClear] ++
      wordBytes f.trackSet ++ u16 c.trackTime ++ wordBytes f.dwellSet ++ u16 c.dwellMin ++
      [u8 c.maxPresence, f.exitKind, f.enable] := by
    have byte (b : Byte) : u8 b.toNat = b := BitVec.eq_of_toNat_eq (by simp [u8])
    simp only [preemptConfigBytes, c, storedPreempt, byte, hn, hl, ht, hk, he]
    rfl
  rw [show storedPreempt f locking pedTruncate k enable = c from rfl, result, bytes] at answer
  generalize settle (heard s) new = u at *
  refine ⟨_, answer, cfg.trans config, level, run, presence, stuck, fun h => ?_, fun h1 h2 h3 => ?_, fun h1 h2 h3 => ?_,
    fun q hq => ?_, flagged, ?_⟩
  · exact ⟨congrArg Preempt.state (idle h), congrArg Preempt.delayTimer (idle h)⟩
  · exact ⟨congrArg Preempt.state (delayed h1 h2 h3), congrArg Preempt.delayTimer (delayed h1 h2 h3)⟩
  · obtain ⟨⟨-, zero, states⟩, pending⟩ := coming h1 h2 h3
    refine ⟨zero, fun h => ?_, pending⟩
    have e : (u.pre p).state ∈ [PreemptState.idle, .delaying] := h
    cases hx : (u.pre p).state <;> simp [hx] at e states
  · refine (kept.levels q).2.2.2.2.trans (congrArg Preempt.cfg ?_)
    exact (setPre_get _ _ _ _).trans ((if_neg hq).trans (heard_pre s q))
  · rw [← config]
    rfl

end Sys2Proof.Machine

/-! PROOFS. ENTER CONTROL, ENTER FLASH and RESET FAULT (O45). -/

namespace Sys2Proof.Machine

/-! ### A settling outside CONTROLLED (log entry 6) -/

/-- Where the unit mode judges nothing of its own, a settling only starts clocks and moves requests. -/
theorem settle_requested {old new : State} (h1 : new.unit.mode ≠ .controlled) (h2 : new.unit.mode ≠ .clearingToFlash) :
    Requested new (settle old new) := by
  refine settle_induction (fun t => Requested new t) (fun t u hj ht => ?_) old new (noting_requested old new)
  have unit : t.unit = new.unit := by rw [ht.frame]
  refine (ht.trans ?_).trans (noting_requested t u)
  rcases judge_cases hj with h | h | ⟨hm, -⟩ | ⟨hm, -⟩
  · exact clocks_requested h
  · exact requests_requested h
  · rw [unit] at hm; exact absurd hm h1
  · rw [unit] at hm; exact absurd hm h2

theorem Requested.blocks {s t : State} (h : Requested s t) : t.chans = s.chans ∧ t.lamps = s.lamps ∧
    t.compat = s.compat ∧ t.seq = s.seq ∧ t.dets = s.dets ∧ t.arb = s.arb ∧ t.mon = s.mon ∧ t.unit = s.unit ∧
    t.time = s.time ∧ t.tones = s.tones ∧ t.signs = s.signs := by
  rw [h.frame]
  exact ⟨rfl, rfl, rfl, rfl, rfl, rfl, rfl, rfl, rfl, rfl, rfl⟩

/-- In CLEARING_TO_FLASH no step becomes current and the slot stays free (R58, R114). -/
theorem settle_clearing {old new : State} (hm : new.unit.mode = .clearingToFlash) (hc : new.seq.current = false)
    (hh : new.arb.holder = none) : (settle old new).seq.current = false ∧ (settle old new).arb.holder = none := by
  have all : (settle old new).seq.current = false ∧ (settle old new).arb.holder = none ∧
      (settle old new).unit.mode ≠ .controlled := by
    refine settle_induction (fun t => t.seq.current = false ∧ t.arb.holder = none ∧ t.unit.mode ≠ .controlled)
      (fun t u hj ⟨k1, k2, k3⟩ => ?_) old new (by simp [hm, hc, hh])
    rw [noting_seq, noting_arb, noting_unit]
    rcases judge_cases hj with h | h | ⟨hm, -⟩ | ⟨-, h⟩
    · have b := (clocks_requested h).blocks
      rw [b.2.2.2.1, b.2.2.2.2.2.1, b.2.2.2.2.2.2.2.1]
      exact ⟨k1, k2, k3⟩
    · have b := (requests_requested h).blocks
      rw [b.2.2.2.1, b.2.2.2.2.2.1, b.2.2.2.2.2.2.2.1]
      exact ⟨k1, k2, k3⟩
    · exact absurd hm k3
    · obtain ⟨-, rfl⟩ | ⟨-, rfl⟩ := judgeClearing_some h
      · have touched := terminateAll_touches t.runOut t
        refine ⟨?_, by rw [touched.calm.2.2.2.2.1]; exact k2, by rw [touched.calm.1]; exact k3⟩
        rw [touched.seq]
        exact k1
      · exact ⟨by simpa [enterLocalFlash] using k1, by simpa [enterLocalFlash] using k2, by simp [enterLocalFlash]⟩
  exact ⟨all.1, all.2.1⟩

theorem noting_mode {old new : State} (h : modeKey old ≠ modeKey new) :
    has (noting old new).link.flags Report.mode.index = true := by
  unfold noting
  rw [flagIf, if_pos (by simpa using h)]
  simp [flag_link]

/-! ### ENTER CONTROL (R140, Table 8-2) -/

/-- Bit `k` of eight flags put together in one byte. -/
theorem eight_flags (b : Fin 8 → Bool) (k : Fin 8) : (flagByte (b 0) ||| (flagByte (b 1) <<< 1) ||| (flagByte (b 2) <<< 2) |||
    (flagByte (b 3) <<< 3) ||| (flagByte (b 4) <<< 4) ||| (flagByte (b 5) <<< 5) ||| (flagByte (b 6) <<< 6) |||
    (flagByte (b 7) <<< 7) : Byte).getLsbD k.val = b k := by
  have bit (x : Bool) (i : Nat) : (flagByte x).getLsbD i = (x && decide (i = 0)) := by
    cases x
    · simp [flagByte]
    · rcases i with - | i <;> simp [flagByte]
  simp only [BitVec.getLsbD_or, BitVec.getLsbD_shiftLeft, bit]
  fin_cases k <;> simp

/-- The reasons of Table 8-2, bit by bit. -/
def State.reason (s : State) (k : Fin 8) : Prop :=
  if k = 0 then s.unit.mode = .startFlash ∧ 0 < s.unit.startFlashTimer
  else if k = 1 then s.compat.status ≠ .valid
  else if k = 2 then s.compat.isMatch = false
  else if k = 3 then s.seq.queue = []
  else if k = 4 then s.unit.switchLevel = true
  else if k = 5 then s.time.category ≠ .normal ∧ s.time.category ≠ .high
  else if k = 6 then ∀ c, (s.chan c).used = false
  else ∃ o, (s.chan (outputChan o)).used = true ∧ (s.mon.lamps.get o).status = .switchOn

theorem unused_iff {s : State} : s.usedMask = 0 ↔ ∀ c, (s.chan c).used = false := by
  rw [mask_eq_zero]
  simp [State.usedMask]

theorem reasons_bit (s : State) (k : Fin 8) : s.reasons.getLsbD k.val = true ↔ s.reason k := by
  rw [show s.reasons = _ from rfl, State.reasons]
  rw [eight_flags (fun k => match k with
    | 0 => s.unit.mode == .startFlash && 0 < s.unit.startFlashTimer
    | 1 => s.compat.status != .valid
    | 2 => !s.compat.isMatch
    | 3 => s.seq.queue.isEmpty
    | 4 => s.unit.switchLevel
    | 5 => s.time.category != .normal && s.time.category != .high
    | 6 => s.usedMask == 0
    | 7 => s.switchedOn) k]
  fin_cases k
  all_goals simp [State.reason, State.switchedOn]
  exact unused_iff

theorem heard_reasons (s : State) : (heard s).reasons = s.reasons := by
  obtain ⟨m, e⟩ := heard_cases s
  rw [e]
  rfl

theorem reasons_zero {s : State} : s.reasons = 0 ↔ ∀ k, ¬ s.reason k := by
  rw [mask_eq_zero]
  refine forall_congr' fun k => ?_
  rw [← reasons_bit, Bool.not_eq_true]
  rfl

/-- The reasons of the obligation's words, on the state the command finds. -/
theorem heard_reason (s : State) (k : Fin 8) : (heard s).reason k ↔ s.reason k := by
  rw [← reasons_bit, ← reasons_bit, heard_reasons]

section
variable {tag : Byte} {s : State}

/-- An accepted ENTER CONTROL (R140). -/
theorem enterControl_enters (hs : s.linkFree) (hm : s.unit.mode = .startFlash ∨ s.unit.mode = .localFlash)
    (hr : ∀ k, ¬ s.reason k) : ∃ t, exec (.enterControl tag) s = .next t ∧ t.unit.mode = .entryRed ∧ t.unit.ftr = true ∧
      t.unit.cause = .none ∧ t.unit.entryRedTimer = s.unit.entryRedTime ∧
      (∀ c, (t.chan c).timer = 0 ∧ (t.chan c).ind = if (s.chan c).used then .red else .dark) ∧
      has t.link.flags Report.mode.index = true ∧ t.link.sending = some ⟨0xC8#8, tag, [0, 0]⟩ := by
  let new := enterEntryRed (heard s)
  have answer : exec (.enterControl tag) s = .next (answered (settle (heard s) new) ⟨0xC8#8, tag, [0, 0]⟩) := by
    refine answers rfl ⟨rfl, rfl⟩ (by simp) hs ?_
    have accepted : (heard s).unit.mode = .startFlash ∨ (heard s).unit.mode = .localFlash := by simpa using hm
    have none : (heard s).reasons = 0 := by rw [heard_reasons]; exact reasons_zero.mpr hr
    simp only [serve, serveEnterControl, if_pos accepted, if_pos none]
    rfl
  have unit : new.unit = { s.unit with
      mode := .entryRed, ftr := true, cause := .none, owedLinkLoss := false, entryRedTimer := s.unit.entryRedTime } := by
    simp only [new, enterEntryRed, changeMode_unit]
    simp [setCause, Mode.relay]
  have chan (c : Chan) : (new.chan c).timer = 0 ∧ (new.chan c).ind = if (s.chan c).used then .red else .dark := by
    have e : new.chan c = _ := changeMode_chan .entryRed _ c
    simp only [Mode.copiesTiming, Bool.false_eq_true, if_false] at e
    have f : new.chan c = ((heard s).chan c).force _ := e.trans (forceAll_chan .red .red (setCause .none (heard s)) c)
    rw [f, heard_chan]
    refine ⟨rfl, ?_⟩
    have kind : ((setCause .none (heard s)).chan c).kind = (s.chan c).kind := congrArg Channel.kind (heard_chan s c)
    rw [kind]
    cases hk : (s.chan c).kind <;> simp [Channel.force, Channel.used, hk]
  have req : Requested new (settle (heard s) new) := settle_requested (by rw [unit]; simp) (by rw [unit]; simp)
  have flags := settle_noted (heard s) new
  have noted : has (noting (heard s) new).link.flags Report.mode.index = true := by
    refine noting_mode fun same => ?_
    have modes : (heard s).unit.mode = new.unit.mode := congrArg Prod.fst same
    rw [unit, heard_unit] at modes
    rcases hm with h | h <;> simp [h] at modes
  generalize settle (heard s) new = u at *
  obtain ⟨chans, -, -, -, -, -, -, units, -⟩ := req.blocks
  refine ⟨_, answer, ?_, ?_, ?_, ?_, fun c => ?_, flags _ noted, rfl⟩
  · exact congrArg UnitState.mode (units.trans unit)
  · exact congrArg UnitState.ftr (units.trans unit)
  · exact congrArg UnitState.cause (units.trans unit)
  · exact congrArg UnitState.entryRedTimer (units.trans unit)
  · have e : (answered u ⟨0xC8#8, tag, [0, 0]⟩).chan c = new.chan c := congrArg (fun v => v.get c) chans
    rw [e]
    exact chan c

/-- A refused ENTER CONTROL (R140). -/
theorem enterControl_refused (hs : s.linkFree) :
    ((s.unit.mode = .startFlash ∨ s.unit.mode = .localFlash) → (∃ k, s.reason k) →
      exec (.enterControl tag) s = .next (answered (heard s) ⟨0xC8#8, tag, [8, s.reasons]⟩)) ∧
    (s.unit.mode ≠ .startFlash → s.unit.mode ≠ .localFlash →
      exec (.enterControl tag) s = .next (answered (heard s) ⟨0xC8#8, tag, [5, 0]⟩)) := by
  refine ⟨fun hm ⟨k, hk⟩ => answers rfl ⟨rfl, rfl⟩ (by simp) hs ?_, fun h1 h2 => answers rfl ⟨rfl, rfl⟩ (by simp) hs ?_⟩
  · have accepted : (heard s).unit.mode = .startFlash ∨ (heard s).unit.mode = .localFlash := by simpa using hm
    have some : ¬ s.reasons = 0 := fun h => reasons_zero.mp h k hk
    simp only [serve, serveEnterControl, if_pos accepted, heard_reasons, if_neg some]
    rfl
  · have refused : ¬ ((heard s).unit.mode = .startFlash ∨ (heard s).unit.mode = .localFlash) := by simp [h1, h2]
    simp only [serve, serveEnterControl, if_neg refused]
    rfl

/-! ### ENTER FLASH (R142, R143) -/

/-- ENTER FLASH begins the orderly flash (R143). -/
theorem enterFlash_clears (hs : s.linkFree) (hm : s.unit.mode = .entryRed ∨ s.unit.mode = .controlled) :
    ∃ t, exec (.enterFlash tag) s = .next t ∧ t.unit.cause = .host ∧ t.unit.ftr = true ∧
      (t.unit.mode = .clearingToFlash ∨ t.unit.mode = .localFlash) ∧ t.seq.current = false ∧ t.arb.holder = none ∧
      t.link.sending = some ⟨0xC9#8, tag, [0, 0]⟩ := by
  let new := enterClearing .host (heard s)
  have answer : exec (.enterFlash tag) s = .next (answered (settle (heard s) new) ⟨0xC9#8, tag, [0, 0]⟩) := by
    refine answers rfl ⟨rfl, rfl⟩ (by simp) hs ?_
    rcases hm with hm | hm
    all_goals
      have heard_mode : (heard s).unit.mode = s.unit.mode := by simp
      simp only [serve, serveEnterFlash, heard_mode, hm]
      rfl
  obtain ⟨-, -, -, -, unit, -⟩ := enterClearing_view .host (heard s)
  have stopped : new.seq.current = false := by
    simp only [new, enterClearing, changeMode_seq]
    simp only [setCause, leaveService]
    split <;> rfl
  have left : new.arb.holder = none := by
    simp only [new, enterClearing, changeMode_arb]
    rfl
  have mode : new.unit.mode = .clearingToFlash := congrArg UnitState.mode unit
  obtain ⟨idle, free⟩ := settle_clearing (old := heard s) mode stopped left
  have ends := settle_unit (heard s) new
  rw [show new.unit = _ from unit] at ends
  generalize settle (heard s) new = u at *
  rcases ends with e | ⟨-, e⟩
  all_goals
    refine ⟨_, answer, ?_, ?_, ?_, idle, free, rfl⟩
    · exact congrArg UnitState.cause e
    · exact congrArg UnitState.ftr e
  · exact .inl (congrArg UnitState.mode e)
  · exact .inr (congrArg UnitState.mode e)

/-- ENTER FLASH from START_FLASH (R142). -/
theorem enterFlash_flashes (hs : s.linkFree) (hm : s.unit.mode = .startFlash) (hu : ∃ c, (s.chan c).used = true) :
    ∃ t, exec (.enterFlash tag) s = .next t ∧ t.unit.mode = .localFlash ∧ t.unit.cause = .host ∧ t.unit.ftr = true ∧
      (∀ c, (t.chan c).timer = 0 ∧ (t.chan c).ind = if (s.chan c).kind = .vehicle then .flash else .dark) ∧
      t.unit.startFlashTimer = s.unit.startFlashTimer ∧ t.link.sending = some ⟨0xC9#8, tag, [0, 0]⟩ := by
  let new := enterLocalFlash (setCause .host (heard s))
  have answer : exec (.enterFlash tag) s = .next (answered (settle (heard s) new) ⟨0xC9#8, tag, [0, 0]⟩) := by
    refine answers rfl ⟨rfl, rfl⟩ (by simp) hs ?_
    have heard_mode : (heard s).unit.mode = .startFlash := by simp [hm]
    have used : ¬ (heard s).usedMask = 0 := by
      rw [heard_usedMask, unused_iff]
      obtain ⟨c, hc⟩ := hu
      exact fun h => by simp [h c] at hc
    simp only [serve, serveEnterFlash, heard_mode, if_neg used]
    rfl
  have unit : new.unit = { s.unit with mode := .localFlash, ftr := true, cause := .host, owedLinkLoss := false } := by
    simp only [new, enterLocalFlash, changeMode_unit]
    simp [setCause, Mode.relay]
  have chan (c : Chan) : (new.chan c).timer = 0 ∧ (new.chan c).ind = if (s.chan c).kind = .vehicle then .flash else .dark := by
    have e : new.chan c = _ := changeMode_chan .localFlash _ c
    rw [forceAll_chan] at e
    have kind : ((setCause .host (heard s)).chan c).kind = (s.chan c).kind := congrArg Channel.kind (heard_chan s c)
    rw [kind] at e
    rw [e]
    cases hk : (s.chan c).kind <;> exact ⟨rfl, rfl⟩
  have req : Requested new (settle (heard s) new) := settle_requested (by rw [unit]; simp) (by rw [unit]; simp)
  generalize settle (heard s) new = u at *
  obtain ⟨chans, -, -, -, -, -, -, units, -⟩ := req.blocks
  refine ⟨_, answer, ?_, ?_, ?_, fun c => ?_, ?_, rfl⟩
  · exact congrArg UnitState.mode (units.trans unit)
  · exact congrArg UnitState.cause (units.trans unit)
  · exact congrArg UnitState.ftr (units.trans unit)
  · have e : (answered u ⟨0xC9#8, tag, [0, 0]⟩).chan c = new.chan c := congrArg (fun v => v.get c) chans
    rw [e]
    exact chan c
  · exact (congrArg UnitState.startFlashTimer units).trans (by rw [unit])

/-- ENTER FLASH where nothing is left to do, or refused (R142). -/
theorem enterFlash_answers (hs : s.linkFree) :
    ((s.unit.mode = .clearingToFlash ∨ s.unit.mode = .localFlash) →
      exec (.enterFlash tag) s = .next (answered (heard s) ⟨0xC9#8, tag, [0, 0]⟩)) ∧
    (s.unit.mode = .startFlash → (∀ c, (s.chan c).used = false) →
      exec (.enterFlash tag) s = .next (answered (heard s) ⟨0xC9#8, tag, [8, 0x40#8]⟩)) ∧
    ((s.unit.mode = .faultFlash ∨ s.unit.mode = .powerOut) →
      exec (.enterFlash tag) s = .next (answered (heard s) ⟨0xC9#8, tag, [5, 0]⟩)) := by
  have heard_mode : (heard s).unit.mode = s.unit.mode := by simp
  refine ⟨fun hm => answers rfl ⟨rfl, rfl⟩ (by simp) hs ?_, fun hm hu => answers rfl ⟨rfl, rfl⟩ (by simp) hs ?_,
    fun hm => answers rfl ⟨rfl, rfl⟩ (by simp) hs ?_⟩
  · rcases hm with hm | hm
    all_goals
      simp only [serve, serveEnterFlash, heard_mode, hm]
      rfl
  · have none : (heard s).usedMask = 0 := by rw [heard_usedMask]; exact unused_iff.mpr hu
    simp only [serve, serveEnterFlash, heard_mode, hm, if_pos none]
    rfl
  · rcases hm with hm | hm
    all_goals
      simp only [serve, serveEnterFlash, heard_mode, hm]
      rfl

/-! ### RESET FAULT (R146, R149) -/

/-- What a restart leaves of the blocks that the host configures (R149). -/
theorem restart_blocks (s : State) : (restart s).compat = { s.compat with owed := none } ∧ (restart s).time = s.time ∧
    (restart s).dets = s.dets ∧ (restart s).lamps.drives = 0 ∧ (restart s).mon.record = s.mon.record ∧
    (restart s).mon.awaiting = s.mon.awaiting ∧ (restart s).seq.queue = s.seq.queue ∧
    (restart s).seq.nextSerial = s.seq.nextSerial ∧ (restart s).seq.position = 0 ∧ (restart s).seq.current = false ∧
    (restart s).seq.hold = false := by
  rw [restart_eq]
  simp only [changeMode_compat, changeMode_time, changeMode_dets, changeMode_lamps, changeMode_mon, changeMode_seq]
  refine ⟨?_, ?_, ?_, ?_, ?_, ?_, ?_, ?_, ?_, ?_, ?_⟩
  all_goals simp [cleared, stopPreempts, stopAtHead, stopExecution, stopStep, restartGreens, drivesOff, dropHeld, Monitor.atMode,
      Monitor.restarted]

/-- Each channel after a restart (R149, R3). -/
theorem restart_chan (s : State) (c : Chan) : ((restart s).chan c).ind = .dark ∧ ((restart s).chan c).held = none ∧
    ((restart s).chan c).timer = 0 ∧ ((restart s).chan c).pendingSet = (s.chan c).pendingSet ∧
    ((restart s).chan c).activeSet = (s.chan c).pendingSet ∧ (restart s).green c =
      { Green.reset with latch := (s.chan c).used } := by
  have chan : (restart s).chan c = { (cleared s).chan c with activeSet := ((cleared s).chan c).pendingSet } := by
    rw [restart_eq, changeMode_chan]
    rfl
  have e : (cleared s).chan c = (drivesOff (dropHeld (forceAll .dark .dark s))).chan c := rfl
  have own : (drivesOff (dropHeld (forceAll .dark .dark s))).chan c =
      { (forceAll .dark .dark s).chan c with held := none, staged := Pattern.dark, applied := Pattern.dark } := by
    simp only [drivesOff, dropHeld, State.chan, vmap_get]
  rw [chan, e, own, forceAll_chan]
  refine ⟨?_, rfl, rfl, rfl, rfl, ?_⟩
  · cases hk : (s.chan c).kind <;> rfl
  · have g : (restart s).green c = (restartGreens (drivesOff (dropHeld (forceAll .dark .dark s)))).green c := by
      rw [restart_eq, State.green, changeMode_greens]
      rfl
    rw [g, restartGreens, State.green, vmap_get, own, forceAll_chan]
    rfl

/-- An accepted RESET FAULT (R146). -/
theorem resetFault_restarts (hs : s.linkFree) (hm : s.unit.mode = .faultFlash) (hv : s.compat.status = .valid) :
    ∃ t, exec (.resetFault tag) s = .next t ∧ t.unit.mode = .startFlash ∧ t.unit.ftr = false ∧
        t.mon.record = none ∧ (s.mon.record ≠ none → has t.link.flags Report.fault.index = true) ∧
        t.unit.startFlashTimer = s.unit.startFlashTime ∧ t.unit.cause = .none ∧ t.compat.owed = none ∧
        t.seq.queue = s.seq.queue ∧ t.seq.nextSerial = s.seq.nextSerial ∧ t.seq.position = 0 ∧
        t.seq.current = false ∧ t.seq.hold = false ∧ t.lamps.drives = 0 ∧ t.time = s.time ∧ t.dets = s.dets ∧
        t.mon.awaiting = s.mon.awaiting ∧
        (∀ c, (t.chan c).ind = .dark ∧ (t.chan c).held = none ∧ (t.chan c).timer = 0 ∧
          (t.chan c).pendingSet = (s.chan c).pendingSet ∧ (t.chan c).activeSet = (s.chan c).pendingSet) ∧
        (∀ c, (t.green c).latch = (s.chan c).used ∧ (t.green c).actCount = 0) ∧
        t.link.sending = some ⟨0xCA#8, tag, [0, 0]⟩ := by
  let emptied := emptyRecord (heard s)
  have answer : exec (.resetFault tag) s = .next (answered (settle (heard s) (restart emptied)) ⟨0xCA#8, tag, [0, 0]⟩) := by
    refine answers rfl ⟨rfl, rfl⟩ (by simp) hs ?_
    have fault : (heard s).unit.mode = .faultFlash := by simp [hm]
    have valid : (heard s).compat.status = .valid := by simp [hv]
    simp only [serve, serveResetFault, if_pos fault, if_pos valid]
    rfl
  obtain ⟨m, form, flagged⟩ := flagIf_marks (heard s).mon.record.isSome .fault
    { heard s with mon := { (heard s).mon with record := none } }
  have form : emptied = { heard s with
      mon := { (heard s).mon with record := none }, link := { (heard s).link with flags := m } } := form
  have unit := restart_unit emptied
  have req : Requested (restart emptied) (settle (heard s) (restart emptied)) :=
    settle_requested (by rw [unit]; simp) (by rw [unit]; simp)
  obtain ⟨compat, time, dets, drives, record, awaiting, queue, serial, position, current, hold⟩ := restart_blocks emptied
  have chan (c : Chan) : emptied.chan c = s.chan c :=
    calc emptied.chan c = (heard s).chan c := by rw [form]; rfl
      _ = s.chan c := heard_chan s c
  have link := restart_link emptied
  generalize settle (heard s) (restart emptied) = u at *
  obtain ⟨chans, lamps, compats, seqs, detss, -, mons, units, times, -⟩ := req.blocks
  refine ⟨_, answer, congrArg UnitState.mode (units.trans unit), congrArg UnitState.ftr (units.trans unit), ?_, fun h => ?_,
    ?_, congrArg UnitState.cause (units.trans unit), congrArg Compat.owed (compats.trans compat), ?_, ?_,
    (congrArg Sequencer.position seqs).trans position, (congrArg Sequencer.current seqs).trans current,
    (congrArg Sequencer.hold seqs).trans hold, (congrArg Lamps.drives lamps).trans drives, ?_, ?_, ?_, fun c => ?_,
    fun c => ?_, rfl⟩
  · refine ((congrArg Monitor.record mons).trans record).trans ?_
    rw [form]
  · refine req.flags _ ?_
    rw [link, form]
    exact flagged (by rw [heard_mon]; simpa [Option.isSome_iff_ne_none] using h)
  · refine (congrArg UnitState.startFlashTimer (units.trans unit)).trans ?_
    rw [form, heard_unit]
  · refine ((congrArg Sequencer.queue seqs).trans queue).trans ?_
    rw [form, heard_seq]
  · refine ((congrArg Sequencer.nextSerial seqs).trans serial).trans ?_
    rw [form, heard_seq]
  · refine (times.trans time).trans ?_
    rw [form, heard_time]
  · refine (detss.trans dets).trans ?_
    rw [form, heard_dets]
  · refine ((congrArg Monitor.awaiting mons).trans awaiting).trans ?_
    rw [form, heard_mon]
  · have e : (answered u ⟨0xCA#8, tag, [0, 0]⟩).chan c = (restart emptied).chan c := congrArg (fun v => v.get c) chans
    obtain ⟨h1, h2, h3, h4, h5, -⟩ := restart_chan emptied c
    rw [e, ← chan c]
    exact ⟨h1, h2, h3, h4, h5⟩
  · obtain ⟨-, -, -, -, -, green⟩ := restart_chan emptied c
    rw [chan] at green
    have e : (answered u ⟨0xCA#8, tag, [0, 0]⟩).green c = u.green c := rfl
    rw [e]
    rcases req.green c with g | ⟨g, -⟩
    all_goals
      rw [g, green]
      exact ⟨rfl, rfl⟩

/-- A refused RESET FAULT (R146). -/
theorem resetFault_refused (hs : s.linkFree) :
    (s.unit.mode = .faultFlash → s.compat.status ≠ .valid →
      exec (.resetFault tag) s = .next (answered (heard s) ⟨0xCA#8, tag, [8, 2]⟩)) ∧
    (s.unit.mode ≠ .faultFlash → exec (.resetFault tag) s = .next (answered (heard s) ⟨0xCA#8, tag, [5, 0]⟩)) := by
  refine ⟨fun hm hv => answers rfl ⟨rfl, rfl⟩ (by simp) hs ?_, fun hm => answers rfl ⟨rfl, rfl⟩ (by simp) hs ?_⟩
  · have fault : (heard s).unit.mode = .faultFlash := by simp [hm]
    have invalid : ¬ (heard s).compat.status = .valid := by simp [hv]
    simp only [serve, serveResetFault, if_pos fault, if_neg invalid]
    rfl
  · have other : ¬ (heard s).unit.mode = .faultFlash := by simp [hm]
    simp only [serve, serveResetFault, if_neg other]
    rfl

end

/-- Settles O45. -/
theorem modeCommands : Obligations.ModeCommands := by
  intro tag s hs
  obtain ⟨reasons, wrong⟩ := enterControl_refused (tag := tag) hs
  obtain ⟨done, empty, out⟩ := enterFlash_answers (tag := tag) hs
  obtain ⟨invalid, other⟩ := resetFault_refused (tag := tag) hs
  exact ⟨enterControl_enters hs, fun hm hk => ⟨s.reasons, reasons hm hk, reasons_bit s⟩, wrong, enterFlash_clears hs, done,
    enterFlash_flashes hs, empty, out, resetFault_restarts hs, invalid, other⟩

end Sys2Proof.Machine

/-! PROOFS. The channel configuration a host sets (O38). -/

namespace Sys2Proof.Machine

/-! ### SET CHANNEL (R2, R3, R17, R18) -/

/-- A channel that is not used takes no call latch from the departure of its indication (R62). -/
theorem enter_latch_unused {c : Chan} {s : State} (h : (s.chan c).used = false) (i : Indication) :
    ((enter c i s).green c).latch = (s.green c).latch := by
  have used (u : State) (hu : u.chans = (s.setChan c { s.chan c with ind := i, staged := patternOf (s.chan c) i }).chans) :
      (u.chan c).used = false := by
    have e : u.chan c = { s.chan c with ind := i, staged := patternOf (s.chan c) i } :=
      (congrArg (fun v => v.get c) hu).trans (vset_get_same _ _ _)
    rw [e]
    exact h
  have sig (u : State) : (signsFollow c u).chans = u.chans ∧ (signsFollow c u).greens = u.greens := by
    unfold signsFollow
    split <;> exact ⟨rfl, rfl⟩
  unfold enter
  simp only
  split
  · unfold leaveGreen handLocking
    simp only [requestLatches_green]
    split
    · next hk =>
      obtain ⟨-, hu, -⟩ := hk
      exact absurd (hu.symm.trans (used _ (sig _).1)) (by decide)
    · simp only [State.green, State.setGreen, vset_get_same, (sig _).2]
      rfl
  · exact congrArg (fun v => (v.get c).latch) (sig _).2

/-- The indication of a changed type (R18): every channel but the one named is as it was. -/
theorem showType_other {c j : Chan} (k : ChannelType) (s : State) (h : j ≠ c) : (showType c k s).chan j = s.chan j := by
  have loaded : (loadTimer c 0 s).chan j = s.chan j := setChan_chan_other s _ h
  unfold showType
  simp only
  split
  · exact (setChan_chan_other _ _ h).trans loaded
  · split
    · exact loaded
    · rw [enter_chan, if_neg h]
      exact loaded

theorem showType_chan (c : Chan) (k : ChannelType) (s : State) : ∃ x, (showType c k s).chan c =
    if s.unit.mode = .powerOut then
      { s.chan c with timer := 0, held := if k = .unused then none else some (typeIndication s.standingMode k) }
    else { s.chan c with timer := 0, ind := typeIndication s.standingMode k, staged := x } := by
  have loaded : (loadTimer c 0 s).chan c = { s.chan c with timer := 0 } := setChan_chan _ _ _
  unfold showType
  simp only
  split
  · refine ⟨Pattern.dark, ?_⟩
    rw [setChan_chan, loaded]
  · split
    · next same =>
      refine ⟨(s.chan c).staged, ?_⟩
      rw [loaded] at same ⊢
      simp only at same
      rw [← same]
    · refine ⟨patternOf { s.chan c with timer := 0 } (typeIndication s.standingMode k), ?_⟩
      rw [enter_chan, if_pos rfl, loaded]

theorem showType_latch {c : Chan} {k : ChannelType} {s : State} (h : (s.chan c).used = false) :
    ((showType c k s).green c).latch = (s.green c).latch := by
  unfold showType
  simp only
  split
  · rfl
  · split
    · rfl
    · have unused : ((loadTimer c 0 s).chan c).used = false :=
        (congrArg Channel.used (setChan_chan s c { s.chan c with timer := 0 })).trans h
      exact enter_latch_unused unused _

/-- What SET CHANNEL stores in the channel it names, with the indication of a changed type, and leaves in the others (R17,
R18). -/
theorem applyChannel_chan (c : Chan) (k : ChannelType) (flags : Byte) (r : Recall) (t : Timing) (s : State) :
    (∀ j, j ≠ c → (applyChannel c k flags r t s).chan j = s.chan j) ∧
    (k = (s.chan c).kind → ∃ x, (applyChannel c k flags r t s).chan c =
      { storeChannel k flags r t s.unit.mode.copiesTiming (s.chan c) with staged := x }) ∧
    (k ≠ (s.chan c).kind →
      (∃ x, (applyChannel c k flags r t s).chan c = if s.unit.mode = .powerOut then
          { storeChannel k flags r t s.unit.mode.copiesTiming (s.chan c) with
            timer := 0, held := if k = .unused then none else some (typeIndication s.standingMode k) }
        else { storeChannel k flags r t s.unit.mode.copiesTiming (s.chan c) with
            timer := 0, ind := typeIndication s.standingMode k, staged := x }) ∧
      (k = .unused → ((applyChannel c k flags r t s).green c).latch = false)) := by
  obtain ⟨m, watch⟩ := stopRedWatch_eq c (s.setChan c (storeChannel k flags r t s.unit.mode.copiesTiming (s.chan c)))
  let stored := stopRedWatch c (s.setChan c (storeChannel k flags r t s.unit.mode.copiesTiming (s.chan c)))
  have own : stored.chan c = storeChannel k flags r t s.unit.mode.copiesTiming (s.chan c) := by
    simp only [stored, watch]
    exact setChan_chan _ _ _
  have other {j : Chan} (h : j ≠ c) : stored.chan j = s.chan j := by
    simp only [stored, watch]
    exact setChan_chan_other s _ h
  have unit : stored.unit = s.unit := by simp only [stored, watch]; rfl
  have applied : applyChannel c k flags r t s = if k = (s.chan c).kind then restageFlash c stored
      else showType c k (stored.setGreen c (greenAtType k (stored.green c))) := rfl
  rw [applied]
  refine ⟨fun j h => ?_, fun hk => ?_, fun hk => ⟨?_, fun hu => ?_⟩⟩
  · split
    · unfold restageFlash
      split
      · rw [setChan_chan_other _ _ h, other h]
      · exact other h
    · rw [showType_other _ _ h]
      exact other h
  · rw [if_pos hk]
    unfold restageFlash
    split
    · refine ⟨patternOf (stored.chan c) .flash, ?_⟩
      rw [setChan_chan, own]
    · refine ⟨(s.chan c).staged, ?_⟩
      rw [own]
      rfl
  · rw [if_neg hk]
    obtain ⟨x, e⟩ := showType_chan c k (stored.setGreen c (greenAtType k (stored.green c)))
    refine ⟨x, e.trans ?_⟩
    have mode : (stored.setGreen c (greenAtType k (stored.green c))).unit = s.unit := unit
    have standing : (stored.setGreen c (greenAtType k (stored.green c))).standingMode = s.standingMode := by
      simp only [State.standingMode, mode]
    have chan : (stored.setGreen c (greenAtType k (stored.green c))).chan c = _ := own
    rw [mode, standing, chan]
  · rw [if_neg hk]
    have unused : ((stored.setGreen c (greenAtType k (stored.green c))).chan c).used = false :=
      (congrArg Channel.used own).trans (by rw [hu]; rfl)
    rw [showType_latch unused, hu]
    exact congrArg Green.latch (vset_get_same _ _ _)

/-- SET CHANNEL leaves the unit mode. -/
theorem applyChannel_unit (c : Chan) (k : ChannelType) (flags : Byte) (r : Recall) (t : Timing) (s : State) :
    (applyChannel c k flags r t s).unit = s.unit := by
  obtain ⟨m, watch⟩ := stopRedWatch_eq c (s.setChan c (storeChannel k flags r t s.unit.mode.copiesTiming (s.chan c)))
  unfold applyChannel
  simp only [watch]
  split
  · unfold restageFlash
    split <;> rfl
  · unfold showType
    simp only
    split
    · rfl
    · split
      · rfl
      · exact (enter_clock _ _ _).1

/-- The twelve values brought into their ranges, in the steps of R2. -/
theorem clamped_values {f : TimingFields} {q : Timing} (h : q = (TimingFields.sent f).clamped) :
    q.minGreen = min 2550 (max 10 f.minGreen.toNat) ∧ q.addedInitial = f.addedInitial.toNat ∧
      q.maxGreen = max (min 2550 (max 10 f.maxGreen.toNat)) q.minGreen ∧
      q.maxInitial = min (min 2550 f.maxInitial.toNat) q.maxGreen ∧ q.maxGap = min 99 f.maxGap.toNat ∧
      q.minGap = min (min 99 f.minGap.toNat) q.maxGap ∧ q.tbr = min 2550 f.tbr.toNat ∧
      q.ttr = min 2550 f.ttr.toNat ∧ q.amber = min 100 (max 30 f.amber.toNat) ∧
      q.redClear = min 60 f.redClear.toNat ∧ q.walk = min 2550 (max 10 f.walk.toNat) ∧
      q.pedClear = min 2550 (max 30 f.pedClear.toNat) := by
  have low (hi v : Nat) : clampTo 0 hi v = min hi v := (clampTo_eq (Nat.zero_le _) _).trans (by rw [Nat.zero_max])
  have byte : min 255 f.addedInitial.toNat = f.addedInitial.toNat := min_eq_right (toNat_le_255 _)
  subst h
  simp only [Timing.clamped, Timing.ranged, Timing.raiseMaxGreen, Timing.lowerMaxInitial, Timing.lowerMinGap,
    TimingFields.sent, low, byte, clampTo_eq (show 10 ≤ 2550 by omega), clampTo_eq (show 30 ≤ 100 by omega),
    clampTo_eq (show 30 ≤ 2550 by omega), and_self]

/-- Settles O38. -/
theorem setChannel : Obligations.SetChannel := by
  intro tag c k r flags f s hs hr hm hu
  let q := (TimingFields.sent f).clamped
  let applied := applyChannel c k flags r q (heard s)
  obtain ⟨others, same, changed⟩ := applyChannel_chan c k flags r q (heard s)
  simp only [heard_chan, heard_standing] at others same changed
  have mode : (heard s).unit.mode = s.unit.mode := by simp
  have answer : exec (.setChannel tag (u8 (c.val + 1)) k.code flags r.code f) s = .next (answered (settle (heard s) applied)
      ⟨0x90#8, tag, clampResult (q != TimingFields.sent f) :: applied.channelBytes c⟩) := by
    refine answers rfl ⟨rfl, rfl⟩ (by simp) hs ?_
    have suits : ¬ recallSuits k r = false := by simp [hr]
    have free : ¬ (k ≠ (s.chan c).kind ∧ s.standingMode.isControl = true) := fun h => by simp [hm h.1] at h
    have unnamed : ¬ (k = .unused ∧ s.inASet c = true) := fun ⟨h, hset⟩ => by
      obtain ⟨h1, h2⟩ := hu h
      rcases inASet_iff.mp hset with ⟨x, hx, hc⟩ | ⟨p, hc⟩
      · rw [h1 x hx] at hc; cases hc
      · rw [(h2 p).1, (h2 p).2] at hc; simp at hc
    simp only [serve, serveSetChannel, indexOf_number (n := 16) (by decide), decodeType_code, decodeRecall_code, heard_chan,
      heard_standing, heard_inASet, if_neg suits, if_neg free, if_neg unnamed]
    rfl
  have stored : ∃ y : Channel, applied.chan c =
      { storeChannel k flags r q (heard s).unit.mode.copiesTiming (s.chan c) with
        ind := y.ind, timer := y.timer, held := y.held, staged := y.staged } := by
    by_cases hk : k = (s.chan c).kind
    · obtain ⟨x, e⟩ := same hk
      exact ⟨applied.chan c, by rw [show applied.chan c = _ from e]⟩
    · obtain ⟨⟨x, e⟩, -⟩ := changed hk
      refine ⟨applied.chan c, ?_⟩
      rw [show applied.chan c = _ from e]
      split <;> rfl
  obtain ⟨y, stored⟩ := stored
  have attributes : attributeByte (applied.chan c) = flags &&& 0x0F#8 := by
    have bits (b : Byte) : flagByte ((if b.getLsbD 0 then FlashColour.amber else .red) == .amber) |||
        (flagByte ((if b.getLsbD 1 then Phase.b else .a) == .b) <<< 1) ||| (flagByte (b.getLsbD 2) <<< 2) |||
        (flagByte (b.getLsbD 3) <<< 3) = b &&& 0x0F#8 := by
      revert b
      decide
    rw [stored]
    exact bits flags
  have bytes : applied.channelBytes c = [u8 (c.val + 1), k.code, flags &&& 0x0F#8, r.code] ++ q.bytes := by
    simp only [State.channelBytes, attributes]
    rw [stored]
    rfl
  have keeps := settle_keeps (heard s) applied
  have kept := keeps.chans c
  rw [stored] at kept
  have mode_applied : applied.unit.mode = s.unit.mode :=
    (congrArg UnitState.mode (applyChannel_unit c k flags r q (heard s))).trans mode
  have quiet (h : s.unit.mode.isControl = false) : Requested applied (settle (heard s) applied) :=
    settle_requested (by rw [mode_applied]; intro e; simp [e, Mode.isControl] at h)
      (by rw [mode_applied]; intro e; simp [e, Mode.isControl] at h)
  have calm (hk : k ≠ (s.chan c).kind) : s.unit.mode.isControl = false := by
    have standing := hm hk
    unfold State.standingMode at standing
    split at standing
    · next h => rw [h]; rfl
    · exact standing
  have result : clampResult (q != TimingFields.sent f) = if q = TimingFields.sent f then 0 else 1 := clampResult_if (by simp)
  rw [bytes, result] at answer
  generalize settle (heard s) applied = u at *
  have pending : (u.chan c).pendingSet = q := kept.pendingSet
  have copies (h : s.unit.mode.isControl = false) : (heard s).unit.mode.copiesTiming = true := by
    rw [mode]
    cases hx : s.unit.mode <;> simp [hx, Mode.isControl, Mode.copiesTiming] at h ⊢
  have settled (h : s.unit.mode.isControl = false) (j : Chan) : u.chan j = applied.chan j :=
    congrArg (fun v => v.get j) (quiet h).blocks.1
  refine ⟨_, answer, kept.kind, kept.recallKind, kept.flashColour, kept.flashPhase, kept.dimEnable, kept.redMonitor,
    clamped_values pending, fun h => ?_, fun hk => ?_, fun j hj => ?_, ?_⟩
  · change (u.chan c).activeSet = (u.chan c).pendingSet
    rw [settled h c, stored, copies h]
    rfl
  · have control := calm hk
    obtain ⟨⟨x, own⟩, latch⟩ := changed hk
    rw [mode] at own
    have chan : u.chan c = _ := (settled control c).trans own
    refine ⟨?_, fun hp => ?_, fun hp => ?_, fun hu => ?_⟩
    · refine (congrArg Channel.timer chan).trans ?_
      split <;> rfl
    · refine (congrArg Channel.ind chan).trans ?_
      rw [if_neg hp]
      simp only [typeIndication, State.standingMode, if_neg hp]
    · refine (congrArg Channel.held chan).trans ?_
      rw [if_pos hp]
      have standing : s.standingMode = .localFlash ↔ s.unit.remembered = some .localFlash := by
        simp only [State.standingMode, if_pos hp]
        cases s.unit.remembered <;> simp
      simp only [typeIndication, standing]
      split
      · rfl
      · split <;> rfl
    · have green : (applied.green c).latch = false := latch hu
      change (u.green c).latch = false
      rcases (quiet control).green c with e | ⟨e, -⟩
      · rw [e]; exact green
      · rw [e]; exact green
  · have k := keeps.chans j
    rw [show applied.chan j = s.chan j from others j hj] at k
    exact ⟨k.kind, k.pendingSet, k.recallKind⟩
  · change some _ = some _
    have reply : ((answered u ⟨0x90#8, tag, (if q = TimingFields.sent f then 0 else 1) ::
        ([u8 (c.val + 1), k.code, flags &&& 0x0F#8, r.code] ++ q.bytes)⟩).chan c).pendingSet = q := pending
    simp only [reply]
    rfl

end Sys2Proof.Machine

/-! PROOFS. The start moment (O59). -/

namespace Sys2Proof.Machine

/-! ### A start (R5, R44, R45) -/

/-- The class of a channel changed in a running transition. -/
theorem setClass_eq {s : State} {x : Transition} (h : s.seq.transition = some x) (c : Chan) (k : TransitionClass) :
    setClass c k s = { s with seq := { s.seq with transition := some { x with classes := vset x.classes c k } } } := by
  simp only [setClass, h]

/-- A vehicle channel that is started turns GREEN, its latch clear (R5, R63, R68). -/
theorem startChannel_vehicle {c : Chan} {s : State} (hi : (s.chan c).ind = .red) (hk : (s.chan c).kind = .vehicle) :
    ((startChannel c s).chan c).ind = .green ∧ ((startChannel c s).green c).latch = false := by
  have e : startChannel c s = vehicleEntry c (enter c .green (copyActive c copyGreen s)) := by
    simp only [startChannel, hi, hk, if_true]
  rw [e]
  constructor
  · rw [State.chan, vehicleEntry_chans, ← State.chan, enter_chan, if_pos rfl]
  · rw [State.green, vehicleEntry, State.setGreen, vset_get_same]
    rfl

/-- A pedestrian channel that is started turns GREEN with its walk, its latch clear (R5, R63). -/
theorem startChannel_pedestrian {c : Chan} {s : State} (hi : (s.chan c).ind = .red) (hk : (s.chan c).kind = .pedestrian) :
    ((startChannel c s).chan c).ind = .green ∧ ((startChannel c s).green c).latch = false ∧
      ((startChannel c s).chan c).timer = (s.chan c).pendingSet.walk ∧
      ((startChannel c s).chan c).activeSet.walk = (s.chan c).pendingSet.walk := by
  have e : startChannel c s = clearLatch c (enter c .green (loadTimer c (s.chan c).pendingSet.walk (copyActive c copyWalk s))) := by
    simp only [startChannel, hi, hk, if_true]
  have own : (startChannel c s).chan c =
      { s.chan c with
        activeSet := copyWalk (s.chan c).pendingSet (s.chan c).activeSet, timer := (s.chan c).pendingSet.walk
        ind := .green, staged := patternOf { s.chan c with
          activeSet := copyWalk (s.chan c).pendingSet (s.chan c).activeSet, timer := (s.chan c).pendingSet.walk } .green } := by
    rw [e, State.chan, clearLatch_chans, ← State.chan, enter_chan, if_pos rfl, loaded_eq, setChan_chan]
  rw [own]
  refine ⟨rfl, ?_, rfl, rfl⟩
  rw [e, State.green, clearLatch, State.setGreen, vset_get_same]

/-- A channel may start where it is WAITING and RED with every incompatible channel RED or DARK (R44). -/
theorem mayStart_iff {s : State} {x : Transition} {c : Chan} : s.mayStart x s.clearMask c = true ↔
    x.classes.get c = .waiting ∧ (s.chan c).ind = .red ∧
      ∀ j, compatible s.compat.inUse c j = false → (s.chan j).ind = .red ∨ (s.chan j).ind = .dark := by
  simp only [State.mayStart, Bool.and_eq_true, beq_iff_eq, within_iff, has_conflictsOf, Bool.not_eq_true', State.clearMask,
    has_maskOf, Bool.or_eq_true, and_assoc]

/-- The first of a `find?` over all channels is the lowest. -/
theorem find_lowest {n : Nat} {p : Fin n → Bool} {c : Fin n} (h : (List.finRange n).find? p = some c) :
    p c = true ∧ ∀ j, j < c → p j = false := by
  obtain ⟨hc, as, bs, hl, before⟩ := List.find?_eq_some_iff_append.mp h
  refine ⟨hc, fun j hj => ?_⟩
  have sorted : (List.finRange n).Pairwise (· < ·) := List.pairwise_lt_finRange n
  rw [hl, List.pairwise_append] at sorted
  obtain ⟨-, tail, -⟩ := sorted
  have mem : j ∈ as ++ c :: bs := hl ▸ List.mem_finRange j
  rcases List.mem_append.mp mem with h | h
  · simpa using before j h
  · rcases List.mem_cons.mp h with h | h
    · exact absurd h (ne_of_lt hj)
    · exact absurd ((List.pairwise_cons.mp tail).1 j h) (not_lt_of_gt hj)

/-- Settles O59. -/
theorem startMoment_rules : Obligations.StartMoment := by
  intro s x hx
  refine ⟨?_, fun t ht => ?_⟩
  · have none : judgeStart s = none ↔ (List.finRange 16).find? (s.mayStart x s.clearMask) = none := by
      simp only [judgeStart, hx]
      split
      · next h => simp [h]
      · next h => simp [h]
    rw [none, List.find?_eq_none]
    simp only [List.mem_finRange, true_imp_iff]
    exact forall_congr' fun c => not_congr mayStart_iff
  · obtain ⟨y, c, hy, hc, rfl⟩ := judgeStart_some ht
    cases hx.symm.trans hy
    obtain ⟨own, lower⟩ := find_lowest hc
    have ready := mayStart_iff.mp own
    refine ⟨c, ready, fun j hj h => ?_, ?_⟩
    · exact Bool.false_ne_true ((lower j hj).symm.trans (mayStart_iff.mpr h))
    by_cases unserved : (s.chan c).kind = .pedestrian ∧ has s.calls c = false
    · have e : startMoment c s = setClass c .unserved s := if_pos unserved
      rw [e, setClass_eq hx]
      refine ⟨fun j _ => rfl, _, rfl, rfl, rfl, fun j hj => vset_get_other _ _ hj, fun h => ?_, fun _ h => ?_,
        fun _ _ => ⟨vset_get_same _ _ _, rfl⟩⟩
      · rcases h with h | ⟨-, h⟩
        · rw [unserved.1] at h; cases h
        · rw [unserved.2] at h; cases h
      · rw [unserved.2] at h; cases h
    · have e : startMoment c s = startChannel c (setClass c .started s) := if_neg unserved
      have touched := startChannel_touches c (setClass c .started s)
      rw [e]
      rw [setClass_eq hx] at touched ⊢
      have sequence := congrArg Sequencer.transition touched.seq
      refine ⟨fun j hj => touched.chan j hj, _, sequence, rfl, rfl, fun j hj => vset_get_other _ _ hj, fun h => ?_,
        fun hk _ => ?_, fun hk hn => absurd ⟨hk, hn⟩ unserved⟩
      · refine ⟨vset_get_same _ _ _, ?_⟩
        rcases h with hk | ⟨hk, -⟩
        · exact startChannel_vehicle ready.2.1 hk
        · obtain ⟨h1, h2, -⟩ := startChannel_pedestrian (s := { s with
            seq := { s.seq with transition := some { x with classes := vset x.classes c .started } } }) ready.2.1 hk
          exact ⟨h1, h2⟩
      · exact (startChannel_pedestrian (s := { s with
            seq := { s.seq with transition := some { x with classes := vset x.classes c .started } } }) ready.2.1 hk).2.2

end Sys2Proof.Machine

/-! PROOFS. The orders that the judgments of a moment are made of, and what an order does to one channel. -/

namespace Sys2Proof.Machine

/-! ### The orders (log entry 6) -/

/-- One order of a judgment. In a `quiet` chain no preempt is about, and no order of a preempt is given: no green is cut, no
walk ended and no clearance cut (R109). -/
inductive Order (quiet : Bool) (s : State) : State → Prop
  | clocks : Order quiet s
      { s with greens := vmap (fun c g => if has s.clockStarts c then { g with clock := some 0 } else g) s.greens }
  | plan (p : Vector Preempt 4) (q : Sequencer) (a : Arbiter) : Order quiet s { s with pres := p, seq := q, arb := a }
  | flags (m : BitVec 9) : Order quiet s { s with link := { s.link with flags := m } }
  | ends (c : Chan) (h : quiet = true → (s.chan c).kind ≠ .pedestrian) : Order quiet s (terminateChannel c s)
  | starts (c : Chan) : Order quiet s (startChannel c s)
  | cutGreens (n : Nat) (m : ChanSet) (h : quiet = false) : Order quiet s (cutGreens n m s)
  | cut (n : Nat) (c : Chan) (h : quiet = false) : Order quiet s (cutClearance n c s)
  | flashes (hm : s.unit.mode = .clearingToFlash) (h : s.allRed = true) : Order quiet s (enterLocalFlash s)

/-- A chain of orders. -/
abbrev Orders (quiet : Bool) : State → State → Prop := Relation.ReflTransGen (Order quiet)

theorem noting_eq (o s : State) : ∃ m, noting o s = { s with link := { s.link with flags := m } } := by
  obtain ⟨m, e⟩ := (noting_requested o s).link
  have frame := (noting_requested o s).frame
  rw [e, noting_greens, noting_pres] at frame
  exact ⟨m, frame⟩

theorem eachOf_orders {q : Bool} {op : Chan → State → State} (P : Chan → State → Prop)
    (step : ∀ c s, P c s → Order q s (op c s)) (kept : ∀ c d s, P c s → P c (op d s)) (p : Chan → Bool) (l : List Chan)
    (s : State) (h : ∀ c, p c = true → P c s) : Orders q s (eachOf op p l s) := by
  induction l generalizing s with
  | nil => exact .refl
  | cons a l ih =>
    change Orders q s (eachOf op p l (if p a then op a s else s))
    split
    · next hp => exact .head (step a s (h a hp)) (ih _ fun c hc => kept c a s (h c hc))
    · exact ih s h

theorem terminateAll_orders {q : Bool} {m : ChanSet} {s : State}
    (h : q = true → ∀ c, has m c = true → (s.chan c).kind ≠ .pedestrian) : Orders q s (terminateAll m s) := by
  rw [terminateAll_eq]
  refine eachOf_orders (fun c u => q = true → (u.chan c).kind ≠ .pedestrian) (fun c u => Order.ends c) ?_ _ _ s
    (fun c hc e => h e c hc)
  intro c d u k e
  rw [((terminateChannel_keeps d u).chans c).kind]
  exact k e

theorem cutClearances_orders {n : Nat} {m : ChanSet} {s : State} : Orders false s (cutClearances n m s) := by
  rw [cutClearances_eq]
  exact eachOf_orders (fun _ _ => True) (fun c u _ => Order.cut n c rfl) (fun _ _ _ _ => trivial) _ _ s fun _ _ => trivial

theorem truncate_orders (cfg : PreemptConfig) (m : ChanSet) (s : State) : Orders false s (truncate cfg m s) := by
  have four (a b c : ChanSet) : Orders false s (terminateAll c
      { terminateAll a (cutGreens cfg.minGreen m s) with
        seq := { (terminateAll a (cutGreens cfg.minGreen m s)).seq with owedEnds := b } }) :=
    ((Relation.ReflTransGen.single (Order.cutGreens _ _ rfl)).trans (terminateAll_orders nofun)).tail
      (Order.plan _ _ _) |>.trans (terminateAll_orders nofun)
  unfold truncate
  simp only
  split
  · exact (four _ _ _).trans cutClearances_orders
  · exact four _ _ _

theorem enterService_orders (p : Pre) (s : State) : Orders false s (enterService p s) := by
  rw [enterService_eq]
  have began : Orders false s (truncated p s) :=
    .head (.plan s.pres (beginTransition (s.pre p).firstTarget .preempt (stopStep s)).seq
      { s.arb with holder := some p, interrupted := s.arb.interrupted || s.seq.current }) (truncate_orders _ _ _)
  exact began.tail (.plan _ _ _)

theorem greenOf_kind {s : State} {k : ChannelType} {m : ChanSet} {c : Chan} (h : has (s.greenOf k &&& m) c = true) :
    (s.chan c).kind = k := by
  simp only [State.greenOf, has_and, has_maskOf, Bool.and_eq_true, beq_iff_eq] at h
  exact h.1.2

theorem runOut_kind {s : State} {m : ChanSet} {c : Chan} (h : has (m &&& s.runOut) c = true) : (s.chan c).kind = .vehicle := by
  rw [has_and, Bool.and_eq_true] at h
  exact greenOf_kind h.2

theorem makeCurrent_orders {q : Bool} (i : Nat) (drop : Bool) (s : State) : Orders q s (makeCurrent i drop s) := by
  unfold makeCurrent beginStepTransition
  refine .head (.plan s.pres _ s.arb) ((terminateAll_orders fun _ c hc => ?_))
  have : (s.chan c).kind = .vehicle := greenOf_kind hc
  simp [State.chan] at this ⊢
  simp [this]

theorem startMoment_orders {q : Bool} (c : Chan) (s : State) : Orders q s (startMoment c s) := by
  have classed (k : TransitionClass) : Orders q s (setClass c k s) := by
    unfold setClass
    split
    · exact .single (.plan _ _ _)
    · exact .refl
  unfold startMoment
  split
  · exact classed _
  · exact (classed _).tail (.starts c)

/-! ### A moment with no preempt about -/

theorem quiet_move {s : State} (h : s.preemptsQuiet) (p : Pre) : (s.pre p).move = none := by
  rw [idle_move (h.2 p).1, Preempt.wants, (h.2 p).2]
  simp

/-- No judgment of a moment without a preempt brings one about (R105, R106). -/
theorem judge_quiet {s t : State} (h : judge s = some t) (hq : s.preemptsQuiet) : t.preemptsQuiet := by
  obtain ⟨pre, hold⟩ := judge_pre h
  have pending {p : Pre} (e : s.bestPending = some p) : False := by
    have := bestPending_pending e
    rw [(hq.2 p).1] at this
    cases this
  refine ⟨?_, fun p => ?_⟩
  · obtain e | e | ⟨p, -, e, -⟩ := hold
    · rw [e]; exact hq.1
    · exact e
    · exact (pending e).elim
  · have none {x : Pre} (e : s.arb.holder = some x) : False := by rw [hq.1] at e; cases e
    have k := pre p
    generalize t.pre p = v at k
    cases k with
    | same => exact hq.2 p
    | request r hr => rw [quiet_move hq p] at hr; cases hr
    | enters _ _ e => exact (pending e).elim
    | putOut _ _ e => exact (none e).elim
    | clears _ e => exact (none e).elim
    | full _ e => exact (none e).elim
    | dwells _ e => exact (none e).elim
    | passes _ e => exact (none e).elim
    | exits _ e => exact (none e).elim
    | returns _ e => exact (none e).elim

/-- Every judgment is a chain of orders, one without a preempt's own orders where no preempt is about (R109). -/
theorem judge_orders {q : Bool} {s t : State} (h : judge s = some t) (hq : q = true → s.preemptsQuiet) : Orders q s t := by
  have held {p : Pre} (e : s.arb.holder = some p) : q = false := by
    cases q with
    | false => rfl
    | true => rw [(hq rfl).1] at e; cases e
  have pending {p : Pre} (e : s.bestPending = some p) : q = false := by
    cases q with
    | false => rfl
    | true =>
      have := bestPending_pending e
      rw [((hq rfl).2 p).1] at this
      cases this
  rcases judge_cases h with h | h | ⟨hm, h | h | h | h | h | h | h | h | h | h⟩ | ⟨hm, h⟩
  · obtain ⟨-, rfl⟩ := judgeClocks_some h
    exact .single .clocks
  · obtain ⟨p, r, -, rfl⟩ := judgeRequests_some h
    exact .single (.plan _ _ _)
  · obtain ⟨p, hp, ⟨-, rfl⟩ | ⟨x, -, -, rfl⟩⟩ := judgeSlot_some h
    · rw [pending hp]; exact enterService_orders p s
    · rw [pending hp]; exact .head (.plan _ _ _) (enterService_orders p (s.setPre x (s.pre x).putOut))
  · obtain ⟨-, rfl⟩ := judgeOwed_some h
    exact terminateAll_orders fun _ c hc => by rw [runOut_kind hc]; exact nofun
  · obtain ⟨p, -, -, -, -, rfl⟩ := judgeStage_some h
    exact .single (.plan _ _ _)
  · obtain ⟨-, c, -, -, rfl⟩ := judgeStart_some h
    exact startMoment_orders c s
  · obtain ⟨tr, -, -, ⟨-, rfl⟩ | ⟨-, ⟨-, rfl⟩ | ⟨p, -, rfl⟩⟩⟩ := judgeFull_some h
    · exact .single (.plan s.pres _ s.arb)
    · exact .single (.plan s.pres _ s.arb)
    · exact .single (.plan _ _ s.arb)
  · obtain ⟨p, hp, -, -, rfl⟩ := judgeTrack_some h
    refine .head (.plan _ (beginTransition (s.pre p).cfg.dwellSet .preempt s).seq s.arb) (terminateAll_orders fun e => ?_)
    rw [held hp] at e
    cases e
  · obtain ⟨p, -, -, -, -, -, ⟨-, rfl⟩ | ⟨-, rfl⟩⟩ := judgeDwell_some h
    · exact .single (.plan _ s.seq _)
    · exact .single (.plan _ s.seq s.arb)
  · obtain ⟨p, i, drop, -, -, -, rfl⟩ := judgeExit_some h
    exact .head (.plan _ s.seq _) (makeCurrent_orders i drop _)
  · obtain ⟨r, -, -, ⟨-, i, -, rfl⟩ | ⟨-, -, -, rfl⟩ | ⟨-, -, rfl⟩⟩ := judgeTermination_some h
    · exact makeCurrent_orders i true s
    · exact .single (.plan s.pres _ s.arb)
    · exact .single (.plan s.pres _ s.arb)
  · obtain ⟨-, -, i, -, rfl⟩ := judgeFirst_some h
    exact makeCurrent_orders i false s
  · obtain ⟨-, rfl⟩ | ⟨ha, rfl⟩ := judgeClearing_some h
    · exact terminateAll_orders fun _ c hc => by rw [greenOf_kind hc]; exact nofun
    · exact .single (.flashes hm ha)

/-- The settling of a moment is a chain of orders. -/
theorem settle_orders {q : Bool} {old new : State} (hq : q = true → new.preemptsQuiet) : Orders q new (settle old new) := by
  have quiet (o s : State) (h : s.preemptsQuiet) : (noting o s).preemptsQuiet := by
    obtain ⟨m, e⟩ := noting_eq o s
    rw [e]
    exact h
  have noted (o s : State) : Orders q s (noting o s) := by
    obtain ⟨m, e⟩ := noting_eq o s
    rw [e]
    exact .single (.flags m)
  exact (settle_induction (fun t => Orders q new t ∧ (q = true → t.preemptsQuiet))
    (fun s t hj ⟨h, k⟩ => ⟨(h.trans (judge_orders hj k)).trans (noted _ _), fun e => quiet _ _ (judge_quiet hj (k e))⟩)
    old new ⟨noted _ _, fun e => quiet _ _ (hq e)⟩).1

theorem settle_preemptsQuiet {old new : State} (h : new.preemptsQuiet) : (settle old new).preemptsQuiet := by
  have quiet (o s : State) (h : s.preemptsQuiet) : (noting o s).preemptsQuiet := by
    obtain ⟨m, e⟩ := noting_eq o s
    rw [e]
    exact h
  exact settle_induction State.preemptsQuiet (fun s t hj k => quiet s t (judge_quiet hj k)) old new (quiet _ _ h)

/-! ### What an order does to one channel (R5 to R10, R70, R79) -/

/-- What one order makes of a channel and its green record. -/
inductive Item (quiet : Bool) (r : Channel) (g : Green) : Channel → Green → Prop
  | same : Item quiet r g r g
  | clock (hk : r.kind = .vehicle) (hi : r.ind = .green) (h : g.clock = none) : Item quiet r g r { g with clock := some 0 }
  | initial (n : Nat) (hq : quiet = false) (hn : n ≤ g.initial) : Item quiet r g r { g with initial := n }
  | amber (a : Timing) (v : Green) (hk : r.kind = .vehicle) (hi : r.ind = .green) : Item quiet r g
      { r with ind := .amber, timer := r.pendingSet.amber, staged := patternOf r .amber, activeSet := a } v
  | pedClear (v : Green) (hk : r.kind = .pedestrian) (hi : r.ind = .green) (hq : quiet = false) : Item quiet r g
      { r with
        ind := .pedClear, timer := r.pendingSet.pedClear, staged := patternOf r .pedClear
        activeSet := copyPedClear r.pendingSet r.activeSet } v
  | green (a : Timing) (n : Nat) (v : Green) (hi : r.ind = .red) : Item quiet r g
      { r with ind := .green, timer := n, staged := patternOf r .green, activeSet := a } v
  | clearance (n : Nat) (hk : r.kind = .pedestrian) (hi : r.ind = .pedClear) (hn : n ≤ r.timer) (hq : quiet = false) :
      Item quiet r g { r with timer := n } g
  | flash (i : Indication) (a : Timing) (h : r.used = false ∨ r.ind = .red) (hi : i = .flash ∨ i = .dark) : Item quiet r g
      { r.force i with activeSet := a } g

theorem terminateChannel_item {q : Bool} {c : Chan} {s : State} (h : q = true → (s.chan c).kind ≠ .pedestrian) :
    Item q (s.chan c) (s.green c) ((terminateChannel c s).chan c) ((terminateChannel c s).green c) := by
  by_cases hi : (s.chan c).ind = .green
  · cases hk : (s.chan c).kind with
    | unused => rw [terminateChannel_none (.inr hk)]; exact .same
    | vehicle =>
      rw [terminateChannel_vehicle hi hk, enter_chan, if_pos rfl, loaded_eq, setChan_chan]
      exact .amber _ _ hk hi
    | pedestrian =>
      rw [terminateChannel_pedestrian hi hk, enterPedClear, enter_chan, if_pos rfl, loaded_eq, setChan_chan]
      refine .pedClear _ hk hi ?_
      cases q with
      | false => rfl
      | true => exact absurd hk (h rfl)
  · rw [terminateChannel_none (.inl hi)]
    exact .same

theorem startChannel_item {q : Bool} {c : Chan} {s : State} :
    Item q (s.chan c) (s.green c) ((startChannel c s).chan c) ((startChannel c s).green c) := by
  by_cases hi : (s.chan c).ind = .red
  · have started (f : Timing → Timing → Timing) (n : Nat) (v : Green) : Item q (s.chan c) (s.green c)
        ((enter c .green (s.setChan c { s.chan c with activeSet := f (s.chan c).pendingSet (s.chan c).activeSet, timer := n })).chan c)
        v := by
      rw [enter_chan, if_pos rfl, setChan_chan]
      exact .green _ _ _ hi
    cases hk : (s.chan c).kind with
    | unused =>
      have e : startChannel c s = s := by simp only [startChannel, hi, hk, if_true]
      rw [e]; exact .same
    | vehicle =>
      have e : startChannel c s = vehicleEntry c (enter c .green (copyActive c copyGreen s)) := by
        simp only [startChannel, hi, hk, if_true]
      rw [e]
      exact started copyGreen (s.chan c).timer _
    | pedestrian =>
      have e : startChannel c s =
          clearLatch c (enter c .green (loadTimer c (s.chan c).pendingSet.walk (copyActive c copyWalk s))) := by
        simp only [startChannel, hi, hk, if_true]
      rw [e, loaded_eq]
      exact started copyWalk (s.chan c).pendingSet.walk _
  · have e : startChannel c s = s := by simp only [startChannel, hi, if_false]
    rw [e]
    exact .same

theorem cutClearance_item {c : Chan} {n : Nat} {s : State} :
    Item false (s.chan c) (s.green c) ((cutClearance n c s).chan c) ((cutClearance n c s).green c) := by
  unfold cutClearance
  simp only
  split
  · next h =>
    obtain ⟨hk, hi, hn⟩ := h
    rw [loadTimer, setChan_chan]
    exact .clearance n hk hi (Nat.le_of_lt hn) rfl
  · exact .same

theorem enterLocalFlash_item {q : Bool} {c : Chan} {s : State} (h : s.allRed = true) :
    Item q (s.chan c) (s.green c) ((enterLocalFlash s).chan c) ((enterLocalFlash s).green c) := by
  have red : (s.chan c).used = false ∨ (s.chan c).ind = .red := by
    have := List.all_eq_true.mp h c (List.mem_finRange c)
    simpa using this
  have same : (enterLocalFlash s).green c = s.green c := by simp [enterLocalFlash, State.green]
  rw [enterLocalFlash, changeMode_chan, forceAll_chan]
  change Item q (s.chan c) (s.green c) _ ((enterLocalFlash s).green c)
  rw [same]
  have stands : (match (s.chan c).kind with
      | .vehicle => Indication.flash
      | .pedestrian => .dark
      | .unused => .dark) = .flash ∨ (match (s.chan c).kind with
      | .vehicle => Indication.flash
      | .pedestrian => .dark
      | .unused => .dark) = .dark := by
    cases (s.chan c).kind <;> simp
  split
  · exact .flash _ _ red stands
  · exact .flash _ (s.chan c).activeSet red stands

/-- What an order does to each channel. -/
theorem Order.item {q : Bool} {s t : State} (h : Order q s t) (c : Chan) :
    Item q (s.chan c) (s.green c) (t.chan c) (t.green c) := by
  have apart {d : Chan} {u : State} (k : Touches (· = d) s u) (own : Item q (s.chan d) (s.green d) (u.chan d) (u.green d)) :
      Item q (s.chan c) (s.green c) (u.chan c) (u.green c) := by
    by_cases e : c = d
    · exact e ▸ own
    · rw [k.chan c e, k.green c e]; exact .same
  cases h with
  | clocks =>
    change Item q (s.chan c) (s.green c) (s.chan c) ((vmap _ s.greens).get c)
    rw [vmap_get]
    split
    · next hc =>
      obtain ⟨hk, hi, hn, -⟩ := clockStarts_iff hc
      exact .clock hk hi hn
    · exact .same
  | plan => exact .same
  | flags => exact .same
  | ends d h => exact apart (terminateChannel_touches d s) (terminateChannel_item h)
  | starts d => exact apart (startChannel_touches d s) startChannel_item
  | cutGreens n m hq =>
    have e : (Sys2Proof.Machine.cutGreens n m s).green c =
        if has (s.greenOf .vehicle &&& ~~~ m) c then cutInitial n (s.green c) else s.green c := vmap_get _ _ _
    rw [e]
    split
    · exact .initial _ hq (Nat.min_le_left _ _)
    · exact .same
  | cut n d hq => subst hq; exact apart (cutClearance_touches n d s) cutClearance_item
  | flashes _ ha => exact enterLocalFlash_item ha

/-- A property of a channel and its green record that every order keeps. -/
theorem orders_keep {q : Bool} {s t : State} (h : Orders q s t) (P : Channel → Green → Prop) (c : Chan)
    (step : ∀ r g r' g', P r g → Item q r g r' g' → P r' g') (hs : P (s.chan c) (s.green c)) : P (t.chan c) (t.green c) := by
  induction h with
  | refl => exact hs
  | tail _ k ih => exact step _ _ _ _ ih (k.item c)

/-! ### What an order does to the sign chain and the tone lines (R175, R166) -/

/-- The sign chain but for its pending flag, which is not cleared. -/
def SignsAsk (s t : State) : Prop := t.signs = { s.signs with pendingExchange := t.signs.pendingExchange } ∧
  (s.signs.pendingExchange = true → t.signs.pendingExchange = true)

theorem SignsAsk.refl (s : State) : SignsAsk s s := ⟨rfl, id⟩

theorem SignsAsk.trans {s t u : State} (h : SignsAsk s t) (k : SignsAsk t u) : SignsAsk s u :=
  ⟨by rw [k.1, h.1], fun e => k.2 (h.2 e)⟩

theorem changeMode_asks (m : Mode) (s : State) : SignsAsk s (changeMode m s) := by
  have e : (changeMode m s).signs = { s.signs with pendingExchange := true } := by
    simp only [changeMode, tonesAtMode, signsAtMode, copyTimings]
    split <;> rfl
  exact ⟨by rw [e], fun _ => by rw [e]⟩

theorem Order.asks {q : Bool} {s t : State} (h : Order q s t) : SignsAsk s t := by
  have touch {d : Chan} {u : State} (k : Touches (· = d) s u) : SignsAsk s u := ⟨k.signs, k.asked⟩
  cases h with
  | clocks => exact .refl s
  | plan => exact .refl s
  | flags => exact .refl s
  | ends d h => exact touch (terminateChannel_touches d s)
  | starts d => exact touch (startChannel_touches d s)
  | cutGreens n m hq => exact .refl s
  | cut n d hq => exact touch (cutClearance_touches n d s)
  | flashes _ ha =>
    have forced : SignsAsk s (forceAll .flash .dark s) := ⟨rfl, id⟩
    exact forced.trans (changeMode_asks .localFlash (forceAll .flash .dark s))

theorem Orders.asks {q : Bool} {s t : State} (h : Orders q s t) : SignsAsk s t := by
  induction h with
  | refl => exact .refl s
  | tail _ k ih => exact ih.trans k.asks

end Sys2Proof.Machine

/-! PROOFS. What the consequences of a moment leave of the inputs, the clocks and the link; the supply sample (O24). -/

namespace Sys2Proof.Machine

/-! ### The aftermath of a moment -/

/-- What the acts of the unit mode and the judgments of a moment leave as it is: the time, the inputs with their levels and
counts, the plug read, the link but for flags that rise, and the timer of the sign chain, an exchange asked for staying so. -/
structure Aftermath (s t : State) : Prop where
  time : t.time = s.time
  dets : t.dets = s.dets
  detMasks : t.detMasks = s.detMasks
  plug : t.compat.reading = s.compat.reading ∧ t.compat.readStart = s.compat.readStart
  link : ∃ m, t.link = { s.link with flags := m }
  flags : FlagsStay s t
  signs : t.signs.timer = s.signs.timer ∧ t.signs.period = s.signs.period ∧ t.signs.count = s.signs.count
  asked : s.signs.pendingExchange = true → t.signs.pendingExchange = true
  levels : ∀ p, (t.pre p).level = (s.pre p).level ∧ (t.pre p).run = (s.pre p).run ∧
    (t.pre p).presence = (s.pre p).presence ∧ (t.pre p).stuck = (s.pre p).stuck ∧ (t.pre p).cfg = (s.pre p).cfg

theorem Aftermath.refl (s : State) : Aftermath s s :=
  ⟨rfl, rfl, rfl, ⟨rfl, rfl⟩, ⟨_, rfl⟩, fun _ => id, ⟨rfl, rfl, rfl⟩, id, fun _ => ⟨rfl, rfl, rfl, rfl, rfl⟩⟩

theorem Aftermath.trans {s t u : State} (h : Aftermath s t) (k : Aftermath t u) : Aftermath s u where
  time := k.time.trans h.time
  dets := k.dets.trans h.dets
  detMasks := k.detMasks.trans h.detMasks
  plug := ⟨k.plug.1.trans h.plug.1, k.plug.2.trans h.plug.2⟩
  link := by
    obtain ⟨m, e⟩ := h.link
    obtain ⟨n, f⟩ := k.link
    exact ⟨n, by rw [f, e]⟩
  flags i e := k.flags i (h.flags i e)
  signs := ⟨k.signs.1.trans h.signs.1, k.signs.2.1.trans h.signs.2.1, k.signs.2.2.trans h.signs.2.2⟩
  asked e := k.asked (h.asked e)
  levels p := ⟨(k.levels p).1.trans (h.levels p).1, (k.levels p).2.1.trans (h.levels p).2.1,
    (k.levels p).2.2.1.trans (h.levels p).2.2.1, (k.levels p).2.2.2.1.trans (h.levels p).2.2.2.1,
    (k.levels p).2.2.2.2.trans (h.levels p).2.2.2.2⟩

/-- A change that leaves these blocks alone. -/
theorem blocks_after {s t : State} (ht : t.time = s.time) (hd : t.dets = s.dets) (hm : t.detMasks = s.detMasks)
    (hc : t.compat.reading = s.compat.reading ∧ t.compat.readStart = s.compat.readStart) (hl : t.link = s.link)
    (hg : SignsAsk s t)
    (hp : ∀ p, (t.pre p).level = (s.pre p).level ∧ (t.pre p).run = (s.pre p).run ∧
      (t.pre p).presence = (s.pre p).presence ∧ (t.pre p).stuck = (s.pre p).stuck ∧ (t.pre p).cfg = (s.pre p).cfg) :
    Aftermath s t :=
  ⟨ht, hd, hm, hc, ⟨s.link.flags, by rw [hl]⟩, fun _ e => by rw [hl]; exact e, by rw [hg.1]; exact ⟨rfl, rfl, rfl⟩, hg.2, hp⟩

theorem settle_after (old new : State) : Aftermath new (settle old new) := by
  have k := settle_keeps old new
  have asks := (settle_orders (q := false) (old := old) (new := new) nofun).asks
  exact ⟨k.time, k.dets, k.detMasks, by rw [k.compat]; exact ⟨rfl, rfl⟩, k.link, settle_flags old new,
    by rw [asks.1]; exact ⟨rfl, rfl, rfl⟩, asks.2, k.levels⟩

theorem changeMode_after (m : Mode) (s : State) : Aftermath s (changeMode m s) :=
  blocks_after (by simp) (by simp) (by simp) (by simp) (by simp) (changeMode_asks m s)
    (fun p => by rw [pre_of_pres (changeMode_pres m s)]; exact ⟨rfl, rfl, rfl, rfl, rfl⟩)

theorem Touches.after {m : Chan → Prop} {s t : State} (h : Touches m s t) : Aftermath s t := by
  have time : t.time = s.time := by rw [h.frame]
  have masks : t.detMasks = s.detMasks := by rw [h.frame]
  obtain ⟨-, link, -, pres, -, compat, dets, -⟩ := h.calm
  exact blocks_after time dets masks (by rw [compat]; exact ⟨rfl, rfl⟩) link ⟨h.signs, h.asked⟩
    (fun p => by rw [pre_of_pres pres]; exact ⟨rfl, rfl, rfl, rfl, rfl⟩)

theorem requestLatches_after (m : ChanSet) (s : State) : Aftermath s (requestLatches m s) :=
  (requestLatches_touches m s).after

theorem handForced_after (o s : State) : Aftermath s (handForced o s) := by
  unfold handForced handLocking
  exact requestLatches_after _ s

theorem stopPreempts_after (s : State) : Aftermath s (stopPreempts s) := by
  refine blocks_after rfl rfl rfl ⟨rfl, rfl⟩ rfl ⟨rfl, id⟩ (fun p => ?_)
  simp only [stopPreempts, State.pre, vmap_get, and_self]

theorem pres_after {s t : State} (ht : t.time = s.time) (hd : t.dets = s.dets) (hm : t.detMasks = s.detMasks)
    (hc : t.compat.reading = s.compat.reading) (hr : t.compat.readStart = s.compat.readStart) (hl : t.link = s.link)
    (hg : t.signs = s.signs) (hp : t.pres = s.pres) : Aftermath s t :=
  blocks_after ht hd hm ⟨hc, hr⟩ hl ⟨by rw [hg], fun e => by rw [hg]; exact e⟩
    (fun p => by rw [pre_of_pres hp]; exact ⟨rfl, rfl, rfl, rfl, rfl⟩)

theorem forceAll_after (v p : Indication) (s : State) : Aftermath s (forceAll v p s) := by
  apply pres_after <;> rfl

theorem dropHeld_after (s : State) : Aftermath s (dropHeld s) := by
  apply pres_after <;> rfl

theorem drivesOff_after (s : State) : Aftermath s (drivesOff s) := by
  apply pres_after <;> rfl

theorem leaveUnjudged_after (s : State) : Aftermath s (leaveUnjudged s) := by
  apply pres_after <;> rfl

theorem setCause_after (k : FlashCause) (s : State) : Aftermath s (setCause k s) := by
  apply pres_after <;> rfl

theorem idleGreens_after (s : State) : Aftermath s (idleGreens s) := by
  apply pres_after <;> rfl

theorem stopExecution_after (s : State) : Aftermath s (stopExecution s) := by
  apply pres_after <;> rfl

theorem stopAtHead_after (s : State) : Aftermath s (stopAtHead s) := by
  apply pres_after <;> rfl

theorem restartGreens_after (s : State) : Aftermath s (restartGreens s) := by
  apply pres_after <;> rfl

theorem endOutage_after (s : State) : Aftermath s (endOutage s) := by
  apply pres_after <;> rfl

theorem restoreHeld_after (s : State) : Aftermath s (restoreHeld s) := by
  apply pres_after <;> rfl

theorem darkened_after (s : State) : Aftermath s (drivesOff (dropHeld (forceAll .dark .dark s))) :=
  ((forceAll_after _ _ s).trans (dropHeld_after _)).trans (drivesOff_after _)

theorem enterFaultFlash_after (s : State) : Aftermath s (enterFaultFlash s) := by
  have dousing : Aftermath s (doused s) :=
    (((((darkened_after s).trans (leaveUnjudged_after _)).trans (setCause_after .none _)).trans (idleGreens_after _)).trans
      (stopAtHead_after _)).trans (stopPreempts_after _)
  rw [enterFaultFlash_eq]
  exact (dousing.trans (changeMode_after _ _)).trans (handForced_after s _)

theorem recordFindings_flags (fs : List Finding) (s : State) : FlagsStay s (recordFindings fs s) := by
  have one (s : State) (f : Finding) : FlagsStay s (recordFinding s f) := fun i h => by
    unfold recordFinding
    split
    · simp [flag_link, h]
    · split
      · exact h
      · simp [flag_link, h]
  unfold recordFindings
  induction fs generalizing s with
  | nil => exact fun _ h => h
  | cons f fs ih => exact fun i h => ih _ i (one s f i h)

theorem recordFindings_after (fs : List Finding) (s : State) : Aftermath s (recordFindings fs s) := by
  obtain ⟨r, m, e⟩ := recordFindings_eq fs s
  have flags := recordFindings_flags fs s
  rw [e] at flags ⊢
  exact ⟨rfl, rfl, rfl, ⟨rfl, rfl⟩, ⟨m, rfl⟩, flags, ⟨rfl, rfl, rfl⟩, id, fun _ => ⟨rfl, rfl, rfl, rfl, rfl⟩⟩

theorem faultNotice_after (fs : List Finding) (s : State) : Aftermath s (faultNotice fs s) := by
  rcases faultNotice_cases fs s with ⟨-, h⟩ | ⟨-, -, h⟩ | ⟨-, -, -, h⟩ <;> rw [h]
  · exact .refl s
  · exact recordFindings_after fs s
  · exact (recordFindings_after fs s).trans (enterFaultFlash_after _)

theorem monitorNotice_after (fs : List Finding) (s : State) : Aftermath s (monitorNotice fs s) := by
  obtain ⟨k, h, -⟩ := monitorNotice_eq fs s
  have noticed := faultNotice_after fs s
  rw [h]
  exact { noticed with }

theorem enterControlled_after (s : State) : Aftermath s (enterControlled s) := changeMode_after _ s

theorem leaveService_after (s : State) : Aftermath s (leaveService s) := by
  unfold leaveService
  split
  · next p hp =>
    have put : Aftermath s (s.setPre p (s.pre p).putOut) := by
      refine blocks_after rfl rfl rfl ⟨rfl, rfl⟩ rfl ⟨rfl, id⟩ (fun q => ?_)
      rw [setPre_get]
      split
      · next e => rw [e]; exact ⟨rfl, rfl, rfl, rfl, rfl⟩
      · exact ⟨rfl, rfl, rfl, rfl, rfl⟩
    exact put.trans (by apply pres_after <;> rfl)
  · apply pres_after <;> rfl

theorem enterClearing_after (k : FlashCause) (s : State) : Aftermath s (enterClearing k s) := by
  unfold enterClearing
  exact (((stopExecution_after s).trans (leaveService_after _)).trans (setCause_after k _)).trans (changeMode_after _ _)

theorem linkLoss_after (s : State) : Aftermath s (linkLoss s) := by
  unfold linkLoss
  split
  · exact enterClearing_after _ s
  · split
    · exact { Aftermath.refl s with }
    · exact .refl s

theorem expireAll_after (m : ChanSet) (s : State) : Aftermath s (expireAll m s) := (expireAll_touches m s).after

theorem restart_after (s : State) : Aftermath s (restart s) := by
  have put := ((darkened_after s).trans (restartGreens_after _)).trans (stopAtHead_after _)
  have clearing (u : State) : Aftermath u { u with
      seq := { u.seq with hold := false }
      compat := { u.compat with owed := none }
      mon := u.mon.restarted
      unit := { u.unit with
        cause := .none
        remembered := none
        startFlashTimer := u.unit.startFlashTime
        entryRedTimer := 0
        outageTimer := 0
        owedLinkLoss := false } } := by
    apply pres_after <;> rfl
  have all : Aftermath s (cleared s) := (put.trans (stopPreempts_after _)).trans (clearing _)
  rw [restart_eq]
  exact all.trans (changeMode_after _ _)

theorem abandonExchange_after (s : State) : Aftermath s (abandonExchange s) := by
  unfold abandonExchange
  split
  · exact ⟨rfl, rfl, rfl, ⟨rfl, rfl⟩, ⟨_, rfl⟩, fun _ => id, ⟨rfl, rfl, rfl⟩, id, fun _ => ⟨rfl, rfl, rfl, rfl, rfl⟩⟩
  · exact .refl s

theorem enterPowerOut_after (s : State) : Aftermath s (enterPowerOut s) := by
  have held (v : Vector Channel 16) (w : UnitState) : Aftermath s { s with chans := v, unit := w } := by
    apply pres_after <;> rfl
  unfold enterPowerOut
  exact ((((held _ _).trans (drivesOff_after _)).trans (leaveUnjudged_after _)).trans (abandonExchange_after _)).trans
    (changeMode_after _ _)

theorem actOnResume_after (b : Bool) (s : State) : Aftermath s (actOnResume b s) := by
  have unowed : Aftermath s { s with compat := { s.compat with owed := none } } := { Aftermath.refl s with }
  unfold actOnResume
  simp only
  split
  · exact unowed.trans (faultNotice_after _ _)
  · split
    · exact enterClearing_after _ s
    · split
      · exact enterClearing_after _ s
      · exact .refl s

theorem leavePowerOut_after (s : State) : Aftermath s (leavePowerOut s) := by
  have unowed : Aftermath s { s with compat := { s.compat with owed := none } } := { Aftermath.refl s with }
  have fault : Aftermath s (outageToFault s) := (unowed.trans (enterFaultFlash_after _)).trans (endOutage_after _)
  unfold leavePowerOut
  split
  · exact fault
  · split
    · exact fault
    · split
      · exact (((restoreHeld_after s).trans (changeMode_after _ _)).trans (actOnResume_after _ _)).trans (endOutage_after _)
      · exact restart_after s

/-! ### What follows the driven timers of a tenth tick -/

theorem takeEntryRedEnd_after (b : Bool) (s : State) : Aftermath s (takeEntryRedEnd b s) := by
  unfold takeEntryRedEnd
  split
  · exact (enterControlled_after s).trans (settle_after _ _)
  · exact .refl s

theorem tenthTick_after (s : State) : Aftermath (driveTick s).1 (tenthTick s) := by
  unfold tenthTick
  simp only
  have settled := ((monitorNotice_after (redFindings (driveTick s).2) (driveTick s).1).trans
    (expireAll_after s.expiring _)).trans (settle_after s _)
  have ended := settled.trans (takeEntryRedEnd_after (s.unit.mode == .entryRed && s.unit.entryRedTimer == 1) _)
  split
  · exact (ended.trans (linkLoss_after _)).trans (settle_after _ _)
  · exact ended

/-! ### The timers that a tenth tick drives, block by block -/

theorem tickCounter_blocks (s : State) : (tickCounter s).time = { s.time with tenth := s.time.tenth + 1 } ∧
    tickCounter s = { s with time := (tickCounter s).time, compat := (tickCounter s).compat } ∧
    (tickCounter s).compat =
      if (s.time.tenth + 1).toNat % 10 = 0 then { s.compat with reading := some 0, readStart := s.time.lastTenth }
      else s.compat := by
  unfold tickCounter
  simp only
  split <;> exact ⟨rfl, rfl, rfl⟩

theorem tickChannels_blocks (s : State) : tickChannels s = { s with chans := (tickChannels s).chans } := by
  unfold tickChannels
  split <;> rfl

theorem tickStep_blocks (s : State) : tickStep s = { s with seq := (tickStep s).seq } := by
  unfold tickStep
  split <;> rfl

theorem tickMonitor_blocks (s : State) : (tickMonitor s).1 = { s with mon := (tickMonitor s).1.mon } := by
  unfold tickMonitor
  split <;> rfl

theorem setFault_blocks (d : Det) (k : DetectorFault) (s : State) : setFault d k s =
    { s with dets := (setFault d k s).dets, detMasks := (setFault d k s).detMasks, link := (setFault d k s).link } := by
  unfold setFault
  split <;> rfl

theorem flag_flags (r : Report) (s : State) : FlagsStay s (flag r s) := fun i h => by simp [flag_link, h]

theorem setFault_flags (d : Det) (k : DetectorFault) (s : State) : FlagsStay s (setFault d k s) := by
  unfold setFault
  split
  · exact fun _ => id
  · exact flag_flags .detector _

end Sys2Proof.Machine

/-! PROOFS. What a tenth tick drives, block by block, before anything follows from it (O17, O18). -/

namespace Sys2Proof.Machine

/-! ### The faults and the windows of the detectors (R95 to R98) -/

/-- A fold over the detectors whose step changes its own detector only. -/
theorem foldl_det {op : State → Det → State} {f : Detector → Detector}
    (h : ∀ s d e, (op s d).det e = if e = d then f (s.det d) else s.det e) {l : List Det} (hl : l.Nodup) (s : State) (e : Det) :
    (l.foldl op s).det e = if e ∈ l then f (s.det e) else s.det e := by
  induction l generalizing s with
  | nil => rfl
  | cons d l ih =>
    obtain ⟨hd, hl⟩ := List.nodup_cons.mp hl
    rw [List.foldl_cons, ih hl, h]
    by_cases e' : e = d
    · subst e'; simp [hd]
    · simp [e']

theorem setDet_get (s : State) (d e : Det) (r : Detector) : (s.setDet d r).det e = if e = d then r else s.det e :=
  vset_get _ _ _ _

theorem setFault_det (d : Det) (k : DetectorFault) (s : State) (e : Det) :
    (setFault d k s).det e = if e = d then { s.det d with fault := k } else s.det e := by
  unfold setFault
  split
  · next h =>
    split
    · next e' => rw [e', ← h]
    · rfl
  · exact setDet_get s d e _

/-- A detector after the faults of its timers (R95, R96). -/
def Detector.faulting (r : Detector) : Detector :=
  match r.timedFault with
  | some k => { r with fault := k }
  | none => r

/-- A detector after the end of a chatter window (R97). -/
def Detector.windowEnd (r : Detector) : Detector :=
  if r.mode = .off then r
  else if r.fault = .chatter then
    if r.window < r.chatterLimit then
      if r.cleanRun = 9 then { r with window := 0, cleanRun := 0, fault := .ok }
      else { r with window := 0, cleanRun := r.cleanRun + 1 }
    else { r with window := 0, cleanRun := 0 }
  else { r with window := 0 }

theorem takeTimedFault_det (s : State) (d e : Det) :
    (takeTimedFault s d).det e = if e = d then (s.det d).faulting else s.det e := by
  cases h : (s.det d).timedFault with
  | some k =>
    simp only [takeTimedFault, Detector.faulting, h]
    exact setFault_det d k s e
  | none =>
    simp only [takeTimedFault, Detector.faulting, h]
    split
    · next e' => rw [e']
    · rfl

theorem endWindow_det (s : State) (d e : Det) :
    (endWindow s d).det e = if e = d then (s.det d).windowEnd else s.det e := by
  have alone : s.det e = if e = d then s.det d else s.det e := by
    split
    · next e' => rw [e']
    · rfl
  unfold endWindow Detector.windowEnd
  simp only
  by_cases hm : (s.det d).mode = .off
  · simp only [hm, if_true]; exact alone
  by_cases hf : (s.det d).fault = .chatter
  · by_cases hw : (s.det d).window < (s.det d).chatterLimit
    · by_cases hc : (s.det d).cleanRun = 9
      · simp only [hm, hf, hw, hc, if_true, if_false, Config.cleanWindows]
        rw [setFault_det, setDet_get, setDet_get, if_pos rfl]
        split <;> rfl
      · simp only [hm, hf, hw, hc, if_true, if_false, Config.cleanWindows, Nat.reduceEqDiff]
        exact setDet_get s d e _
    · simp only [hm, hf, hw, if_true, if_false, Config.cleanWindows]
      exact setDet_get s d e _
  · simp only [hm, hf, if_false]
    exact setDet_get s d e _

theorem endWindows_det (s : State) (d : Det) : (endWindows s).det d = (s.det d).windowEnd := by
  rw [endWindows, foldl_det endWindow_det (List.nodup_finRange 24), if_pos (List.mem_finRange d)]

/-- What an event of the detectors may touch besides the tone lines, no report flag being cleared. -/
def DetFault (s t : State) : Prop :=
  t = { s with dets := t.dets, detMasks := t.detMasks, greens := t.greens, link := { s.link with flags := t.link.flags } } ∧
    FlagsStay s t

theorem DetFault.refl (s : State) : DetFault s s := ⟨rfl, fun _ => id⟩

theorem DetFault.trans {s t u : State} (h : DetFault s t) (k : DetFault t u) : DetFault s u :=
  ⟨by rw [k.1, h.1], fun i e => k.2 i (h.2 i e)⟩

theorem DetFault.foldl {α : Type} (f : State → α → State) (h : ∀ s a, DetFault s (f s a)) (l : List α) (s : State) :
    DetFault s (l.foldl f s) := by
  induction l generalizing s with
  | nil => exact .refl s
  | cons a l ih => exact (h s a).trans (ih _)

theorem setDet_fault (s : State) (d : Det) (r : Detector) : DetFault s (s.setDet d r) := ⟨rfl, fun _ => id⟩

theorem setFault_fault (d : Det) (k : DetectorFault) (s : State) : DetFault s (setFault d k s) := by
  unfold setFault
  split
  · exact .refl s
  · exact ⟨rfl, flag_flags .detector _⟩

theorem takeTimedFault_fault (s : State) (d : Det) : DetFault s (takeTimedFault s d) := by
  unfold takeTimedFault
  split
  · exact setFault_fault _ _ s
  · exact .refl s

theorem endWindow_fault (s : State) (d : Det) : DetFault s (endWindow s d) := by
  unfold endWindow
  simp only
  split
  · exact .refl s
  · split
    · generalize (if (s.det d).window < (s.det d).chatterLimit then (s.det d).cleanRun + 1 else 0) = n
      split
      · exact (setDet_fault s d _).trans (setFault_fault _ _ _)
      · exact setDet_fault s d _
    · exact setDet_fault s d _

theorem requestLatches_fault (m : ChanSet) (s : State) : DetFault s (requestLatches m s) := by
  obtain ⟨g, e⟩ := requestLatches_eq m s
  rw [e]
  exact ⟨rfl, fun _ => id⟩

theorem handBegun_fault (o s : State) : DetFault s (handBegun o s) := requestLatches_fault _ s

theorem endWindows_fault (s : State) : DetFault s (endWindows s) := DetFault.foldl _ endWindow_fault _ s

theorem tickDetectors_fault (s : State) : DetFault s (tickDetectors s) := by
  have ticked : DetFault s { s with dets := vmap (fun d r => r.tick (s.detOccupied d)) s.dets } := ⟨rfl, fun _ => id⟩
  have faults := ticked.trans (DetFault.foldl _ takeTimedFault_fault (List.finRange 24) _)
  unfold tickDetectors
  simp only
  split
  · exact (faults.trans (endWindows_fault _)).trans (handBegun_fault s _)
  · exact faults.trans (handBegun_fault s _)

theorem requestLatches_det (m : ChanSet) (s : State) (d : Det) : (requestLatches m s).det d = s.det d := by
  obtain ⟨g, e⟩ := requestLatches_eq m s
  rw [e]
  rfl

theorem tickDetectors_det (s : State) (d : Det) : (tickDetectors s).det d =
    if s.time.tenth.toNat % 10 = 0 then ((s.det d).tick (s.detOccupied d)).faulting.windowEnd
    else ((s.det d).tick (s.detOccupied d)).faulting := by
  have faulted : (((List.finRange 24).foldl takeTimedFault
      { s with dets := vmap (fun d r => r.tick (s.detOccupied d)) s.dets })).det d =
      ((s.det d).tick (s.detOccupied d)).faulting := by
    rw [foldl_det takeTimedFault_det (List.nodup_finRange 24), if_pos (List.mem_finRange d)]
    exact congrArg Detector.faulting (vmap_get _ _ _)
  have time : ((List.finRange 24).foldl takeTimedFault
      { s with dets := vmap (fun d r => r.tick (s.detOccupied d)) s.dets }).time = s.time := by
    rw [(DetFault.foldl _ takeTimedFault_fault (List.finRange 24) _).1]
  unfold tickDetectors handBegun
  simp only [requestLatches_det, time]
  split
  · rw [endWindows_det, faulted]
  · exact faulted

/-! ### The state that a tick has driven -/

/-- The part up to its detectors at a tenth tick. -/
def tickedInputs (s : State) : State := tickDetectors (tickGreens (tickStep (tickOnce s)))

theorem tickOnce_blocks (s : State) : tickOnce s = { s with
    time := { s.time with tenth := s.time.tenth + 1 }
    compat := if (s.time.tenth + 1).toNat % 10 = 0 then { s.compat with reading := some 0, readStart := s.time.lastTenth }
      else s.compat
    chans := (tickOnce s).chans } := by
  obtain ⟨h1, h2, h3⟩ := tickCounter_blocks s
  rw [h1, h3] at h2
  rw [tickOnce, tickChannels_blocks, h2]

theorem tickedInputs_blocks (s : State) : let u := tickedInputs s
    u.time = { s.time with tenth := s.time.tenth + 1 } ∧ u.compat = (if (s.time.tenth + 1).toNat % 10 = 0 then
      { s.compat with reading := some 0, readStart := s.time.lastTenth } else s.compat) ∧
    u.unit = s.unit ∧ u.pres = s.pres ∧ u.arb = s.arb ∧ u.signs = s.signs ∧ u.mon = s.mon ∧ u.lamps = s.lamps ∧
    u.tones = s.tones ∧ u.chans = (tickOnce s).chans ∧ u.seq = (tickStep (tickOnce s)).seq ∧
    u.link = { s.link with flags := u.link.flags } ∧ FlagsStay s u := by
  have once := tickOnce_blocks s
  rw [tickedInputs]
  generalize tickOnce s = a at *
  have step := tickStep_blocks a
  generalize tickStep a = b at *
  obtain ⟨frame, flags⟩ := tickDetectors_fault (tickGreens b)
  generalize tickDetectors (tickGreens b) = d at *
  have start : FlagsStay s (tickGreens b) := by
    rw [step, once]
    exact fun _ => id
  rw [step, once] at frame
  refine ⟨?_, ?_, ?_, ?_, ?_, ?_, ?_, ?_, ?_, ?_, ?_, ?_, fun i h => flags i (start i h)⟩
  all_goals (rw [frame]; rfl)

theorem unitTick_mode (u : UnitState) : u.tick.mode = u.mode := by
  unfold UnitState.tick
  split <;> next h => exact h ▸ rfl

theorem tickStatus_link (s : State) : ∃ f, tickStatus s = { s with link := { s.link with
      flags := f
      statusTimer := if s.link.statusPeriod = 0 then s.link.statusTimer
        else if 1 < s.link.statusTimer then s.link.statusTimer - 1 else s.link.statusPeriod * 10 } } ∧
    (∀ i, has s.link.flags i = true → has f i = true) ∧
    (0 < s.link.statusPeriod → s.link.statusTimer ≤ 1 → has f Report.status.index = true) := by
  unfold tickStatus
  by_cases hp : s.link.statusPeriod = 0
  · simp only [if_pos hp]
    exact ⟨s.link.flags, rfl, fun _ => id, fun h => absurd h (by omega)⟩
  by_cases ht : 1 < s.link.statusTimer
  · simp only [hp, ht, if_true, if_false]
    exact ⟨s.link.flags, rfl, fun _ => id, fun _ h => absurd h (Nat.not_le.mpr ht)⟩
  · simp only [hp, ht, if_false]
    exact ⟨insertBit s.link.flags Report.status.index, rfl, fun i h => by simp [h], fun _ _ => by simp⟩

theorem tickSupervision_link (s : State) : ∃ f, tickSupervision s = { s with link := { s.link with
      flags := f, supervision := s.link.supervision - 1, lost := s.link.lost || s.link.supervision == 1 } } ∧
    (∀ i, has s.link.flags i = true → has f i = true) := by
  unfold tickSupervision
  by_cases h : s.link.supervision = 1
  · unfold loseLink
    simp only [h, if_true]
    cases hl : s.link.lost
    · exact ⟨insertBit s.link.flags Report.status.index, rfl, fun i k => by simp [k]⟩
    · exact ⟨s.link.flags, rfl, fun _ => id⟩
  · have ne : (s.link.supervision == 1) = false := by simpa using h
    simp only [h, ne, if_false, Bool.or_false]
    exact ⟨s.link.flags, rfl, fun _ => id⟩

/-- Every block that a tick drives after the detectors: the preempts, the Monitor, the timers of the unit mode, of the sign
chain and of the link (R104, R126, R138, R141, R147, R175, R186, R187). -/
theorem driveTick_blocks (s : State) : ∃ m l,
    (driveTick s).1 = { tickedInputs s with
      pres := vmap (fun _ p => p.tick s.unit.mode) s.pres
      mon := m
      unit := s.unit.tick
      signs := if 0 < s.signs.count ∧ s.unit.mode ≠ .powerOut then s.signs.tick else s.signs
      link := l } ∧
    (∃ f, l = { s.link with
      flags := f
      statusTimer := if s.link.statusPeriod = 0 then s.link.statusTimer
        else if 1 < s.link.statusTimer then s.link.statusTimer - 1 else s.link.statusPeriod * 10
      supervision := s.link.supervision - 1
      lost := s.link.lost || s.link.supervision == 1 }) ∧
    (∀ i, has (tickedInputs s).link.flags i = true → has l.flags i = true) ∧
    (0 < s.link.statusPeriod → s.link.statusTimer ≤ 1 → has l.flags Report.status.index = true) := by
  obtain ⟨-, -, unit, pres, -, signs, -, -, -, -, -, link, -⟩ := tickedInputs_blocks s
  have before : driveTick s = (tickSupervision (tickStatus (tickSigns
      { (tickMonitor (tickPreempts (tickedInputs s))).1 with unit := (tickMonitor (tickPreempts (tickedInputs s))).1.unit.tick })),
      (tickMonitor (tickPreempts (tickedInputs s))).2) := rfl
  rw [before]
  simp only
  generalize tickedInputs s = u at *
  have watched := tickMonitor_blocks (tickPreempts u)
  generalize (tickMonitor (tickPreempts u)).1 = w at *
  have signed : tickSigns { w with unit := w.unit.tick } = { w with
      unit := s.unit.tick
      signs := if 0 < s.signs.count ∧ s.unit.mode ≠ .powerOut then s.signs.tick else s.signs } := by
    have e1 : w.unit = s.unit := by rw [watched]; exact unit
    have e2 : w.signs = s.signs := by rw [watched]; exact signs
    simp only [tickSigns, unitTick_mode, e1, e2]
    split
    · rfl
    · rw [← e2]
  rw [signed]
  generalize hv : ({ w with
    unit := s.unit.tick
    signs := if 0 < s.signs.count ∧ s.unit.mode ≠ .powerOut then s.signs.tick else s.signs } : State) = v
  have vlink : v.link = u.link := by rw [← hv, watched]; rfl
  obtain ⟨f, e, mono, status⟩ := tickStatus_link v
  rw [e]
  obtain ⟨g, e', mono'⟩ := tickSupervision_link { v with link := { v.link with
      flags := f
      statusTimer := if v.link.statusPeriod = 0 then v.link.statusTimer
        else if 1 < v.link.statusTimer then v.link.statusTimer - 1 else v.link.statusPeriod * 10 } }
  rw [e', vlink] at *
  rw [link] at mono status ⊢
  refine ⟨w.mon, _, ?_, ⟨g, rfl⟩, fun i h => mono' i (mono i h), fun h k => mono' _ (status h k)⟩
  rw [← hv, watched]
  simp only [tickPreempts, pres, unit]

end Sys2Proof.Machine

/-! PROOFS. The tenth tick on the timebase, the inputs, the unit mode, the signs and the link (O17, O18). -/

namespace Sys2Proof.Machine

/-! ### A row that is a tenth tick (R152, R157) -/

/-- The timebase of a tenth tick before its counter: the moment, the switchover and the mark of a given tick. -/
def State.tickTime (s : State) (c : Instr) : Timebase :=
  { s.time with
    lastTenth := if c = .crystalTenth then s.time.lastTenth + 100000 else s.time.clock
    clock := if c = .crystalTenth then max s.time.clock (s.time.lastTenth + 100000) else s.time.clock
    mainsPaced := if s.time.lock = .locked then true else s.time.mainsPaced
    mainsCount := if c = .crystalTenth ∧ s.time.lock = .locked then 0 else s.time.mainsCount
    tenthGiven := if c = .mainsTenth then true else s.time.tenthGiven }

theorem perTenth_eq (t : Timebase) : t.working.perTenth = if t.sixty then 12 else 10 := by
  unfold Timebase.working
  split <;> rfl

theorem exec_takesTenth {c : Instr} {s : State} (h : s.takesTenth c) :
    exec c s = .next (tenthTick { s with time := s.tickTime c }) := by
  obtain ⟨rfl, hp⟩ | ⟨rfl, hl, hp, hg, hc⟩ := h
  · have free : ¬ (s.time.lock = .locked ∧ s.time.mainsPaced = true) := fun k => by simp [hp k.1] at k
    simp only [exec, execCrystalTenth, crystalTenth, if_neg free, tenthAt]
    congr 2
    by_cases hl : s.time.lock = .locked
    · simp [State.tickTime, hl, Timebase.seen, Config.tenthMicros]
    · simp [State.tickTime, hl, Timebase.seen, Config.tenthMicros]
  · have due : s.time.lock = .locked ∧ s.time.mainsPaced = true ∧ s.time.tenthGiven = false ∧
        s.time.mainsCount + 1 = s.time.working.perTenth := ⟨hl, hp, hg, by rw [perTenth_eq]; exact hc⟩
    simp only [exec, execMainsTenth, if_pos due, tenthAt]
    congr 2
    simp [State.tickTime, hl, hp, Timebase.seen]

/-- What a row that is a tenth tick leaves: the consequences of the driven timers. -/
theorem takesTenth_after {c : Instr} {s : State} (h : s.takesTenth c) : ∃ t, exec c s = .next t ∧
    t = tenthTick { s with time := s.tickTime c } ∧ Aftermath (driveTick { s with time := s.tickTime c }).1 t :=
  ⟨_, exec_takesTenth h, rfl, tenthTick_after _⟩

/-! ### The unit's timers through the consequences of a tick -/

/-- The timers of the unit mode stay through a change of mode (R138, R141, R147). -/
def SameTimers (s t : State) : Prop := t.unit.startFlashTimer = s.unit.startFlashTimer ∧
  t.unit.entryRedTimer = s.unit.entryRedTimer ∧ t.unit.outageTimer = s.unit.outageTimer

theorem SameTimers.trans {s t u : State} (h : SameTimers s t) (k : SameTimers t u) : SameTimers s u :=
  ⟨k.1.trans h.1, k.2.1.trans h.2.1, k.2.2.trans h.2.2⟩

theorem settle_timers (old new : State) : SameTimers new (settle old new) := by
  obtain ⟨m, b, e⟩ := (settle_keeps old new).unit
  unfold SameTimers
  rw [e]
  exact ⟨rfl, rfl, rfl⟩

theorem faultNotice_timers (fs : List Finding) (s : State) : SameTimers s (faultNotice fs s) := by
  obtain ⟨r, m, e⟩ := recordFindings_eq fs s
  unfold SameTimers
  rcases faultNotice_cases fs s with ⟨-, h⟩ | ⟨-, -, h⟩ | ⟨-, -, -, h⟩ <;> rw [h]
  · exact ⟨rfl, rfl, rfl⟩
  · rw [e]; exact ⟨rfl, rfl, rfl⟩
  · rw [enterFaultFlash_unit, e]; exact ⟨rfl, rfl, rfl⟩

theorem linkLoss_timers (s : State) : SameTimers s (linkLoss s) := by
  unfold linkLoss SameTimers
  split
  · rw [(enterClearing_view .linkLost s).2.2.2.2.1]; exact ⟨rfl, rfl, rfl⟩
  · split <;> exact ⟨rfl, rfl, rfl⟩

theorem takeEntryRedEnd_timers (b : Bool) (s : State) : SameTimers s (takeEntryRedEnd b s) := by
  unfold takeEntryRedEnd
  split
  · refine SameTimers.trans (t := enterControlled s) ?_ (settle_timers _ _)
    unfold SameTimers enterControlled
    rw [changeMode_unit]
    exact ⟨rfl, rfl, rfl⟩
  · exact ⟨rfl, rfl, rfl⟩

theorem tenthTick_timers (s : State) : SameTimers (driveTick s).1 (tenthTick s) := by
  have notice : SameTimers (driveTick s).1 (monitorNotice (redFindings (driveTick s).2) (driveTick s).1) := by
    obtain ⟨k, e, -⟩ := monitorNotice_eq (redFindings (driveTick s).2) (driveTick s).1
    rw [e]
    exact faultNotice_timers _ _
  have expired (m : ChanSet) (u : State) : SameTimers u (expireAll m u) := by
    unfold SameTimers
    rw [(expireAll_clock m u).1]
    exact ⟨rfl, rfl, rfl⟩
  unfold tenthTick
  simp only
  have ended := ((notice.trans (expired s.expiring _)).trans (settle_timers s _)).trans
    (takeEntryRedEnd_timers (s.unit.mode == .entryRed && s.unit.entryRedTimer == 1) _)
  split
  · exact (ended.trans (linkLoss_timers _)).trans (settle_timers _ _)
  · exact ended

theorem unitTick_timers (u : UnitState) :
    u.tick.startFlashTimer = (if u.mode = .startFlash then u.startFlashTimer - 1 else u.startFlashTimer) ∧
    u.tick.entryRedTimer = (if u.mode = .entryRed then u.entryRedTimer - 1 else u.entryRedTimer) ∧
    u.tick.outageTimer = (if u.mode = .powerOut then min 65535 (u.outageTimer + 1) else u.outageTimer) := by
  unfold UnitState.tick
  cases h : u.mode <;> simp [h]

/-! ### O17 -/

/-- Settles O17, from the blocks that a tick drives and what its consequences leave. -/
theorem tenthTick_rules : Obligations.TenthTick := by
  unfold Obligations.TenthTick
  refine ⟨fun s hl hp => ?_, fun s h => ?_, fun c s h => ?_⟩
  · simp only [exec, execCrystalTenth, crystalTenth, if_pos (And.intro hl hp)]
  · have quiet : ¬ (s.time.lock = .locked ∧ s.time.mainsPaced = true ∧ s.time.tenthGiven = false ∧
        s.time.mainsCount + 1 = s.time.working.perTenth) := by
      rw [perTenth_eq]
      rintro ⟨h1, h2, h3, h4⟩
      simp [h1, h2, h3, h4] at h
    simp only [exec, execMainsTenth, if_neg quiet]
  · obtain ⟨t, e, rfl, after⟩ := takesTenth_after h
    generalize hs : ({ s with time := s.tickTime c } : State) = u at e after
    have timers := tenthTick_timers u
    obtain ⟨time, compat, -⟩ := tickedInputs_blocks u
    obtain ⟨m, l, driven, ⟨f, rfl⟩, -, status⟩ := driveTick_blocks u
    rw [driven] at after timers
    generalize tenthTick u = t at *
    obtain ⟨t1, t2, t3⟩ := unitTick_timers u.unit
    obtain ⟨k1, k2, k3⟩ := timers
    obtain ⟨n, link⟩ := after.link
    have clock : t.time = { s.tickTime c with tenth := s.time.tenth + 1 } := by
      rw [after.time]
      change (tickedInputs u).time = _
      rw [time, ← hs]
      rfl
    have plug : t.compat.reading = (if (s.time.tenth + 1).toNat % 10 = 0 then some 0 else s.compat.reading) ∧
        t.compat.readStart = if (s.time.tenth + 1).toNat % 10 = 0 then (s.tickTime c).lastTenth else s.compat.readStart := by
      rw [after.plug.1, after.plug.2]
      change (tickedInputs u).compat.reading = _ ∧ (tickedInputs u).compat.readStart = _
      rw [compat, ← hs]
      change (if (s.time.tenth + 1).toNat % 10 = 0 then _ else s.compat).reading = _ ∧
        (if (s.time.tenth + 1).toNat % 10 = 0 then _ else s.compat).readStart = _
      split <;> exact ⟨rfl, rfl⟩
    have signs : t.signs.timer = (if 0 < s.signs.count ∧ s.unit.mode ≠ .powerOut then s.signs.tick else s.signs).timer := by
      rw [after.signs.1, ← hs]
    have unit : u.unit = s.unit := by rw [← hs]
    have ulink : u.link = s.link := by rw [← hs]
    rw [unit] at t1 t2 t3
    rw [ulink] at link status
    refine ⟨t, e, clock, plug.1, by rw [clock]; exact plug.2, ?_, ?_, ?_, ?_, fun h1 h2 h3 => after.asked ?_, ?_,
      fun h1 h2 => after.flags _ (status h1 h2), ?_, ?_⟩
    · rw [k1, ← t1, ← unit]
    · rw [k2, ← t2, ← unit]
    · rw [k3, ← t3, ← unit]
    · rw [signs]
      unfold Signs.tick
      split
      · split <;> rfl
      · rfl
    · rw [← hs]
      change (if 0 < s.signs.count ∧ s.unit.mode ≠ .powerOut then s.signs.tick else s.signs).pendingExchange = true
      rw [if_pos ⟨h1, h2⟩, Signs.tick, if_neg (by omega)]
    · rw [link]
    · rw [link]
    · rw [link]

/-! ### O18 -/

/-- What a tick and the fault of its timers do to a detector that is not OFF (R90, R93, R95, R96). -/
theorem faulting_tick {r : Detector} (b : Bool) (h : r.mode ≠ .off) : (r.tick b).faulting = { r with
    delayTimer := if b then min 255 (r.delayTimer + 1) else r.delayTimer
    presence := if r.level then min 153001 (r.presence + 1) else r.presence
    absence := if r.level then r.absence else min 153001 (r.absence + 1)
    occupancy := if r.level then r.occupancy + 1 else r.occupancy
    fault := if r.fault ≠ .ok then r.fault
      else if r.level = true ∧ r.maxPresence ≠ 0 ∧
        r.maxPresence * 600 < (if r.level then min 153001 (r.presence + 1) else r.presence) then .stuckOn
      else if r.level = false ∧ r.maxAbsence ≠ 0 ∧
        r.maxAbsence * 600 < (if r.level then r.absence else min 153001 (r.absence + 1)) then .noActivity
      else .ok } := by
  by_cases hf : r.fault = .ok
  · simp only [Detector.faulting, Detector.tick, if_neg h, Detector.timedFault, hf, h, ne_eq, not_true_eq_false, or_self,
      if_false, Config.presenceTop, Config.minute]
    by_cases hp : r.level = true ∧ r.maxPresence ≠ 0 ∧
        r.maxPresence * 600 < (if r.level then min 153001 (r.presence + 1) else r.presence)
    · simp only [if_pos hp]
    · simp only [if_neg hp]
      by_cases ha : r.level = false ∧ r.maxAbsence ≠ 0 ∧
          r.maxAbsence * 600 < (if r.level then r.absence else min 153001 (r.absence + 1))
      · simp only [if_pos ha]
      · simp only [if_neg ha, hf]
  · simp [Detector.faulting, Detector.tick, h, Detector.timedFault, hf, Config.presenceTop]

theorem off_tick {r : Detector} (b : Bool) (h : r.mode = .off) : (r.tick b).faulting = r ∧ r.windowEnd = r := by
  simp [Detector.faulting, Detector.tick, h, Detector.timedFault, Detector.windowEnd]

theorem windowEnd_cases {r : Detector} (h : r.mode ≠ .off) :
    (r.fault ≠ .chatter → r.windowEnd = { r with window := 0 }) ∧
    (r.fault = .chatter → r.chatterLimit ≤ r.window → r.windowEnd = { r with window := 0, cleanRun := 0 }) ∧
    (r.fault = .chatter → r.window < r.chatterLimit → r.windowEnd =
      if r.cleanRun = 9 then { r with window := 0, cleanRun := 0, fault := .ok }
      else { r with window := 0, cleanRun := r.cleanRun + 1 }) := by
  unfold Detector.windowEnd
  rw [if_neg h]
  refine ⟨fun k => by rw [if_neg k], fun k w => ?_, fun k w => ?_⟩
  · rw [if_pos k, if_neg (Nat.not_lt.mpr w)]
  · rw [if_pos k, if_pos w]

/-- Settles O18, from what a tick and a window's end make of one detector. -/
theorem tenthTickInputs : Obligations.TenthTickInputs := by
  unfold Obligations.TenthTickInputs
  intro c s h
  obtain ⟨t, e, rfl, after⟩ := takesTenth_after h
  generalize hs : ({ s with time := s.tickTime c } : State) = u at e after
  obtain ⟨m, l, driven, -⟩ := driveTick_blocks u
  rw [driven] at after
  generalize tenthTick u = t at *
  have tenth : (tickGreens (tickStep (tickOnce u))).time.tenth = s.time.tenth + 1 := by
    have once := tickOnce_blocks u
    have step := tickStep_blocks (tickOnce u)
    change (tickStep (tickOnce u)).time.tenth = _
    rw [step]
    change (tickOnce u).time.tenth = _
    rw [once, ← hs]
    rfl
  have dets : (tickGreens (tickStep (tickOnce u))).dets = s.dets := by
    have once := tickOnce_blocks u
    have step := tickStep_blocks (tickOnce u)
    change (tickStep (tickOnce u)).dets = _
    rw [step]
    change (tickOnce u).dets = _
    rw [once, ← hs]
  have det (d : Det) : t.det d = if (s.time.tenth + 1).toNat % 10 = 0 then
      ((s.det d).tick (s.detOccupied d)).faulting.windowEnd else ((s.det d).tick (s.detOccupied d)).faulting := by
    have own := tickDetectors_det (tickGreens (tickStep (tickOnce u))) d
    rw [tenth] at own
    have occupied : (tickGreens (tickStep (tickOnce u))).detOccupied d = s.detOccupied d := by
      simp only [State.detOccupied, State.det, dets]
    rw [occupied] at own
    rw [State.det, after.dets]
    change (tickDetectors (tickGreens (tickStep (tickOnce u)))).det d = _
    rw [own, State.det, dets, ← State.det]
  refine ⟨t, e, fun d hd => ?_, fun d hd => ?_, fun p => ?_⟩
  · obtain ⟨h1, h2⟩ := off_tick (s.detOccupied d) hd
    rw [det, h1, h2, ite_self]
  · rw [det, faulting_tick _ hd]
    generalize s.detOccupied d = b
    generalize s.det d = r at *
    obtain ⟨w1, w2, w3⟩ := windowEnd_cases (r := { r with
      delayTimer := if b then min 255 (r.delayTimer + 1) else r.delayTimer
      presence := if r.level then min 153001 (r.presence + 1) else r.presence
      absence := if r.level then r.absence else min 153001 (r.absence + 1)
      occupancy := if r.level then r.occupancy + 1 else r.occupancy
      fault := if r.fault ≠ .ok then r.fault
        else if r.level = true ∧ r.maxPresence ≠ 0 ∧
          r.maxPresence * 600 < (if r.level then min 153001 (r.presence + 1) else r.presence) then .stuckOn
        else if r.level = false ∧ r.maxAbsence ≠ 0 ∧
          r.maxAbsence * 600 < (if r.level then r.absence else min 153001 (r.absence + 1)) then .noActivity
        else .ok }) hd
    by_cases h10 : (s.time.tenth + 1).toNat % 10 = 0
    · rw [if_pos h10]
      generalize (s.time.tenth + 1).toNat % 10 = n at h10 ⊢
      by_cases hf : r.fault = .chatter
      · by_cases hw : r.window < r.chatterLimit
        · rw [w3 (by simp [hf]) hw]
          by_cases hc : r.cleanRun = 9 <;> simp [hf, hc, h10, hw]
        · rw [w2 (by simp [hf]) (Nat.le_of_not_lt hw)]
          simp [hf, h10, hw]
      · have other : (if r.fault ≠ .ok then r.fault
            else if r.level = true ∧ r.maxPresence ≠ 0 ∧
              r.maxPresence * 600 < (if r.level then min 153001 (r.presence + 1) else r.presence) then .stuckOn
            else if r.level = false ∧ r.maxAbsence ≠ 0 ∧
              r.maxAbsence * 600 < (if r.level then r.absence else min 153001 (r.absence + 1)) then .noActivity
            else .ok) ≠ .chatter := by
          split_ifs <;> simp [hf]
        rw [w1 other]
        refine ⟨⟨_, _, _, _, _, _, _, rfl⟩, rfl, rfl, rfl, rfl, fun e => ?_, fun k => absurd h10 k, fun _ => rfl,
          fun _ k => absurd k hf, fun _ k => absurd k hf⟩
        simp only [e, ne_eq, not_true_eq_false, if_false]
    · rw [if_neg h10]
      refine ⟨⟨_, _, _, _, _, _, _, rfl⟩, rfl, rfl, rfl, rfl, fun e => ?_, fun _ => ⟨rfl, rfl, fun k => if_pos k⟩,
        fun k => absurd k h10, fun k => absurd k h10, fun k => absurd k h10⟩
      simp only [e, ne_eq, not_true_eq_false, if_false]
  · obtain ⟨l1, -, l2, l3, -⟩ := after.levels p
    have ticked : ((vmap (fun _ p => p.tick u.unit.mode) u.pres).get p) = (s.pre p).tick s.unit.mode := by
      rw [vmap_get, ← hs]; rfl
    have presence : (t.pre p).presence = ((s.pre p).tick s.unit.mode).presence := l2.trans (congrArg _ ticked)
    refine ⟨l1.trans ((congrArg Preempt.level ticked).trans rfl), presence, ?_⟩
    rw [presence, l3.trans (congrArg Preempt.stuck ticked)]
    rfl

end Sys2Proof.Machine

/-! PROOFS. The supply sample (O24). -/

namespace Sys2Proof.Machine

/-! ### The supply window through what follows a sample (R158, R159) -/

/-- The fields of the supply monitor stand, and no report flag is cleared. -/
def SupplyStands (s t : State) : Prop := t.time.sampleDue = s.time.sampleDue ∧ t.time.windowCount = s.time.windowCount ∧
  t.time.windowSum = s.time.windowSum ∧ t.time.reading = s.time.reading ∧ t.time.category = s.time.category ∧ FlagsStay s t

theorem SupplyStands.trans {s t u : State} (h : SupplyStands s t) (k : SupplyStands t u) : SupplyStands s u :=
  ⟨k.1.trans h.1, k.2.1.trans h.2.1, k.2.2.1.trans h.2.2.1, k.2.2.2.1.trans h.2.2.2.1, k.2.2.2.2.1.trans h.2.2.2.2.1,
    fun i e => k.2.2.2.2.2 i (h.2.2.2.2.2 i e)⟩

theorem Aftermath.supply {s t : State} (h : Aftermath s t) : SupplyStands s t := by
  unfold SupplyStands
  rw [h.time]
  exact ⟨rfl, rfl, rfl, rfl, rfl, h.flags⟩

theorem dropLock_supply (s : State) : SupplyStands s (dropLock s) := by
  unfold dropLock
  simp only
  refine ⟨?_, ?_, ?_, ?_, ?_, fun i h => flagIf_flags _ _ _ i h⟩ <;> rw [flagIf_time]

theorem missLock_supply (s : State) : SupplyStands s (missLock s) := by
  unfold missLock
  split
  · exact ⟨rfl, rfl, rfl, rfl, rfl, fun _ => id⟩
  · exact dropLock_supply s

/-- A tenth tick steps the counter of the timebase and nothing else of it (R152). -/
theorem tenthTick_time (s : State) : (tenthTick s).time = { s.time with tenth := s.time.tenth + 1 } ∧
    FlagsStay s (tenthTick s) := by
  obtain ⟨time, -, -, -, -, -, -, -, -, -, -, -, flags⟩ := tickedInputs_blocks s
  obtain ⟨m, l, driven, -, mono, -⟩ := driveTick_blocks s
  have after := tenthTick_after s
  rw [driven] at after
  exact ⟨after.time.trans time, fun i h => after.flags i (mono i (flags i h))⟩

theorem tenthAt_supply (m : Nat) (s : State) : SupplyStands s (tenthAt m s) := by
  obtain ⟨time, flags⟩ := tenthTick_time { s with time := { s.time.seen m with lastTenth := m } }
  unfold tenthAt SupplyStands
  rw [time]
  exact ⟨rfl, rfl, rfl, rfl, rfl, flags⟩

theorem fallbackTick_supply (b : Bool) (m : Nat) (s : State) : SupplyStands s (fallbackTick b m s) := by
  unfold fallbackTick
  split
  · exact tenthAt_supply m s
  · exact ⟨rfl, rfl, rfl, rfl, rfl, fun _ => id⟩

theorem changeCategory_supply (k : Supply) (s : State) :
    SupplyStands (flag .supply { s with time := { s.time with category := k } }) (changeCategory k s) := by
  unfold changeCategory
  simp only
  split
  · exact (((missLock_supply _).trans (enterPowerOut_after _).supply).trans (settle_after _ _).supply).trans
      (fallbackTick_supply _ _ _)
  · split
    · exact (leavePowerOut_after _).supply.trans (settle_after _ _).supply
    · exact (settle_after _ _).supply

/-- What a window's completion leaves of the supply monitor (R158, R159). -/
theorem completeWindow_supply (sum : Nat) (s : State) : let t := completeWindow sum s
    t.time.sampleDue = s.time.sampleDue ∧ t.time.windowCount = 0 ∧ t.time.windowSum = 0 ∧ t.time.reading = sum / 16 ∧
      t.time.category = nextCategory s.time (sum / 16) ∧
      (t.time.category ≠ s.time.category → has t.link.flags Report.supply.index = true) := by
  by_cases h : nextCategory s.time (sum / 16) = s.time.category
  · have e : completeWindow sum s =
        { s with time := { s.time with windowCount := 0, windowSum := 0, reading := sum / 16 } } := if_pos h
    simp only [e]
    exact ⟨trivial, trivial, trivial, trivial, h.symm, fun k => absurd rfl k⟩
  · have e : completeWindow sum s = changeCategory (nextCategory s.time (sum / 16))
        { s with time := { s.time with windowCount := 0, windowSum := 0, reading := sum / 16 } } := if_neg h
    obtain ⟨h1, h2, h3, h4, h5, h6⟩ := changeCategory_supply (nextCategory s.time (sum / 16))
      { s with time := { s.time with windowCount := 0, windowSum := 0, reading := sum / 16 } }
    simp only [e]
    exact ⟨h1, h2, h3, h4, h5, fun _ => h6 _ (by simp [flag_link])⟩

/-- Table 9-3 read by the thresholds first, which the ranges of the settings allow. -/
theorem nextCategory_eq {t : Timebase} (h1 : t.dropout + 10 ≤ t.sag) (h2 : t.sag ≤ 195) (h3 : 205 ≤ t.high) (r : Nat) :
    nextCategory t r =
      if t.high < r then .high
      else if t.sag ≤ r then
        match t.category with
        | .unknown | .normal => .normal
        | .dropout | .sag => if r < t.sag + 6 then .sag else .normal
        | .high => if t.high - 6 ≤ r then .high else .normal
      else if t.dropout ≤ r then
        match t.category with
        | .dropout => if r < t.dropout + 6 then .dropout else .sag
        | .unknown | .normal | .sag | .high => .sag
      else .dropout := by
  unfold nextCategory
  simp only [Config.hysteresis]
  by_cases a : t.high < r
  · simp only [if_pos a]
  simp only [if_neg a]
  by_cases b : t.sag ≤ r
  · have c : ¬ r < t.dropout := by omega
    have d : ¬ r < t.sag := by omega
    have e : ¬ r < t.dropout + 6 := by omega
    cases t.category <;> simp [b, c, d, e] <;> rfl
  · have d : r < t.sag := by omega
    have e : r < t.sag + 6 := by omega
    by_cases c : t.dropout ≤ r
    · have f : ¬ r < t.dropout := by omega
      cases t.category <;> simp [b, c, d, e, f]
    · have f : r < t.dropout := by omega
      have g : r < t.dropout + 6 := by omega
      cases t.category <;> simp [b, c, d, f, g]

/-- Settles O24, the sixteenth sample by what every consequence of a change of category leaves of the supply monitor. -/
theorem supplySample : Obligations.SupplySample := by
  unfold Obligations.SupplySample
  refine ⟨fun r s h => ?_, fun r s h hw => ?_, fun r s h hw safe => ?_⟩
  · simp [exec, execSupplySample, h]
  · have more : s.time.windowCount + 1 < 16 := by omega
    simp only [exec, execSupplySample, h, if_true, takeSample, Timebase.seen, Config.windowSamples, if_pos more]
    unfold Timebase.working
    split <;> rfl
  · have full : ¬ s.time.windowCount + 1 < 16 := by omega
    obtain ⟨h1, h2, h3, h4, h5, h6⟩ := completeWindow_supply (s.time.windowSum + r.toNat)
      { s with time := { s.time.seen (s.time.lastCrossing + s.time.working.sampleDelay) with sampleDue := false } }
    refine ⟨_, ?_, h1, h2, h3, h4, h6, h5.trans ?_⟩
    · simp only [exec, execSupplySample, h, if_true, takeSample, Timebase.seen, Config.windowSamples, if_neg full]
    · obtain ⟨-, k2, -, k4, k5, -⟩ := safe.supply
      exact nextCategory_eq (t := s.time) k2 k4 k5 _

end Sys2Proof.Machine

/-! PROOFS. The delay, the faults and the windows of a detector (O31). -/

namespace Sys2Proof.Machine

/-! ### Unions over the detectors, and latches through a settling -/

theorem has_detUnion {f : Det → ChanSet} {c : Chan} : has (detUnion f) c = true ↔ ∃ d, has (f d) c = true := by
  have fold (l : List Det) (m : ChanSet) : has (l.foldl (fun m d => m ||| f d) m) c = true ↔
      has m c = true ∨ ∃ d ∈ l, has (f d) c = true := by
    induction l generalizing m with
    | nil => simp
    | cons a l ih => rw [List.foldl_cons, ih, has_or]; simp [or_assoc]
  have none : has (0 : ChanSet) c = false := has_zero c
  simp only [detUnion, fold, none, Bool.false_eq_true, false_or, List.mem_finRange, true_and]

/-- Outside CONTROLLED the settling of a moment clears the latch of no channel that is not GREEN (R62, R63). -/
theorem settle_latch {old new : State} {c : Chan} (hm : new.unit.mode ≠ .controlled) (hl : (new.green c).latch = true)
    (hi : new.unit.mode = .clearingToFlash → (new.chan c).ind ≠ .green) : ((settle old new).green c).latch = true := by
  have all : (settle old new).unit.mode ≠ .controlled ∧ ((settle old new).green c).latch = true ∧
      ((settle old new).unit.mode = .clearingToFlash → ((settle old new).chan c).ind ≠ .green) := by
    refine settle_induction (fun t => t.unit.mode ≠ .controlled ∧ (t.green c).latch = true ∧
      (t.unit.mode = .clearingToFlash → (t.chan c).ind ≠ .green)) (fun t u hj ⟨k1, k2, k3⟩ => ?_) old new ?_
    · obtain ⟨m, e⟩ := noting_eq t u
      rw [e]
      change u.unit.mode ≠ .controlled ∧ (u.green c).latch = true ∧ (u.unit.mode = .clearingToFlash → (u.chan c).ind ≠ .green)
      have requested (r : Requested t u) : u.unit.mode ≠ .controlled ∧ (u.green c).latch = true ∧
          (u.unit.mode = .clearingToFlash → (u.chan c).ind ≠ .green) := by
        obtain ⟨chans, -, -, -, -, -, -, unit, -⟩ := r.blocks
        rw [unit, State.chan, chans]
        refine ⟨k1, ?_, k3⟩
        obtain e | ⟨e, -⟩ := r.green c <;> rw [e] <;> exact k2
      rcases judge_cases hj with h | h | ⟨hc, -⟩ | ⟨hc, h⟩
      · exact requested (clocks_requested h)
      · exact requested (requests_requested h)
      · exact absurd hc k1
      · obtain ⟨-, rfl⟩ | ⟨-, rfl⟩ := judgeClearing_some h
        · have touched := terminateAll_touches t.runOut t
          have out : has t.runOut c ≠ true := fun e => by
            simp only [State.runOut, State.greenOf, has_and, has_maskOf, Bool.and_eq_true, beq_iff_eq] at e
            exact k3 hc e.1.1
          rw [touched.calm.1, touched.green c out, touched.chan c out]
          exact ⟨k1, k2, k3⟩
        · refine ⟨by simp [enterLocalFlash], ?_, fun e => by simp [enterLocalFlash] at e⟩
          simpa [enterLocalFlash, State.green] using k2
    · obtain ⟨m, e⟩ := noting_eq old new
      rw [e]
      exact ⟨hm, hl, hi⟩
  exact all.2.1

/-- A requested latch is set on a used channel that is not GREEN (R62). -/
theorem requestLatches_sets {m : ChanSet} {s : State} {c : Chan} (h : has m c = true) (hu : (s.chan c).used = true)
    (hg : s.shown c ≠ .green) : ((requestLatches m s).green c).latch = true := by
  rw [requestLatches_green]
  simp [h, State.usedMask, State.greenMask, hu, hg]

/-- A latch requested outside CONTROLLED on a channel that is not GREEN is set when the moment is settled. -/
theorem requested_latch {old s : State} {m : ChanSet} {c : Chan} (hm : s.unit.mode ≠ .controlled) (h : has m c = true)
    (hu : (s.chan c).used = true) (hg : s.shown c ≠ .green) :
    ((settle old (requestLatches m s)).green c).latch = true := by
  have set := requestLatches_sets h hu hg
  have unit : (requestLatches m s).unit = s.unit := (requestLatches_blocks m s).2.2.2.2.1
  refine settle_latch (by rw [unit]; exact hm) set (fun e => ?_)
  rw [unit] at e
  have chan : (requestLatches m s).chan c = s.chan c := by
    obtain ⟨g, k⟩ := requestLatches_eq m s; rw [k]; rfl
  rw [chan]
  simpa [State.shown, e] using hg

/-! ### A fault of one detector (R98) -/

theorem setFault_put {d : Det} {k : DetectorFault} {s : State} {r : Detector} (h : r.fault ≠ k) :
    setFault d k (s.setDet d r) = markChanged d (s.setDet d { r with fault := k }) := by
  have twice (a b : Detector) : (s.setDet d a).setDet d b = s.setDet d b := by
    simp only [State.setDet]
    congr 1
    exact bank_ext fun e => by simp only [vset_get]; split <;> rfl
  unfold setFault
  rw [setDet_det, if_neg h, twice]

/-- What is left of a detector's new fault when the moment is settled. -/
theorem settle_fault {d : Det} {k : DetectorFault} {s : State} {r : Detector} (h : r.fault ≠ k) :
    let t := settle s (setFault d k (s.setDet d r))
    t.dets = vset s.dets d { r with fault := k } ∧
    t.detMasks = { s.detMasks with changed := insertBit s.detMasks.changed d } ∧
    has t.link.flags Report.detector.index = true := by
  have after := settle_after s (setFault d k (s.setDet d r))
  simp only
  generalize settle s (setFault d k (s.setDet d r)) = t at after ⊢
  rw [setFault_put h] at after
  exact ⟨after.dets, after.detMasks, after.flags _ (by simp [markChanged, flag_link])⟩

/-! ### O31 -/

theorem delayReached_calls {d : Det} {s : State} (ho : s.detOccupied d = true)
    (hd : (s.det d).delayTimer + 1 = (s.det d).delay) (hl : (s.det d).locking = true) (hf : s.detFaulted d = false)
    (hp : (s.det d).mode = .pair → (s.det d).direction = .forward) {c : Chan} (hc : has (s.det d).callMask c = true)
    (hg : s.shown c ≠ .green) :
    let u := s.setDet d { s.det d with delayTimer := (s.det d).delay }
    has (detUnion (fun e => if (u.det e).locking then u.callConds e &&& ~~~ s.callConds e else 0)) c = true := by
  intro u
  have own : u.det d = { s.det d with delayTimer := (s.det d).delay } := setDet_det _ _ _
  have other : (u.det (partner d)) = s.det (partner d) := setDet_det_other _ _ (partner_ne d)
  have occupied : u.detOccupied d = true := by
    simp only [State.detOccupied, own, other] at ho ⊢
    exact ho
  have faulted : u.detFaulted d = false := by
    simp only [State.detFaulted, own, other, Detector.faulted] at hf ⊢
    exact hf
  have forward : ((s.det d).mode != .pair || (s.det d).direction == .forward) = true := by
    by_cases e : (s.det d).mode = .pair
    · simp [hp e]
    · simp [e]
  have new : u.callConds d = (s.det d).callMask := by
    simp only [State.callConds, occupied, faulted, own, forward]
    simp
  have old : s.callConds d = (s.det d).callMask &&& s.greenMask := by
    have less : ¬ (s.det d).delay ≤ (s.det d).delayTimer := by omega
    simp only [State.callConds, ho, hf, forward, if_neg less]
    simp
  refine has_detUnion.mpr ⟨d, ?_⟩
  rw [own, if_pos hl, new, old]
  simp [hc, State.greenMask, hg]

/-- Settles O31, from what each event makes of its detector and what the settling leaves of it. -/
theorem detectorTimerEvents : Obligations.DetectorTimerEvents := by
  unfold Obligations.DetectorTimerEvents
  refine ⟨fun d s ho hd => ?_, fun d s hm hf hl hn hp hb => ?_, fun d s hm hf hl hn hp hb => ?_,
    fun d s hm hf hl hr hw hc => ?_, fun s h => ?_⟩
  · refine ⟨_, if_pos ⟨ho, hd⟩, ?_, fun hl hf hp hm c hc hu hg => ?_⟩
    · exact (settle_after _ _).dets.trans (requestLatches_after _ _).dets
    · exact requested_latch hm (delayReached_calls ho hd hl hf hp hc hg) hu hg
  · have next : min 153001 ((s.det d).presence + 1) = (s.det d).presence + 1 := by omega
    have sticks : (s.det d).sticks = true := by
      simp only [Detector.sticks, hf, hl, Config.minute, Config.presenceTop, next, hp]
      simp [hm, hn]
      omega
    have ran : exec (.stuckOn d) s = .next (settle s (setFault d .stuckOn
        (s.setDet d { s.det d with presence := min 153001 ((s.det d).presence + 1) }))) := if_pos sticks
    rw [next] at ran
    exact ⟨_, ran, settle_fault (by simp [hf])⟩
  · have next : min 153001 ((s.det d).absence + 1) = (s.det d).absence + 1 := by omega
    have dies : (s.det d).dies = true := by
      simp only [Detector.dies, hf, hl, Config.minute, Config.presenceTop, next, hp]
      simp [hm, hn]
      omega
    have ran : exec (.noActivity d) s = .next (settle s (setFault d .noActivity
        (s.setDet d { s.det d with absence := min 153001 ((s.det d).absence + 1) }))) := if_pos dies
    rw [next] at ran
    exact ⟨_, ran, settle_fault (by simp [hf])⟩
  · have next : min 255 ((s.det d).window + 1) = (s.det d).window + 1 := by omega
    have chatters : (s.det d).chatters = true := by
      simp only [Detector.chatters, hf, hl, hr, next, hc]
      simp [hm]
    have ran : exec (.chatter d) s = .next (settle s (setFault d .chatter
        (s.setDet d { s.det d with window := min 255 ((s.det d).window + 1) }))) := if_pos chatters
    rw [next] at ran
    exact ⟨_, ran, settle_fault (by simp [hf])⟩
  · refine ⟨_, if_pos h, ?_⟩
    have det (d : Det) : (settle s (handBegun s (endWindows s))).det d = (s.det d).windowEnd := by
      rw [State.det, (settle_after _ _).dets]
      exact (requestLatches_det _ _ d).trans (endWindows_det s d)
    refine ⟨fun d hd => ?_, fun d hd hf => ?_, fun d hd hf hw => ?_, fun d hd hf hw => ?_⟩ <;> rw [det]
    · exact (off_tick false hd).2
    · exact (windowEnd_cases hd).1 hf
    · exact (windowEnd_cases hd).2.1 hf hw
    · exact (windowEnd_cases hd).2.2 hf hw

end Sys2Proof.Machine

/-! PROOFS. The entry into FAULT_FLASH with all its effects, and the events of the unit mode (O29). -/

namespace Sys2Proof.Machine

/-! ### FAULT_FLASH (R145) -/

theorem idle_idle (g : Green) : g.idle.idle = g.idle := rfl

theorem doused_blocks (s : State) :
    (∀ c, ((doused s).chan c).timer = 0) ∧ (∀ c, (doused s).green c = (s.green c).idle) ∧
    (doused s).seq = { s.seq with
      current := false, phase := .none, stepTimer := 0, force := false, served := 0, transition := none, owedEnds := 0
      position := 0 } ∧
    (doused s).arb = { s.arb with holder := none, interrupted := false } ∧
    (∀ p, ((doused s).pre p).state = .idle) := by
  unfold doused
  refine ⟨fun c => ?_, fun c => ?_, ?_, ?_, fun p => ?_⟩
  all_goals simp only [stopPreempts, stopAtHead, stopExecution, stopStep, idleGreens, setCause, leaveUnjudged, drivesOff,
    dropHeld, forceAll, State.chan, State.green, State.pre, vmap_get, Channel.force]

theorem handForced_arbiter (o s : State) : (handForced o s).pres = s.pres ∧ (handForced o s).arb = s.arb ∧
    (handForced o s).tones = s.tones := by
  unfold handForced handLocking
  obtain ⟨g, e⟩ := requestLatches_eq (o.greenMask &&& ~~~ s.greenMask &&& s.lockingConds) s
  rw [e]
  exact ⟨rfl, rfl, rfl⟩

/-- Outside the control modes a change of unit mode silences every tone line (R166). -/
theorem changeMode_silences {m : Mode} (h : m.isControl = false) (s : State) (i : Line) :
    ((changeMode m s).line i).sounding = .none := by
  have still (u : State) (hu : u.unit.mode = m) : u.lineActive i = false := by simp [State.lineActive, hu, h]
  have silent (o u : State) (hu : u.unit.mode = m) : ((tonesAtMode o u).line i).sounding = .none := by
    simp only [tonesAtMode, State.line, vmap_get, still u hu, Bool.false_and, Bool.false_eq_true, if_false, lineAfresh]
    rfl
  unfold changeMode
  exact silent _ _ rfl

/-- An entry into FAULT_FLASH has every effect of R145. -/
theorem enterFaultFlash_inFault {s : State} (h : s.mon.record ≠ none) : (enterFaultFlash s).InFaultFlash := by
  have black := enterFaultFlash_blacked s
  have silent := changeMode_silences (m := .faultFlash) rfl (doused s)
  obtain ⟨timer, idle, step, slot, waits⟩ := doused_blocks s
  have unit := enterFaultFlash_unit s
  have record := enterFaultFlash_record s
  obtain ⟨chans, -, -, -, -, -, seq⟩ := handForced_blocks s (changeMode .faultFlash (doused s))
  obtain ⟨pres, arb, tones⟩ := handForced_arbiter s (changeMode .faultFlash (doused s))
  have green (c : Chan) := requestLatches_green (s.greenMask &&& ~~~ (changeMode .faultFlash (doused s)).greenMask &&&
    (changeMode .faultFlash (doused s)).lockingConds) (changeMode .faultFlash (doused s)) c
  have greens (c : Chan) : (changeMode .faultFlash (doused s)).green c = (s.green c).idle := by
    rw [State.green, changeMode_greens]
    exact idle c
  have timers (c : Chan) : ((changeMode .faultFlash (doused s)).chan c).timer = 0 := by
    rw [changeMode_chan]
    split <;> exact timer c
  rw [changeMode_pres] at pres
  rw [changeMode_arb, slot] at arb
  rw [changeMode_seq, step] at seq
  rw [← handLocking, ← handForced, ← enterFaultFlash_eq] at green
  rw [← enterFaultFlash_eq] at chans seq pres arb tones
  generalize changeMode .faultFlash (doused s) = v at *
  generalize enterFaultFlash s = u at *
  refine ⟨by rw [unit]; exact ⟨rfl, rfl, rfl⟩, black.drives, fun c => ⟨(black.chans c).1.1, ?_, (black.chans c).1.2.2⟩,
    by rw [seq]; exact ⟨rfl, rfl, rfl, rfl, rfl⟩, fun c => ?_, ⟨by rw [arb], by rw [arb], fun p => ?_⟩, fun i => ?_,
    by rw [record]; exact h⟩
  · rw [State.chan, chans]
    exact timers c
  · rw [green, greens]
    split <;> rfl
  · rw [pre_of_pres pres, Preempt.serving, waits p]
    rfl
  · rw [State.line, tones]
    exact silent i

/-- A request moves to no service of its own (R105). -/
theorem moves_unserving {r v : Preempt} (h : Relation.ReflTransGen (fun r q => Preempt.move r = some q) r v)
    (hr : r.serving = false) : v.serving = false := by
  induction h with
  | refl => exact hr
  | @tail x y _ hxy ih =>
    cases hx : x.state with
    | idle =>
      rw [idle_move hx] at hxy
      split at hxy <;> cases hxy
      rfl
    | delaying =>
      rw [delaying_move hx] at hxy
      split at hxy
      · split at hxy <;> cases hxy
        rfl
      · cases hxy
        rfl
    | pending =>
      obtain e | ⟨-, e⟩ := pending_move hx <;> rw [e] at hxy <;> cases hxy
      rfl
    | entry => simp [Preempt.serving, hx] at ih
    | track => simp [Preempt.serving, hx] at ih
    | dwell => simp [Preempt.serving, hx] at ih
    | exit => simp [Preempt.serving, hx] at ih

/-- The judgments of the moment leave a FAULT_FLASH as it was entered. -/
theorem State.InFaultFlash.settled {old t : State} (h : t.InFaultFlash) : (settle old t).InFaultFlash := by
  have mode := h.mode.1
  have req := settle_requested (old := old) (new := t) (by rw [mode]; exact nofun) (by rw [mode]; exact nofun)
  obtain ⟨chans, lamps, -, seq, -, arb, mon, unit, -, tones, -⟩ := req.blocks
  generalize settle old t = u at *
  refine ⟨by rw [unit]; exact h.mode, by rw [lamps]; exact h.drives, fun c => by rw [State.chan, chans]; exact h.chans c,
    by rw [seq]; exact h.step, fun c => ?_, ⟨by rw [arb]; exact h.slot.1, by rw [arb]; exact h.slot.2.1, fun p => ?_⟩,
    fun i => by rw [State.line, tones]; exact h.silent i, by rw [mon]; exact h.record⟩
  · obtain e | ⟨-, -, green⟩ := req.green c
    · rw [e]; exact h.greens c
    · rw [(h.chans c).1] at green; cases green
  · have moved := req.pre p
    have out := h.slot.2.2 p
    exact moves_unserving moved out

/-- Findings taken outside POWER_OUT and FAULT_FLASH lead to FAULT_FLASH with the record they wrote (R131, R145). -/
theorem faultNotice_enters {fs : List Finding} {s : State} (hf : fs ≠ []) (h1 : s.unit.mode ≠ .powerOut)
    (h2 : s.unit.mode ≠ .faultFlash) :
    (faultNotice fs s).InFaultFlash ∧ (faultNotice fs s).mon.record = (recordFindings fs s).mon.record := by
  obtain ⟨e, -⟩ | ⟨-, e | e, -⟩ | ⟨-, -, -, e⟩ := faultNotice_cases fs s
  · exact absurd e hf
  · exact absurd e h1
  · exact absurd e h2
  · rw [e, enterFaultFlash_record]
    refine ⟨enterFaultFlash_inFault ?_, rfl⟩
    obtain ⟨f, fs, rfl⟩ := List.exists_cons_of_ne_nil hf
    cases hr : s.mon.record with
    | none => rw [recordFindings_empty f fs s hr]; exact nofun
    | some r => rw [recordFindings_full (f :: fs) s hr]; exact nofun

theorem monitorNotice_enters {fs : List Finding} {s : State} (hf : fs ≠ []) (h1 : s.unit.mode ≠ .powerOut)
    (h2 : s.unit.mode ≠ .faultFlash) :
    (monitorNotice fs s).InFaultFlash ∧ (monitorNotice fs s).mon.record = (recordFindings fs s).mon.record := by
  obtain ⟨k, e, -⟩ := monitorNotice_eq fs s
  obtain ⟨fault, record⟩ := faultNotice_enters hf h1 h2
  rw [e]
  exact ⟨{ fault with }, record⟩

/-! ### The orderly flash through a settling (R58, R114, R143) -/

/-- In CLEARING_TO_FLASH the judgments of a moment leave the Sequencer, but for the orders it owes, and the slot. -/
theorem settle_clearing_blocks {old new : State} (hm : new.unit.mode = .clearingToFlash) :
    (settle old new).seq = { new.seq with owedEnds := (settle old new).seq.owedEnds } ∧ (settle old new).arb = new.arb := by
  have all : ((settle old new).seq = { new.seq with owedEnds := (settle old new).seq.owedEnds } ∧
      (settle old new).arb = new.arb) ∧ (settle old new).unit.mode ≠ .controlled := by
    refine settle_induction (fun t => (t.seq = { new.seq with owedEnds := t.seq.owedEnds } ∧ t.arb = new.arb) ∧
      t.unit.mode ≠ .controlled) (fun t u hj ⟨⟨k1, k2⟩, k3⟩ => ?_) old new (by simp [hm])
    rw [noting_seq, noting_arb, noting_unit]
    have requested (r : Requested t u) : (u.seq = { new.seq with owedEnds := u.seq.owedEnds } ∧ u.arb = new.arb) ∧
        u.unit.mode ≠ .controlled := by
      obtain ⟨-, -, -, seq, -, arb, -, unit, -⟩ := r.blocks
      rw [seq, arb, unit]
      exact ⟨⟨k1, k2⟩, k3⟩
    rcases judge_cases hj with h | h | ⟨hm, -⟩ | ⟨-, h⟩
    · exact requested (clocks_requested h)
    · exact requested (requests_requested h)
    · exact absurd hm k3
    · obtain ⟨-, rfl⟩ | ⟨-, rfl⟩ := judgeClearing_some h
      · have touched := terminateAll_touches t.runOut t
        rw [touched.calm.2.2.2.2.1, touched.calm.1]
        exact ⟨⟨by rw [touched.seq, k1], k2⟩, k3⟩
      · exact ⟨⟨by simpa [enterLocalFlash] using k1, by simpa [enterLocalFlash] using k2⟩, by simp [enterLocalFlash]⟩
  exact all.1

/-- An orderly flash that has begun: no step, no forced end and no slot holder (R58, R114, R143). -/
theorem enterClearing_stops (old : State) (k : FlashCause) (s : State) : let t := settle old (enterClearing k s)
    t.seq.current = false ∧ t.seq.force = false ∧ t.arb.holder = none := by
  have stopped : (enterClearing k s).seq.current = false ∧ (enterClearing k s).seq.force = false ∧
      (enterClearing k s).arb.holder = none := by
    have left (u : State) : (leaveService u).seq = u.seq ∧ (leaveService u).arb.holder = none := by
      unfold leaveService
      cases h : u.arb.holder with
      | none => exact ⟨rfl, rfl⟩
      | some p => exact ⟨rfl, rfl⟩
    obtain ⟨h1, h2⟩ := left (stopExecution s)
    unfold enterClearing
    rw [changeMode_seq, changeMode_arb]
    change (leaveService (stopExecution s)).seq.current = false ∧ (leaveService (stopExecution s)).seq.force = false ∧
      (leaveService (stopExecution s)).arb.holder = none
    rw [h1]
    exact ⟨rfl, rfl, h2⟩
  have mode : (enterClearing k s).unit.mode = .clearingToFlash := by rw [(enterClearing_view k s).2.2.2.2.1]
  obtain ⟨seq, arb⟩ := settle_clearing_blocks (old := old) mode
  simp only
  rw [seq, arb]
  exact stopped

/-! ### O29 -/

/-- The elements of a test in order: the lowest first, another following exactly when there is one. -/
theorem filter_lowest {n : Nat} {p : Fin n → Bool} {d : Fin n} (hd : p d = true) (hl : ∀ e, p e = true → d ≤ e) :
    ∃ rest, (List.finRange n).filter p = d :: rest ∧ (rest ≠ [] ↔ ∃ e, e ≠ d ∧ p e = true) := by
  have sorted : ((List.finRange n).filter p).Pairwise (· < ·) := (List.pairwise_lt_finRange n).filter p
  have mem (e : Fin n) : e ∈ (List.finRange n).filter p ↔ p e = true := by simp
  generalize (List.finRange n).filter p = l at sorted mem
  cases l with
  | nil => exact absurd ((mem d).mpr hd) (by simp)
  | cons x rest =>
    obtain ⟨low, -⟩ := List.pairwise_cons.mp sorted
    have e : x = d := by
      rcases List.mem_cons.mp ((mem d).mpr hd) with h | h
      · exact h.symm
      · exact le_antisymm (low d h).le (hl x ((mem x).mp (by simp)))
    subst e
    refine ⟨rest, rfl, fun h => ?_, fun ⟨e, ne, he⟩ => ?_⟩
    · obtain ⟨y, ys, rfl⟩ := List.exists_cons_of_ne_nil h
      exact ⟨y, (low y (by simp)).ne', (mem y).mp (by simp)⟩
    · rcases List.mem_cons.mp ((mem e).mpr he) with h | h
      · exact absurd h ne
      · exact List.ne_nil_of_mem h

theorem turnSwitch_unit (s : State) : (turnSwitch s).unit.switchLevel = (!s.unit.switchLevel) ∧
    (turnSwitch s).unit.switchRun = 0 ∧ (s.unit.switchLevel = true → (turnSwitch s).unit.mode = s.unit.mode ∧
      (turnSwitch s).unit.cause = s.unit.cause) ∧
    (s.unit.switchLevel = false → (s.unit.mode = .entryRed ∨ s.unit.mode = .controlled) → ∃ u : UnitState,
      turnSwitch s = enterClearing .manual { s with unit := u }) := by
  unfold turnSwitch
  cases h : s.unit.switchLevel
  · simp only [Bool.not_false, if_true, switchOn]
    split
    · next hm => rw [(enterClearing_view _ _).2.2.2.2.1]; exact ⟨rfl, rfl, nofun, fun _ _ => ⟨_, rfl⟩⟩
    · next hm => exact ⟨rfl, rfl, nofun, fun _ k => absurd k hm⟩
  · exact ⟨rfl, rfl, fun _ => ⟨rfl, rfl⟩, nofun⟩

theorem redFailsNext_iff {s : State} (hm : s.unit.mode.isControl = true)
    (hs : s.time.category = .normal ∨ s.time.category = .high) (e : Chan) : s.redFailsNext e = true ↔
      (s.chan e).used = true ∧ (s.chan e).redMonitor = true ∧ (s.mon.channels.get e).lastRed = .dark ∧
        s.mon.redFailTime ≤ (s.mon.channels.get e).redTimer + 1 := by
  obtain h | h := hs <;> simp [State.redFailsNext, hm, h, Channel.redWatched, and_assoc]

/-- Settles O29, from the entry into FAULT_FLASH and the orderly flash that an on-edge of the switch begins. -/
theorem unitEvents : Obligations.UnitEvents := by
  unfold Obligations.UnitEvents
  refine ⟨fun s h1 h2 => if_pos ⟨h1, h2⟩, fun s h1 h2 => ?_, fun c s hm hs => ?_, fun s h => ?_⟩
  · refine ⟨_, if_pos ⟨h1, h2⟩, ?_, settle_noted _ _ _ (noting_mode ?_)⟩
    · rw [settle_unit_same (by simp [enterControlled])]
      simp only [enterControlled, changeMode_unit]
      rfl
    · simp [modeKey, enterControlled, h1]
  · have fails (e : Chan) := redFailsNext_iff hm hs e
    intro isFailing hc
    have own : s.redFailsNext c = true := (fails c).mpr hc
    have some : has (maskOf s.redFailsNext) c = true := by rw [has_maskOf]; exact own
    have list : redFindings (maskOf s.redFailsNext) = ((List.finRange 16).filter s.redFailsNext).map
        (fun c => { cause := .redFail, first := number c, second := 0 }) := by
      unfold redFindings
      simp only [has_maskOf]
    have findings : redFindings (maskOf s.redFailsNext) ≠ [] := by
      rw [list]
      simp only [ne_eq, List.map_eq_nil_iff]
      exact List.ne_nil_of_mem (List.mem_filter.mpr ⟨List.mem_finRange c, own⟩)
    have raised : (raiseRedTimers (maskOf s.redFailsNext) s).mon.record = s.mon.record ∧
        (raiseRedTimers (maskOf s.redFailsNext) s).time = s.time ∧
        (raiseRedTimers (maskOf s.redFailsNext) s).unit = s.unit := ⟨rfl, rfl, rfl⟩
    have ran : exec (.redFail c) s = .next (settle s (monitorNotice (redFindings (maskOf s.redFailsNext))
        (raiseRedTimers (maskOf s.redFailsNext) s))) := if_pos some
    generalize raiseRedTimers (maskOf s.redFailsNext) s = v at *
    obtain ⟨r1, r2, r3⟩ := raised
    obtain ⟨fault, record⟩ := monitorNotice_enters (s := v) findings (by rw [r3]; rintro e; rw [e] at hm; cases hm)
      (by rw [r3]; rintro e; rw [e] at hm; cases hm)
    refine ⟨_, ran, fault.settled, fun d hr hd hl => ?_, fun r hr => ?_⟩
    · obtain ⟨rest, e, iff⟩ := filter_lowest ((fails d).mpr hd) (fun e he => hl e ((fails e).mp he))
      rw [e, List.map_cons] at list
      refine ⟨!(rest.map fun c => ({ cause := .redFail, first := number c, second := 0 } : Finding)).isEmpty, ?_, ?_⟩
      · rw [(settle_keeps _ _).record, record, list, recordFindings_empty _ _ _ (r1.trans hr), r2, r3]
      · rw [Bool.not_eq_true', List.isEmpty_eq_false_iff, ne_eq, List.map_eq_nil_iff, ← ne_eq, iff]
        simp only [fails]
        rfl
    · rw [(settle_keeps _ _).record, record, recordFindings_full _ _ (r1.trans hr), if_neg findings]
  · obtain ⟨level, run, off, on⟩ := turnSwitch_unit s
    obtain ⟨m, b, unit⟩ := (settle_keeps s (turnSwitch s)).unit
    refine ⟨_, if_pos h, by rw [unit]; exact level, by rw [unit]; exact run, settle_noted _ _ _ (noting_mode ?_),
      fun hl hm => ?_, fun hl hm => ?_⟩
    · intro e
      have := congrArg (fun k => k.2.2.2) e
      simp only [modeKey, level] at this
      cases k : s.unit.switchLevel <;> simp [k] at this
    · obtain ⟨u, e⟩ := on hl hm
      obtain ⟨cause, ftr, mode⟩ := enterClearing_settled s .manual { s with unit := u }
      obtain ⟨k1, k2, k3⟩ := enterClearing_stops s .manual { s with unit := u }
      rw [e]
      exact ⟨cause, ftr, mode, k1, k2, k3⟩
    · obtain ⟨mode, cause⟩ := off hl
      rw [settle_unit_same (by rw [mode]; exact hm)]
      exact ⟨mode, cause⟩

end Sys2Proof.Machine

/-! PROOFS. The level changes of the detectors, record by record (R84, R86 to R89, R95 to R97). -/

namespace Sys2Proof.Machine

/-! ### One detector's own edge -/

/-- A detector's own activity at an on-edge (R93, R95, R96, R97). -/
def Detector.onEdge (r : Detector) : Detector :=
  let f := if r.fault = .noActivity then .ok else r.fault
  let w := min 255 (r.window + 1)
  { r with
    volume := r.volume + 1, presence := 0, absence := 0, window := w
    fault := if r.chatterLimit ≤ w ∧ f = .ok then .chatter else f }

/-- A detector's own activity at an off-edge (R95). -/
def Detector.offEdge (r : Detector) : Detector :=
  { r with presence := 0, fault := if r.fault = .stuckOn then .ok else r.fault }

/-- A detector's level changed, its delay timer stopped or started in PRESENCE (R84, R90). -/
def Detector.turned (r : Detector) : Detector :=
  { r with level := !r.level, run := 0, delayTimer := if r.mode = .presence then 0 else r.delayTimer }

/-- A detector's level changed, with its own activity in every mode but OFF (R84 to R87, R90). -/
def Detector.edge (r : Detector) : Detector :=
  if r.mode = .off then r.turned else if r.level then r.turned.offEdge else r.turned.onEdge

theorem ownOnEdge_det (d e : Det) (s : State) :
    (ownOnEdge d s).det e = if e = d then (s.det d).onEdge else s.det e := by
  have cleared (x : Det) : (if (s.det d).fault = .noActivity then setFault d .ok s else s).det x =
      if x = d then { s.det d with fault := if (s.det d).fault = .noActivity then .ok else (s.det d).fault } else s.det x := by
    split
    · exact setFault_det d .ok s x
    · split
      · next h => rw [h]
      · rfl
  unfold ownOnEdge
  simp only
  generalize (if (s.det d).fault = .noActivity then setFault d .ok s else s) = u at cleared
  have own := cleared d
  rw [if_pos rfl] at own
  by_cases hc : (u.det d).chatterLimit ≤ min 255 ((u.det d).window + 1) ∧ (u.det d).fault = .ok
  · rw [if_pos hc, setFault_det, setDet_get, setDet_get, if_pos rfl, cleared e]
    split
    · unfold Detector.onEdge
      rw [own] at hc ⊢
      simp only [if_pos hc]
    · rfl
  · rw [if_neg hc, setDet_get, cleared e]
    split
    · unfold Detector.onEdge
      rw [own] at hc ⊢
      simp only [if_neg hc]
    · rfl

theorem ownOffEdge_det (d e : Det) (s : State) :
    (ownOffEdge d s).det e = if e = d then (s.det d).offEdge else s.det e := by
  unfold ownOffEdge Detector.offEdge
  simp only [setDet_det]
  by_cases h : (s.det d).fault = .stuckOn
  · simp only [if_pos h]
    rw [setFault_det, setDet_get, setDet_get, if_pos rfl]
    split <;> rfl
  · simp only [if_neg h]
    exact setDet_get s d e _

theorem turnLevel_det (d e : Det) (s : State) :
    (turnLevel d s).det e = if e = d then { s.det d with level := !(s.det d).level, run := 0 } else s.det e := by
  unfold turnLevel
  simp only
  split <;> exact setDet_get s d e _

/-- A turned level, its delay timer put to 0 in PRESENCE. -/
def turnDelay (d : Det) (s : State) : State :=
  if (s.det d).mode = .presence then (turnLevel d s).setDet d { (turnLevel d s).det d with delayTimer := 0 }
  else turnLevel d s

theorem turnDelay_det (d e : Det) (s : State) :
    (turnDelay d s).det e = if e = d then (s.det d).turned else s.det e := by
  unfold turnDelay Detector.turned
  split
  · rw [setDet_get]
    split
    · rw [turnLevel_det, if_pos rfl]
    · next h => rw [turnLevel_det, if_neg h]
  · exact turnLevel_det d e s

/-- An edge: the level turned and, in every mode but OFF, the detector's own activity. -/
theorem ownEdge_eq (d : Det) (s : State) : ownEdge d s =
    if (s.det d).mode = .off then turnDelay d s
    else if (s.det d).level then ownOffEdge d (turnDelay d s) else ownOnEdge d (turnDelay d s) := by
  have own := turnLevel_det d d s
  rw [if_pos rfl] at own
  have mode : ((turnLevel d s).det d).mode = (s.det d).mode := by rw [own]
  have level : ((turnLevel d s).det d).level = !(s.det d).level := by rw [own]
  unfold ownEdge turnDelay
  simp only [mode, level]
  generalize turnLevel d s = u
  generalize (s.det d).level = b
  cases (s.det d).mode <;> cases b <;> rfl

theorem ownEdge_det (d e : Det) (s : State) : (ownEdge d s).det e = if e = d then (s.det d).edge else s.det e := by
  have turned := fun x => turnDelay_det d x s
  have own := turned d
  rw [if_pos rfl] at own
  rw [ownEdge_eq]
  unfold Detector.edge
  generalize turnDelay d s = u at *
  by_cases hm : (s.det d).mode = .off
  · simp only [if_pos hm]
    exact turned e
  · simp only [if_neg hm]
    cases hl : (s.det d).level
    · simp only [Bool.false_eq_true, if_false]
      rw [ownOnEdge_det, own]
      split
      · rfl
      · next h => rw [turned, if_neg h]
    · simp only [if_true]
      rw [ownOffEdge_det, own]
      split
      · rfl
      · next h => rw [turned, if_neg h]

/-! ### What an edge leaves besides -/

/-- No changed mark is dropped, every wrong-way mark stays, and no flag is cleared. -/
structure EdgeMarks (s t : State) : Prop where
  changed : ∀ e, has s.detMasks.changed e = true → has t.detMasks.changed e = true
  wrongWay : t.detMasks.wrongWay = s.detMasks.wrongWay
  flags : FlagsStay s t

theorem EdgeMarks.refl (s : State) : EdgeMarks s s := ⟨fun _ => id, rfl, fun _ => id⟩

theorem EdgeMarks.trans {s t u : State} (h : EdgeMarks s t) (k : EdgeMarks t u) : EdgeMarks s u :=
  ⟨fun e x => k.changed e (h.changed e x), k.wrongWay.trans h.wrongWay, fun i x => k.flags i (h.flags i x)⟩

theorem setFault_marks (d : Det) (k : DetectorFault) (s : State) : EdgeMarks s (setFault d k s) := by
  unfold setFault
  split
  · exact .refl s
  · exact ⟨fun e h => by simp [markChanged, h], rfl, flag_flags .detector _⟩

/-- A fault that differs is marked and flagged (R98). -/
theorem setFault_marked {d : Det} {k : DetectorFault} {s : State} (h : (s.det d).fault ≠ k) :
    has (setFault d k s).detMasks.changed d = true ∧ has (setFault d k s).link.flags Report.detector.index = true := by
  rw [setFault, if_neg h]
  simp [markChanged, flag_link]

theorem setFault_still (d : Det) (k : DetectorFault) (s : State) : (setFault d k s).greens = s.greens ∧
    (setFault d k s).tones = s.tones := by
  unfold setFault
  split <;> exact ⟨rfl, rfl⟩

/-- What a detector's own activity leaves: marks that stay, the green records and the tone lines, and a mark and the flag for
a fault that has changed (R98). -/
structure OwnActivity (d : Det) (s t : State) : Prop where
  marks : EdgeMarks s t
  greens : t.greens = s.greens
  tones : t.tones = s.tones
  marked : (t.det d).fault ≠ (s.det d).fault →
    has t.detMasks.changed d = true ∧ has t.link.flags Report.detector.index = true

theorem OwnActivity.trans {d : Det} {s t u : State} (h : OwnActivity d s t) (k : OwnActivity d t u) : OwnActivity d s u where
  marks := h.marks.trans k.marks
  greens := k.greens.trans h.greens
  tones := k.tones.trans h.tones
  marked e := by
    by_cases f : (u.det d).fault = (t.det d).fault
    · have := h.marked (by rw [← f]; exact e)
      exact ⟨k.marks.changed d this.1, k.marks.flags _ this.2⟩
    · exact k.marked f

theorem setFault_activity (d : Det) (k : DetectorFault) (s : State) : OwnActivity d s (setFault d k s) := by
  refine ⟨setFault_marks d k s, (setFault_still d k s).1, (setFault_still d k s).2, fun h => setFault_marked fun e => h ?_⟩
  rw [setFault_det, if_pos rfl, e]

theorem setDet_activity {d : Det} {s : State} {r : Detector} (h : r.fault = (s.det d).fault) :
    OwnActivity d s (s.setDet d r) :=
  ⟨⟨fun _ => id, rfl, fun _ => id⟩, rfl, rfl, fun k => absurd (by rw [setDet_det]; exact h) k⟩

theorem ownOnEdge_activity (d : Det) (s : State) : OwnActivity d s (ownOnEdge d s) := by
  have cleared : OwnActivity d s (if (s.det d).fault = .noActivity then setFault d .ok s else s) := by
    split
    · exact setFault_activity d .ok s
    · exact ⟨.refl s, rfl, rfl, fun h => absurd rfl h⟩
  have counted (u : State) (r : Detector) (h : r.fault = (u.det d).fault) : OwnActivity d u (u.setDet d r) := setDet_activity h
  unfold ownOnEdge
  simp only
  refine cleared.trans ?_
  generalize (if (s.det d).fault = .noActivity then setFault d .ok s else s) = u
  split
  · refine OwnActivity.trans ?_ (setFault_activity d _ _)
    exact counted u _ rfl
  · exact counted u _ rfl

theorem ownOffEdge_activity (d : Det) (s : State) : OwnActivity d s (ownOffEdge d s) := by
  unfold ownOffEdge
  simp only
  split
  · refine OwnActivity.trans ?_ (setFault_activity d _ _)
    exact setDet_activity rfl
  · exact setDet_activity rfl

theorem turnDelay_tones (d : Det) (s : State) : (turnDelay d s).tones =
    (if (s.det d).level then s.tones else (confirmRequest d s).tones) ∧ (turnDelay d s).greens = s.greens ∧
    EdgeMarks s (turnDelay d s) := by
  have turned : (turnLevel d s).tones = (if (s.det d).level then s.tones else (confirmRequest d s).tones) ∧
      (turnLevel d s).greens = s.greens ∧ EdgeMarks s (turnLevel d s) := by
    unfold turnLevel
    simp only
    split <;> exact ⟨rfl, rfl, ⟨fun _ => id, rfl, fun _ => id⟩⟩
  unfold turnDelay
  split
  · exact ⟨turned.1, turned.2.1, turned.2.2.trans ⟨fun _ => id, rfl, fun _ => id⟩⟩
  · exact turned

/-- What an edge leaves besides the detector's record (R84, R98, R169). -/
theorem ownEdge_leaves (d : Det) (s : State) : EdgeMarks s (ownEdge d s) ∧ (ownEdge d s).greens = s.greens ∧
    (ownEdge d s).tones = (if (s.det d).level then s.tones else (confirmRequest d s).tones) ∧
    (((ownEdge d s).det d).fault ≠ (s.det d).fault → has (ownEdge d s).detMasks.changed d = true ∧
      has (ownEdge d s).link.flags Report.detector.index = true) := by
  obtain ⟨tones, greens, marks⟩ := turnDelay_tones d s
  have fault : ((turnDelay d s).det d).fault = (s.det d).fault := by
    rw [turnDelay_det, if_pos rfl]
    rfl
  rw [ownEdge_eq]
  generalize turnDelay d s = u at *
  generalize (if (s.det d).level then s.tones else (confirmRequest d s).tones) = lines at tones ⊢
  have active (v : State) (h : OwnActivity d u v) : EdgeMarks s v ∧ v.greens = s.greens ∧
      v.tones = lines ∧ ((v.det d).fault ≠ (s.det d).fault → has v.detMasks.changed d = true ∧
        has v.link.flags Report.detector.index = true) :=
    ⟨marks.trans h.marks, h.greens.trans greens, h.tones.trans tones, fun e => h.marked (by rw [fault]; exact e)⟩
  split
  · exact ⟨marks, greens, tones, fun e => absurd fault e⟩
  · split
    · exact active _ (ownOffEdge_activity d u)
    · exact active _ (ownOnEdge_activity d u)

end Sys2Proof.Machine

/-! PROOFS. The level changes of one scan tick pair by pair (R88, R89, Figure 5-1). -/

namespace Sys2Proof.Machine

/-! ### The two edges of a pair -/

theorem partner_partner (d : Det) : partner (partner d) = d := by
  revert d
  decide

theorem partner_lead {d : Det} (h : isLead d = true) : isLead (partner d) = false := by
  revert d
  decide

theorem lead_apart {d e : Det} (hd : isLead d = true) (he : isLead e = true) (h : d ≠ e) :
    partner d ≠ e ∧ partner d ≠ partner e := by
  revert d e
  decide

/-- The level changes of both members of a pair, as `changed` names them. -/
def bothEdges (d : Det) (changed : DetSet) (s : State) : State :=
  let s1 := if has changed d then ownEdge d s else s
  if has changed (partner d) then ownEdge (partner d) s1 else s1

theorem edge_if_det (d e : Det) (b : Bool) (s : State) : (if b then ownEdge d s else s).det e =
    if b = true ∧ e = d then (s.det d).edge else s.det e := by
  cases b
  · simp
  · simp only [if_true, true_and]
    exact ownEdge_det d e s

theorem bothEdges_det (d e : Det) (changed : DetSet) (s : State) : (bothEdges d changed s).det e =
    if has changed e = true ∧ (e = d ∨ e = partner d) then (s.det e).edge else s.det e := by
  have ne := partner_ne d
  unfold bothEdges
  simp only
  rw [edge_if_det, edge_if_det, edge_if_det]
  by_cases h1 : e = d
  · subst h1
    have : ¬ (has changed (partner e) = true ∧ e = partner e) := fun k => ne k.2.symm
    rw [if_neg this]
    simp
  · by_cases h2 : e = partner d
    · subst h2
      simp [ne]
    · simp [h1, h2]

theorem edge_if_leaves (d : Det) (b : Bool) (s : State) : EdgeMarks s (if b then ownEdge d s else s) ∧
    (if b then ownEdge d s else s).greens = s.greens := by
  cases b
  · exact ⟨.refl s, rfl⟩
  · exact ⟨(ownEdge_leaves d s).1, (ownEdge_leaves d s).2.1⟩

theorem bothEdges_leaves (d : Det) (changed : DetSet) (s : State) : EdgeMarks s (bothEdges d changed s) ∧
    (bothEdges d changed s).greens = s.greens := by
  obtain ⟨h1, h2⟩ := edge_if_leaves d (has changed d) s
  obtain ⟨k1, k2⟩ := edge_if_leaves (partner d) (has changed (partner d)) (if has changed d then ownEdge d s else s)
  exact ⟨h1.trans k1, k2.trans h2⟩

/-! ### What the pair's own rules do after the edges -/

/-- Only green records change. -/
def GreensOnly (s t : State) : Prop := t = { s with greens := t.greens }

theorem GreensOnly.trans {s t u : State} (h : GreensOnly s t) (k : GreensOnly t u) : GreensOnly s u := by
  unfold GreensOnly at *
  rw [k, h]

theorem requestLatches_greens (m : ChanSet) (s : State) : GreensOnly s (requestLatches m s) := by
  obtain ⟨g, e⟩ := requestLatches_eq m s
  rw [e]
  rfl

theorem actuate_greens (m : ChanSet) (s : State) : GreensOnly s (actuate m s) := by
  unfold actuate
  split <;> rfl

theorem singleActuation_greens (d : Det) (s : State) : GreensOnly s (singleActuation d s) := by
  unfold singleActuation
  simp only
  split
  · split
    · exact actuate_greens _ s
    · exact (requestLatches_greens _ s).trans (actuate_greens _ _)
    · rfl
    · rfl
  · rfl

/-- A lead's record after the edges of a moment: its direction, its delay timer and its counts (R88, R89, R90). -/
def Detector.paired (r : Detector) (next : Direction) (n : Nat) : Detector :=
  { r with
    direction := next, delayTimer := n
    forward := if r.direction = .forward ∧ next = .clear then r.forward + 1 else r.forward
    reverse := if r.direction = .reverse ∧ next = .clear then r.reverse + 1 else r.reverse }

theorem paired_forward {r : Detector} (h : r.direction = .forward) (n : Nat) :
    r.paired .clear n = { r with direction := .clear, delayTimer := n, forward := r.forward + 1 } := by
  simp [Detector.paired, h]

theorem paired_reverse {r : Detector} (h : r.direction = .reverse) (n : Nat) :
    r.paired .clear n = { r with direction := .clear, delayTimer := n, reverse := r.reverse + 1 } := by
  simp [Detector.paired, h]

theorem paired_other {r : Detector} {k : Direction} (h1 : ¬ (r.direction = .forward ∧ k = .clear))
    (h2 : ¬ (r.direction = .reverse ∧ k = .clear)) (n : Nat) :
    r.paired k n = { r with direction := k, delayTimer := n } := by
  simp only [Detector.paired, if_neg h1, if_neg h2]

/-- What the direction rule of a pair does: the lead's record, and the wrong-way mark with its flag (R88, R89). -/
structure PairMove (d : Det) (next : Direction) (n : Nat) (s t : State) : Prop where
  det : ∀ e, t.det e = if e = d then (s.det d).paired next n else s.det e
  changed : t.detMasks.changed = s.detMasks.changed
  wrongWay : t.detMasks.wrongWay =
    if (s.det d).direction = .reverse ∧ next = .clear ∧ (s.det d).wrongWay = true then insertBit s.detMasks.wrongWay d
    else s.detMasks.wrongWay
  flags : FlagsStay s t
  alarm : (s.det d).direction = .reverse → next = .clear → (s.det d).wrongWay = true →
    has t.link.flags Report.detector.index = true

/-- Whether either member of the pair of a lead is on. -/
def State.pairOn (s : State) (d : Det) : Bool := (s.det d).level || (s.det (partner d)).level

/-- The delay timer of a pair after the edges of a moment (R90). -/
def State.pairDelay (s : State) (d : Det) (was : Bool) : Nat := if s.pairOn d && was then (s.det d).delayTimer else 0

theorem countReverse_leaves (d : Det) (s : State) :
    (∀ e, (countReverse d s).det e = if e = d then { s.det d with reverse := (s.det d).reverse + 1 } else s.det e) ∧
    (countReverse d s).detMasks.changed = s.detMasks.changed ∧
    (countReverse d s).detMasks.wrongWay =
      (if (s.det d).wrongWay = true then insertBit s.detMasks.wrongWay d else s.detMasks.wrongWay) ∧
    FlagsStay s (countReverse d s) ∧
    ((s.det d).wrongWay = true → has (countReverse d s).link.flags Report.detector.index = true) := by
  unfold countReverse
  simp only
  split
  · exact ⟨fun e => setDet_get s d e _, rfl, rfl, flag_flags .detector _, fun _ => by simp [flag_link]⟩
  · next h => exact ⟨fun e => setDet_get s d e _, rfl, rfl, fun _ => id, fun k => absurd k h⟩

theorem pairEdges_move (d : Det) (was a b : Bool) (s : State) :
    PairMove d (directionMove (s.det d).direction a b (!s.pairOn d)) (s.pairDelay d was) s (pairEdges d was a b s) := by
  unfold pairEdges State.pairDelay
  simp only
  rw [show ((s.det d).level || (s.det (partner d)).level) = s.pairOn d from rfl]
  generalize directionMove (s.det d).direction a b (!s.pairOn d) = next
  generalize (if (s.pairOn d && was) = true then (s.det d).delayTimer else 0) = n
  have put (r : Detector) (e : Det) : (s.setDet d r).det e = if e = d then r else s.det e := setDet_get s d e r
  have moved (h1 : ¬ ((s.det d).direction = .forward ∧ next = .clear)) (h2 : ¬ ((s.det d).direction = .reverse ∧ next = .clear))
      (t : State) (ht : GreensOnly (s.setDet d { s.det d with direction := next, delayTimer := n }) t) :
      PairMove d next n s t := by
    have dets : t.dets = (s.setDet d { s.det d with direction := next, delayTimer := n }).dets := by rw [ht]
    have masks : t.detMasks = s.detMasks := by rw [ht]; rfl
    have link : t.link = s.link := by rw [ht]; rfl
    refine ⟨fun e => ?_, by rw [masks], ?_, fun i h => by rw [link]; exact h, fun h k _ => absurd ⟨h, k⟩ h2⟩
    · rw [State.det, dets]
      refine (put _ e).trans ?_
      rw [paired_other h1 h2]
    · rw [masks, if_neg (fun k => h2 ⟨k.1, k.2.1⟩)]
  split
  · next h1 =>
    refine moved (by simp) (by simp) _ ?_
    split
    · rfl
    · exact actuate_greens _ _
  · next h1 =>
    refine ⟨fun e => ?_, rfl, ?_, fun _ => id, fun h => by rw [h1] at h; cases h⟩
    · rw [setDet_get, setDet_det, put, paired_forward h1]
      split <;> rfl
    · rw [if_neg (by simp [h1])]
      rfl
  · next h1 =>
    obtain ⟨det, changed, way, flags, alarm⟩ :=
      countReverse_leaves d (s.setDet d { s.det d with direction := .clear, delayTimer := n })
    rw [setDet_det] at way alarm
    refine ⟨fun e => ?_, changed, ?_, flags, fun _ _ k => alarm k⟩
    · rw [det, setDet_det, put, paired_reverse h1]
      split <;> rfl
    · rw [way]
      simp only [h1, true_and]
      rfl
  · next h1 h2 h3 =>
    exact moved (fun k => h2 k.1 k.2) (fun k => h3 k.1 k.2) _ rfl

end Sys2Proof.Machine

/-! PROOFS. What the level changes of a scan tick make of every detector, and the scan tick (O16). -/

namespace Sys2Proof.Machine

/-! ### One pair -/

/-- What an edge leaves of a detector (R84). -/
theorem edge_keeps (r : Detector) : r.edge.level = !r.level ∧ r.edge.run = 0 ∧ r.edge.direction = r.direction ∧
    r.edge.forward = r.forward ∧ r.edge.reverse = r.reverse ∧ r.edge.wrongWay = r.wrongWay ∧ r.edge.mode = r.mode := by
  unfold Detector.edge
  split
  · exact ⟨rfl, rfl, rfl, rfl, rfl, rfl, rfl⟩
  · split <;> exact ⟨rfl, rfl, rfl, rfl, rfl, rfl, rfl⟩

/-- The actuations of two detectors that are no pair. -/
def singles (d : Det) (changed : DetSet) (s : State) : State :=
  let s' := if has changed d then singleActuation d s else s
  if has changed (partner d) then singleActuation (partner d) s' else s'

theorem singles_greens (d : Det) (changed : DetSet) (s : State) : GreensOnly s (singles d changed s) := by
  have one (b : Bool) (e : Det) (u : State) : GreensOnly u (if b then singleActuation e u else u) := by
    cases b
    · exact rfl
    · exact singleActuation_greens e u
  exact (one _ _ _).trans (one _ _ _)

theorem pairLevels_eq (d : Det) (changed : DetSet) (s : State) : pairLevels d changed s =
    if has changed d || has changed (partner d) then
      handBegun s (if (s.det d).mode = .pair then
        pairEdges d (s.pairOn d) (has changed d && ((bothEdges d changed s).det d).level)
          (has changed (partner d) && ((bothEdges d changed s).det (partner d)).level) (bothEdges d changed s)
        else singles d changed (bothEdges d changed s))
    else s := rfl

/-- The level of a detector after the changes of a moment. -/
def State.newLevel (s : State) (changed : DetSet) (d : Det) : Bool := (s.det d).level != has changed d

/-- The direction of a pair after the changes of a moment (Figure 5-1). -/
def State.pairMove (s : State) (d : Det) (changed : DetSet) : Direction :=
  directionMove (s.det d).direction (has changed d && !(s.det d).level)
    (has changed (partner d) && !(s.det (partner d)).level)
    (!(s.newLevel changed d || s.newLevel changed (partner d)))

theorem bothEdges_own (d e : Det) (changed : DetSet) (s : State) (h : e = d ∨ e = partner d) :
    (bothEdges d changed s).det e = if has changed e then (s.det e).edge else s.det e := by
  rw [bothEdges_det]
  simp [h]

theorem bothEdges_level (d e : Det) (changed : DetSet) (s : State) (h : e = d ∨ e = partner d) :
    ((bothEdges d changed s).det e).level = s.newLevel changed e := by
  rw [bothEdges_own d e changed s h, State.newLevel]
  split
  · next hc => rw [(edge_keeps _).1, hc]; simp
  · next hc => simp [hc]

theorem bothEdges_on (d e : Det) (changed : DetSet) (s : State) (h : e = d ∨ e = partner d) :
    (has changed e && ((bothEdges d changed s).det e).level) = (has changed e && !(s.det e).level) := by
  rw [bothEdges_level d e changed s h, State.newLevel]
  cases has changed e <;> simp

theorem bothEdges_lead (d : Det) (changed : DetSet) (s : State) :
    ((bothEdges d changed s).det d).direction = (s.det d).direction ∧
    ((bothEdges d changed s).det d).wrongWay = (s.det d).wrongWay := by
  rw [bothEdges_own d d changed s (.inl rfl)]
  split
  · exact ⟨(edge_keeps _).2.2.1, (edge_keeps _).2.2.2.2.2.1⟩
  · exact ⟨rfl, rfl⟩

/-- What the level changes of a pair leave: the records after their edges, the lead's after its direction rule, the wrong-way
mark, and marks and flags that stay (R84 to R89, R98). -/
structure PairLevels (d : Det) (changed : DetSet) (s t : State) : Prop where
  det : ∃ n, ∀ e, t.det e = if e = d ∧ (s.det d).mode = .pair ∧ (has changed d = true ∨ has changed (partner d) = true) then
    ((bothEdges d changed s).det d).paired (s.pairMove d changed) n else (bothEdges d changed s).det e
  marks : ∀ e, has s.detMasks.changed e = true → has t.detMasks.changed e = true
  wrongWay : t.detMasks.wrongWay = if (s.det d).mode = .pair ∧ (has changed d = true ∨ has changed (partner d) = true) ∧
    (s.det d).direction = .reverse ∧ s.pairMove d changed = .clear ∧ (s.det d).wrongWay = true then
      insertBit s.detMasks.wrongWay d else s.detMasks.wrongWay
  flags : FlagsStay s t
  alarm : (s.det d).mode = .pair → (has changed d = true ∨ has changed (partner d) = true) →
    (s.det d).direction = .reverse → s.pairMove d changed = .clear → (s.det d).wrongWay = true →
    has t.link.flags Report.detector.index = true

theorem greensOnly_marks {s t : State} (h : GreensOnly s t) : t.dets = s.dets ∧ t.detMasks = s.detMasks ∧ t.link = s.link := by
  unfold GreensOnly at h
  rw [h]
  exact ⟨rfl, rfl, rfl⟩

theorem pairLevels_leaves (d : Det) (changed : DetSet) (s : State) : PairLevels d changed s (pairLevels d changed s) := by
  obtain ⟨marks, -⟩ := bothEdges_leaves d changed s
  rw [pairLevels_eq]
  by_cases hc : (has changed d || has changed (partner d)) = true
  · have hor : has changed d = true ∨ has changed (partner d) = true := by simpa using hc
    rw [if_pos hc]
    by_cases hm : (s.det d).mode = .pair
    · rw [if_pos hm, bothEdges_on d d changed s (.inl rfl), bothEdges_on d (partner d) changed s (.inr rfl)]
      have move := pairEdges_move d (s.pairOn d) (has changed d && !(s.det d).level)
        (has changed (partner d) && !(s.det (partner d)).level) (bothEdges d changed s)
      obtain ⟨direction, way⟩ := bothEdges_lead d changed s
      have on : (bothEdges d changed s).pairOn d = (s.newLevel changed d || s.newLevel changed (partner d)) := by
        rw [State.pairOn, bothEdges_level d d changed s (.inl rfl), bothEdges_level d _ changed s (.inr rfl)]
      rw [on, direction] at move
      change PairMove d (s.pairMove d changed) _ _ _ at move
      generalize pairEdges d (s.pairOn d) (has changed d && !(s.det d).level)
        (has changed (partner d) && !(s.det (partner d)).level) (bothEdges d changed s) = u at move ⊢
      obtain ⟨dets, masks, link⟩ := greensOnly_marks (requestLatches_greens (detUnion fun d =>
        if (u.det d).locking then u.callConds d &&& ~~~ s.callConds d else 0) u)
      rw [← handBegun] at dets masks link
      generalize handBegun s u = t at *
      refine ⟨⟨(bothEdges d changed s).pairDelay d (s.pairOn d), fun e => ?_⟩, fun e h => ?_, ?_, fun i h => ?_,
        fun _ _ h1 h2 h3 => ?_⟩
      · rw [State.det, dets, ← State.det, move.det]
        by_cases he : e = d <;> simp [he, hm, hor]
      · rw [masks, move.changed]
        exact marks.changed e h
      · rw [masks, move.wrongWay, direction, way, marks.wrongWay]
        simp [hm, hor]
      · rw [link]
        exact move.flags i (marks.flags i h)
      · rw [link]
        exact move.alarm (by rw [direction]; exact h1) h2 (by rw [way]; exact h3)
    · rw [if_neg hm]
      have only := (singles_greens d changed (bothEdges d changed s)).trans
        (requestLatches_greens (detUnion fun e => if ((singles d changed (bothEdges d changed s)).det e).locking then
          (singles d changed (bothEdges d changed s)).callConds e &&& ~~~ s.callConds e else 0) _)
      rw [← handBegun] at only
      obtain ⟨dets, masks, link⟩ := greensOnly_marks only
      generalize handBegun s (singles d changed (bothEdges d changed s)) = t at *
      refine ⟨⟨0, fun e => ?_⟩, fun e h => ?_, ?_, fun i h => ?_, fun h => absurd h hm⟩
      · rw [State.det, dets, if_neg (fun k => hm k.2.1)]
        rfl
      · rw [masks]; exact marks.changed e h
      · rw [masks, if_neg (fun k => hm k.1), marks.wrongWay]
      · rw [link]; exact marks.flags i h
  · have none : ¬ (has changed d = true ∨ has changed (partner d) = true) := by simpa using hc
    obtain ⟨n1, n2⟩ := not_or.mp none
    rw [if_neg hc]
    refine ⟨⟨0, fun e => ?_⟩, fun _ => id, ?_, fun _ => id, fun _ k => absurd k none⟩
    · rw [if_neg (fun k => none k.2.2), bothEdges_det]
      split
      · next h => obtain ⟨h1, rfl | rfl⟩ := h <;> contradiction
      · rfl
    · rw [if_neg (fun k => none k.2.1)]

end Sys2Proof.Machine

/-! PROOFS. The level changes of a moment on every detector, and the scan tick (O16). -/

namespace Sys2Proof.Machine

/-! ### Every pair -/

/-- The pair of a lead, its wrong-way mark and the report flags stand. -/
structure SamePair (L : Det) (s t : State) : Prop where
  lead : t.det L = s.det L
  lag : t.det (partner L) = s.det (partner L)
  wrongWay : has t.detMasks.wrongWay L = has s.detMasks.wrongWay L
  flags : FlagsStay s t

theorem SamePair.refl (L : Det) (s : State) : SamePair L s s := ⟨rfl, rfl, rfl, fun _ => id⟩

theorem SamePair.trans {L : Det} {s t u : State} (h : SamePair L s t) (k : SamePair L t u) : SamePair L s u :=
  ⟨k.lead.trans h.lead, k.lag.trans h.lag, k.wrongWay.trans h.wrongWay, fun i e => k.flags i (h.flags i e)⟩

/-- One pair's level changes leave every other pair. -/
theorem pairLevels_apart {L M : Det} (hL : isLead L = true) (hM : isLead M = true) (h : M ≠ L) (changed : DetSet) (s : State) :
    SamePair L s (pairLevels M changed s) := by
  obtain ⟨⟨n, det⟩, -, way, flags, -⟩ := pairLevels_leaves M changed s
  have other := lead_apart hM hL h
  have back : partner L ≠ M := fun e => other.1 (by rw [← e, partner_partner])
  refine ⟨?_, ?_, ?_, flags⟩
  · rw [det, if_neg (fun k => h k.1.symm), bothEdges_det, if_neg (fun k => k.2.elim (fun e => h e.symm) (fun e => other.1 e.symm))]
  · rw [det, if_neg (fun k => back k.1), bothEdges_det, if_neg (fun k => k.2.elim back (fun e => other.2 e.symm))]
  · rw [way]
    split
    · rw [has_insertBit]; simp [h.symm]
    · rfl

/-- The level changes of the pairs of a list that a lead is not in leave its pair. -/
theorem pairs_apart {L : Det} (hL : isLead L = true) (changed : DetSet) {l : List Det} (h : L ∉ l) (s : State) :
    SamePair L s (l.foldl (fun s d => if isLead d then pairLevels d changed s else s) s) := by
  induction l generalizing s with
  | nil => exact .refl L s
  | cons d l ih =>
    obtain ⟨hd, hl⟩ : L ≠ d ∧ L ∉ l := by simpa using h
    refine SamePair.trans ?_ (ih hl _)
    change SamePair L s (if isLead d then pairLevels d changed s else s)
    split
    · next hM => exact pairLevels_apart hL hM hd.symm changed s
    · exact .refl L s

/-- Every pair takes its own level changes, with nothing of its own before or after. -/
theorem detectorLevels_pair {L : Det} (hL : isLead L = true) (changed : DetSet) (s : State) :
    ∃ u, SamePair L s u ∧ SamePair L (pairLevels L changed u) (detectorLevels changed s) := by
  obtain ⟨l, r, e⟩ := List.append_of_mem (List.mem_finRange L)
  have nodup : (l ++ L :: r).Nodup := e ▸ List.nodup_finRange 24
  have before : L ∉ l := fun k => (List.nodup_append.mp nodup).2.2 L k L (List.mem_cons_self ..) rfl
  have after : L ∉ r := (List.nodup_cons.mp (List.nodup_append.mp nodup).2.1).1
  refine ⟨_, pairs_apart hL changed before s, ?_⟩
  unfold detectorLevels
  rw [e, List.foldl_append, List.foldl_cons, if_pos hL]
  exact pairs_apart hL changed after _

/-- The lead of a detector's pair. -/
theorem lead_of (d : Det) : ∃ L, isLead L = true ∧ (d = L ∨ d = partner L) := by
  revert d
  decide

theorem SamePair.member {L d : Det} {s t : State} (h : SamePair L s t) (k : d = L ∨ d = partner L) : t.det d = s.det d := by
  rcases k with rfl | rfl
  · exact h.lead
  · exact h.lag

/-- A detector's record apart from what its pair's direction rule moves. -/
structure Detector.SameOwn (r r' : Detector) : Prop where
  level : r'.level = r.level
  run : r'.run = r.run
  volume : r'.volume = r.volume
  fault : r'.fault = r.fault
  presence : r'.presence = r.presence
  absence : r'.absence = r.absence
  window : r'.window = r.window

/-- Every detector of a changed level has had its edge, and no other has one (R84). -/
theorem detectorLevels_own (changed : DetSet) (s : State) (d : Det) :
    (if has changed d then (s.det d).edge else s.det d).SameOwn ((detectorLevels changed s).det d) := by
  obtain ⟨L, hL, hd⟩ := lead_of d
  obtain ⟨u, before, after⟩ := detectorLevels_pair hL changed s
  obtain ⟨⟨n, det⟩, -⟩ := pairLevels_leaves L changed u
  have own := bothEdges_own L d changed u hd
  rw [before.member hd] at own
  rw [after.member hd, det, ← own]
  by_cases e : d = L
  · subst e
    split <;> exact ⟨rfl, rfl, rfl, rfl, rfl, rfl, rfl⟩
  · rw [if_neg (fun k => e k.1)]
    exact ⟨rfl, rfl, rfl, rfl, rfl, rfl, rfl⟩

/-- What the runs of a scan leave of a detector before its level change. -/
theorem edge_own (r : Detector) (n : Nat) : ({ r with run := n } : Detector).edge.level = (!r.level) ∧
    ({ r with run := n } : Detector).edge.run = 0 ∧ ({ r with run := n } : Detector).edge.volume =
      if r.mode ≠ .off ∧ r.level = false then r.volume + 1 else r.volume := by
  unfold Detector.edge
  by_cases h : r.mode = .off
  · simp [h, Detector.turned]
  · cases hl : r.level <;> simp [h, hl, Detector.turned, Detector.onEdge, Detector.offEdge]

/-! ### The scan tick (O16) -/

/-- What `condition` answers: the run, and the level change at the last differing sample (R84). -/
theorem condition_eq (limit : Nat) (level : Bool) (run : Nat) (sample : Bool) :
    (condition limit level run sample).1 = (if sample = level ∨ limit ≤ run + 1 then 0 else run + 1) ∧
    (condition limit level run sample).2 = decide (sample ≠ level ∧ limit ≤ run + 1) := by
  unfold condition
  by_cases h : sample = level
  · simp [h]
  · by_cases k : run + 1 < limit
    · simp [h, k]
    · simp [h, k]
      omega

/-- A detector's record after a sample, its level change taken (R84, R93). -/
theorem sampled_own {r r' : Detector} {x : Bool}
    (own : (if (condition Config.scanSamples r.level r.run x).2
      then { r with run := (condition Config.scanSamples r.level r.run x).1 }.edge
      else { r with run := (condition Config.scanSamples r.level r.run x).1 }).SameOwn r') :
    r'.run = (if x = r.level ∨ 2 ≤ r.run then 0 else r.run + 1) ∧ r'.level = (if 2 ≤ r.run then x else r.level) ∧
      r'.volume = (if r.mode ≠ .off ∧ r.level = false ∧ r'.level = true then r.volume + 1 else r.volume) := by
  obtain ⟨runs, turns⟩ := condition_eq Config.scanSamples r.level r.run x
  have three : Config.scanSamples ≤ r.run + 1 ↔ 2 ≤ r.run := Nat.succ_le_succ_iff
  simp only [three] at runs turns
  generalize condition Config.scanSamples r.level r.run x = c at *
  obtain ⟨e1, e2, e3⟩ := edge_own r c.1
  by_cases h : x ≠ r.level ∧ 2 ≤ r.run
  · rw [turns, if_pos (decide_eq_true h)] at own
    obtain ⟨level, run, volume, -⟩ := own
    have turned : (!r.level) = x := by
      obtain ⟨h, -⟩ := h
      cases hl : r.level <;> cases x <;> simp_all
    rw [level, run, volume, e1, e2, e3, turned]
    refine ⟨by rw [if_pos (.inr h.2)], by rw [if_pos h.2], ?_⟩
    rw [← turned]
    simp
  · rw [turns, if_neg (by simpa using h)] at own
    obtain ⟨level, run, volume, -⟩ := own
    have same : (if 2 ≤ r.run then x else r.level) = r.level := by
      split
      · next k => exact not_not.mp fun e => h ⟨e, k⟩
      · rfl
    rw [level, run, volume, same]
    refine ⟨runs, rfl, ?_⟩
    rw [if_neg]
    rintro ⟨-, off, on⟩
    exact absurd (off.symm.trans on) Bool.false_ne_true

theorem scanDetectors_own (inputs : BitVec 24) (s : State) (d : Det) :
    (if (condition Config.scanSamples (s.det d).level (s.det d).run (has inputs d)).2
      then { s.det d with run := (condition Config.scanSamples (s.det d).level (s.det d).run (has inputs d)).1 }.edge
      else { s.det d with run := (condition Config.scanSamples (s.det d).level (s.det d).run (has inputs d)).1 }).SameOwn
      ((scanDetectors inputs s).det d) := by
  unfold scanDetectors
  simp only
  have own := detectorLevels_own
    (maskOf fun d => (condition Config.scanSamples (s.det d).level (s.det d).run (has inputs d)).2)
    { s with dets := vmap (fun d r => { r with run := (condition Config.scanSamples r.level r.run (has inputs d)).1 }) s.dets } d
  rw [has_maskOf] at own
  generalize detectorLevels _ _ = t at *
  have put : (State.det { s with
      dets := vmap (fun d r => { r with run := (condition Config.scanSamples r.level r.run (has inputs d)).1 }) s.dets } d) =
      { s.det d with run := (condition Config.scanSamples (s.det d).level (s.det d).run (has inputs d)).1 } := by
    unfold State.det
    rw [vmap_get]
  rw [put] at own
  exact own

/-- A preemption input after a sample (R104). -/
theorem scanPreempts_pre (inputs : BitVec 4) (s : State) (p : Pre) :
    let q := (scanPreempts inputs s).pre p
    q.run = (if has inputs p = (s.pre p).level ∨ 2 ≤ (s.pre p).run then 0 else (s.pre p).run + 1) ∧
      q.level = (if 2 ≤ (s.pre p).run then has inputs p else (s.pre p).level) ∧
      q.presence = (if q.level = (s.pre p).level then (s.pre p).presence else 0) ∧
      q.stuck = (if (s.pre p).level = true ∧ q.level = false then false else (s.pre p).stuck) := by
  obtain ⟨runs, turns⟩ := condition_eq Config.scanSamples (s.pre p).level (s.pre p).run (has inputs p)
  have three : Config.scanSamples ≤ (s.pre p).run + 1 ↔ 2 ≤ (s.pre p).run := Nat.succ_le_succ_iff
  simp only [three] at runs turns
  have put : (scanPreempts inputs s).pre p =
      if (condition Config.scanSamples (s.pre p).level (s.pre p).run (has inputs p)).2 then (s.pre p).turn
      else { s.pre p with run := (condition Config.scanSamples (s.pre p).level (s.pre p).run (has inputs p)).1 } := by
    unfold scanPreempts State.pre
    rw [vmap_get]
  simp only [put]
  generalize condition Config.scanSamples (s.pre p).level (s.pre p).run (has inputs p) = c at *
  generalize s.pre p = r at *
  generalize has inputs p = x at *
  by_cases h : x ≠ r.level ∧ 2 ≤ r.run
  · have turned : (!r.level) = x := by
      obtain ⟨h, -⟩ := h
      cases hl : r.level <;> cases x <;> simp_all
    rw [turns, if_pos (decide_eq_true h)]
    refine ⟨by rw [if_pos (.inr h.2)]; rfl, by rw [if_pos h.2]; exact turned, ?_, ?_⟩
    · simp [Preempt.turn]
    · cases hl : r.level <;> simp [Preempt.turn, hl]
  · rw [turns, if_neg (by simpa using h)]
    refine ⟨runs, ?_, by simp, by cases r.level <;> simp⟩
    change r.level = _
    split
    · next k => exact (not_not.mp fun e => h ⟨e, k⟩).symm
    · rfl

theorem turnSwitch_after (s : State) : Aftermath s (turnSwitch s) := by
  have turned : Aftermath s { s with unit := { s.unit with switchLevel := !s.unit.switchLevel, switchRun := 0 } } :=
    { Aftermath.refl s with }
  unfold turnSwitch switchOn
  simp only
  split
  · refine turned.trans ?_
    split
    · exact enterClearing_after _ _
    · exact .refl _
  · exact turned

theorem scanSwitch_after (x : Bool) (s : State) : Aftermath s (scanSwitch x s) := by
  unfold scanSwitch
  simp only
  split
  · exact turnSwitch_after s
  · exact { Aftermath.refl s with }

/-- The switch after a sample: its tenth differing one turns it, an on-edge in ENTRY_RED or CONTROLLED beginning the orderly
flash (R139). -/
theorem scanSwitch_unit (x : Bool) (s : State) :
    ((scanSwitch x s).unit.switchRun = if x = s.unit.switchLevel ∨ 9 ≤ s.unit.switchRun then 0 else s.unit.switchRun + 1) ∧
    ((scanSwitch x s).unit.switchLevel = if 9 ≤ s.unit.switchRun then x else s.unit.switchLevel) ∧
    (s.unit.switchLevel = false → (scanSwitch x s).unit.switchLevel = true →
      (s.unit.mode = .entryRed ∨ s.unit.mode = .controlled) →
        ∃ u : UnitState, scanSwitch x s = enterClearing .manual { s with unit := u }) := by
  obtain ⟨runs, turns⟩ := condition_eq Config.switchSamples s.unit.switchLevel s.unit.switchRun x
  have ten : Config.switchSamples ≤ s.unit.switchRun + 1 ↔ 9 ≤ s.unit.switchRun := Nat.succ_le_succ_iff
  simp only [ten] at runs turns
  unfold scanSwitch
  simp only
  generalize condition Config.switchSamples s.unit.switchLevel s.unit.switchRun x = c at *
  by_cases h : x ≠ s.unit.switchLevel ∧ 9 ≤ s.unit.switchRun
  · rw [turns, if_pos (decide_eq_true h)]
    obtain ⟨level, run, -, act⟩ := turnSwitch_unit s
    have turned : (!s.unit.switchLevel) = x := by
      obtain ⟨h, -⟩ := h
      cases hl : s.unit.switchLevel <;> cases x <;> simp_all
    exact ⟨by rw [if_pos (.inr h.2)]; exact run, by rw [if_pos h.2, level]; exact turned, fun k _ m => act k m⟩
  · rw [turns, if_neg (by simpa using h)]
    refine ⟨runs, ?_, fun k m => absurd (k.symm.trans m) Bool.false_ne_true⟩
    change s.unit.switchLevel = _
    split
    · next k => exact (not_not.mp fun e => h ⟨e, k⟩).symm
    · rfl

theorem scanPreempts_blocks (inputs : BitVec 4) (s : State) : ∃ p, scanPreempts inputs s = { s with pres := p } := ⟨_, rfl⟩

/-- The timebase at a scan tick: the scan count and the clock (R152; log entry 8). -/
def Timebase.scanned (t : Timebase) : Timebase :=
  { t with scans := t.scans + 1, clock := max t.clock ((t.scans + 1) * 10000) }

/-- The state in which a scan tick has conditioned the detectors and the preemption inputs. -/
def scannedInputs (dets : BitVec 24) (pres : BitVec 4) (s : State) : State :=
  settle { s with time := s.time.scanned } (scanPreempts pres (scanDetectors dets { s with time := s.time.scanned }))

theorem exec_scanTick (dets : BitVec 24) (pres : BitVec 4) (mfs : Bool) (s : State) : exec (.scanTick dets pres mfs) s =
    .next (settle (scannedInputs dets pres s) (scanSwitch mfs (scannedInputs dets pres s))) := rfl

theorem scannedInputs_time (dets : BitVec 24) (pres : BitVec 4) (s : State) :
    (scannedInputs dets pres s).time = s.time.scanned := by
  obtain ⟨d, m, g, v, f, frame⟩ := (scanDetectors_step dets { s with time := s.time.scanned }).frame
  rw [scannedInputs, (settle_after _ _).time, scanPreempts, frame]

theorem scannedInputs_det (dets : BitVec 24) (pres : BitVec 4) (s : State) (d : Det) :
    (scannedInputs dets pres s).det d = (scanDetectors dets { s with time := s.time.scanned }).det d := by
  rw [scannedInputs, State.det, (settle_after _ _).dets]
  rfl

theorem scannedInputs_pre (inputs : BitVec 24) (pres : BitVec 4) (s : State) (p : Pre) :
    let q := (scannedInputs inputs pres s).pre p
    q.run = (if has pres p = (s.pre p).level ∨ 2 ≤ (s.pre p).run then 0 else (s.pre p).run + 1) ∧
      q.level = (if 2 ≤ (s.pre p).run then has pres p else (s.pre p).level) ∧
      q.presence = (if q.level = (s.pre p).level then (s.pre p).presence else 0) ∧
      q.stuck = (if (s.pre p).level = true ∧ q.level = false then false else (s.pre p).stuck) := by
  obtain ⟨d, m, g, v, f, frame⟩ := (scanDetectors_step inputs { s with time := s.time.scanned }).frame
  have e : (scanDetectors inputs { s with time := s.time.scanned }).pre p = s.pre p := by rw [frame]; rfl
  obtain ⟨level, run, presence, stuck, -⟩ := (settle_after { s with time := s.time.scanned }
    (scanPreempts pres (scanDetectors inputs { s with time := s.time.scanned }))).levels p
  have input := scanPreempts_pre pres (scanDetectors inputs { s with time := s.time.scanned }) p
  rw [e] at input
  simp only
  rw [scannedInputs, level, run, presence, stuck]
  exact input

theorem scannedInputs_unit (dets : BitVec 24) (pres : BitVec 4) (s : State) : (scannedInputs dets pres s).unit = s.unit ∨
    (s.unit.mode = .clearingToFlash ∧ (scannedInputs dets pres s).unit = { s.unit with mode := .localFlash, ftr := true }) := by
  obtain ⟨d, m, g, v, f, frame⟩ := (scanDetectors_step dets { s with time := s.time.scanned }).frame
  have h := settle_unit { s with time := s.time.scanned }
    (scanPreempts pres (scanDetectors dets { s with time := s.time.scanned }))
  have same : (scanPreempts pres (scanDetectors dets { s with time := s.time.scanned })).unit = s.unit := by
    rw [scanPreempts, frame]
  rw [same] at h
  exact h

/-- Settles O16. -/
theorem scanTick_rules : Obligations.ScanTick := by
  intro dets pres mfs s
  refine ⟨_, exec_scanTick dets pres mfs s, ?_⟩
  have time := scannedInputs_time dets pres s
  have det := scannedInputs_det dets pres s
  have unit := scannedInputs_unit dets pres s
  have input := scannedInputs_pre dets pres s
  have own := fun d => sampled_own (scanDetectors_own dets { s with time := s.time.scanned } d)
  generalize scannedInputs dets pres s = u at *
  generalize scanDetectors dets { s with time := s.time.scanned } = v at *
  obtain ⟨run, level, act⟩ := scanSwitch_unit mfs u
  have after := (scanSwitch_after mfs u).trans (settle_after u _)
  have switch : u.unit.switchRun = s.unit.switchRun ∧ u.unit.switchLevel = s.unit.switchLevel := by
    rcases unit with e | ⟨-, e⟩ <;> rw [e] <;> exact ⟨rfl, rfl⟩
  have last : (settle u (scanSwitch mfs u)).unit.switchRun = (scanSwitch mfs u).unit.switchRun ∧
      (settle u (scanSwitch mfs u)).unit.switchLevel = (scanSwitch mfs u).unit.switchLevel := by
    rcases settle_unit u (scanSwitch mfs u) with e | ⟨-, e⟩ <;> rw [e] <;> exact ⟨rfl, rfl⟩
  rw [switch.1, switch.2] at run level
  refine ⟨fun d => ?_, fun p => ?_, last.1.trans run, last.2.trans level, fun off on mode => ?_, after.time.trans time⟩
  · have e : (settle u (scanSwitch mfs u)).det d = v.det d := by
      rw [← det d, State.det, State.det, after.dets]
    rw [e]
    exact own d
  · obtain ⟨k1, k2, k3, k4, -⟩ := after.levels p
    rw [k1, k2, k3, k4]
    exact input p
  · have still : u.unit = s.unit := unit.resolve_right fun k => by
      rw [k.1] at mode; rcases mode with h | h <;> cases h
    obtain ⟨w, e⟩ := act (by rw [switch.2]; exact off) (by rw [← last.2]; exact on) (by rw [still]; exact mode)
    rw [e]
    obtain ⟨cause, -, entered⟩ := enterClearing_settled u .manual { u with unit := w }
    exact ⟨cause, entered⟩

end Sys2Proof.Machine

/-! PROOFS. The direction of a pair at the level changes of a moment (R88, R89, Figure 5-1). -/

namespace Sys2Proof.Machine

/-- What the level changes of a moment make of a pair, `turn` naming the detectors whose level changes. -/
structure PairTaken (turn : Det → Bool) (L : Det) (s t : State) : Prop where
  direction : (t.det L).direction = directionMove (s.det L).direction (turn L && !(s.det L).level)
    (turn (partner L) && !(s.det (partner L)).level)
    (((s.det L).level == turn L) && ((s.det (partner L)).level == turn (partner L)))
  forward : (t.det L).forward = if (s.det L).direction = .forward ∧ (t.det L).direction = .clear then (s.det L).forward + 1
    else (s.det L).forward
  reverse : (t.det L).reverse = if (s.det L).direction = .reverse ∧ (t.det L).direction = .clear then (s.det L).reverse + 1
    else (s.det L).reverse
  wrongWay : has t.detMasks.wrongWay L = (has s.detMasks.wrongWay L || decide ((s.det L).direction = .reverse ∧
    (t.det L).direction = .clear ∧ (s.det L).wrongWay = true))
  alarm : (s.det L).direction = .reverse → (t.det L).direction = .clear → (s.det L).wrongWay = true →
    has t.link.flags Report.detector.index = true

theorem PairTaken.settled {turn : Det → Bool} {L : Det} {s t u : State} (h : PairTaken turn L s t) (dets : u.dets = t.dets)
    (masks : u.detMasks = t.detMasks) (flags : FlagsStay t u) : PairTaken turn L s u := by
  have e : u.det L = t.det L := by rw [State.det, dets]; rfl
  refine ⟨?_, ?_, ?_, ?_, fun a b c => flags _ (h.alarm a (by rw [← e]; exact b) c)⟩
  · rw [e]; exact h.direction
  · rw [e]; exact h.forward
  · rw [e]; exact h.reverse
  · rw [e, masks]; exact h.wrongWay

/-- Only the detectors and their marks before the changes count. -/
theorem PairTaken.from {turn : Det → Bool} {L : Det} {s s' t : State} (h : PairTaken turn L s' t) (dets : s'.dets = s.dets)
    (masks : s'.detMasks = s.detMasks) : PairTaken turn L s t := by
  have e (d : Det) : s'.det d = s.det d := by rw [State.det, dets]; rfl
  obtain ⟨k1, k2, k3, k4, k5⟩ := h
  rw [e] at k1 k2 k3 k4 k5
  rw [e] at k1
  rw [masks] at k4
  exact ⟨k1, k2, k3, k4, k5⟩

theorem newLevel_off (a b : Bool) (x y : Bool) : (!((a != x) || (b != y))) = ((a == x) && (b == y)) := by
  revert a b x y
  decide

/-- The pair of a lead in PAIR mode takes the changes of the moment (R88, R89). -/
theorem detectorLevels_taken {L : Det} {changed : DetSet} {s : State} (hL : isLead L = true) (hm : (s.det L).mode = .pair)
    (h : has changed L = true ∨ has changed (partner L) = true) :
    PairTaken (has changed) L s (detectorLevels changed s) := by
  obtain ⟨u, before, after⟩ := detectorLevels_pair hL changed s
  obtain ⟨⟨n, det⟩, -, way, -, alarm⟩ := pairLevels_leaves L changed u
  have lead := det L
  have own := bothEdges_own L L changed u (.inl rfl)
  have move : u.pairMove L changed = directionMove (s.det L).direction (has changed L && !(s.det L).level)
      (has changed (partner L) && !(s.det (partner L)).level)
      (((s.det L).level == has changed L) && ((s.det (partner L)).level == has changed (partner L))) := by
    rw [State.pairMove, State.newLevel, State.newLevel, before.lead, before.lag, newLevel_off]
  rw [before.lead] at lead own way alarm
  rw [if_pos ⟨rfl, hm, h⟩] at lead
  have kept : ∃ r : Detector, (bothEdges L changed u).det L = r ∧ r.direction = (s.det L).direction ∧
      r.forward = (s.det L).forward ∧ r.reverse = (s.det L).reverse := by
    refine ⟨_, own, ?_⟩
    split
    · obtain ⟨-, -, k1, k2, k3, -⟩ := edge_keeps (s.det L)
      exact ⟨k1, k2, k3⟩
    · exact ⟨rfl, rfl, rfl⟩
  obtain ⟨r, e, k1, k2, k3⟩ := kept
  rw [e, ← after.lead] at lead
  have next : ((detectorLevels changed s).det L).direction = u.pairMove L changed := by rw [lead]; rfl
  refine ⟨next.trans move, ?_, ?_, ?_, fun a b c => after.flags _ (alarm hm h a (next.symm.trans b) c)⟩
  · rw [next, lead, Detector.paired, k1, k2]
  · rw [next, lead, Detector.paired, k1, k3]
  · rw [after.wrongWay, way, next, ← before.wrongWay]
    by_cases k : (s.det L).direction = .reverse ∧ u.pairMove L changed = .clear ∧ (s.det L).wrongWay = true
    · rw [if_pos ⟨hm, h, k⟩, decide_eq_true k, has_insertBit]
      simp
    · rw [if_neg (fun x => k x.2.2), decide_eq_false k]
      simp

/-- The detectors' share of a scan tick takes a pair (R84, R88). -/
theorem scanDetectors_taken {inputs : BitVec 24} {pres : BitVec 4} {mfs : Bool} {s : State} {L : Det} (hL : isLead L = true)
    (hm : (s.det L).mode = .pair) (h : s.turns (.scanTick inputs pres mfs) L = true ∨
      s.turns (.scanTick inputs pres mfs) (partner L) = true) :
    PairTaken (s.turns (.scanTick inputs pres mfs)) L s (scanDetectors inputs s) := by
  have same : has (maskOf fun d => (condition Config.scanSamples (s.det d).level (s.det d).run (has inputs d)).2) =
      s.turns (.scanTick inputs pres mfs) := by
    funext d
    rw [has_maskOf, (condition_eq _ _ _ _).2]
    change _ = (has inputs d != (s.det d).level && decide (2 ≤ (s.det d).run))
    have three : Config.scanSamples ≤ (s.det d).run + 1 ↔ 2 ≤ (s.det d).run := Nat.succ_le_succ_iff
    simp only [three]
    by_cases k : has inputs d = (s.det d).level <;> simp [k]
  unfold scanDetectors
  simp only
  generalize hu : ({ s with dets := _ } : State) = u
  have put (d : Det) : ∃ n, u.det d = { s.det d with run := n } := by
    refine ⟨(condition Config.scanSamples (s.det d).level (s.det d).run (has inputs d)).1, ?_⟩
    rw [← hu, State.det, vmap_get]
    rfl
  have masks : u.detMasks = s.detMasks := by rw [← hu]
  obtain ⟨n, e1⟩ := put L
  obtain ⟨n', e2⟩ := put (partner L)
  have taken := detectorLevels_taken (s := u) (changed := maskOf fun d =>
    (condition Config.scanSamples (s.det d).level (s.det d).run (has inputs d)).2) hL (by rw [e1]; exact hm)
    (by rw [same]; exact h)
  rw [same] at taken
  obtain ⟨k1, k2, k3, k4, k5⟩ := taken
  rw [e1] at k1 k2 k3 k4 k5
  rw [e2] at k1
  rw [masks] at k4
  exact ⟨k1, k2, k3, k4, k5⟩

/-- A row that changes the level of a detector is a scan tick or its own level change, and its pair takes it (R84). -/
theorem exec_taken {e : Instr} {s t : State} {L : Det} (hL : isLead L = true) (hm : (s.det L).mode = .pair)
    (h : s.turns e L = true ∨ s.turns e (partner L) = true) (ran : exec e s = .next t) : PairTaken (s.turns e) L s t := by
  cases e with
  | scanTick inputs pres mfs =>
    rw [exec_scanTick] at ran
    cases ran
    have taken : PairTaken (s.turns (.scanTick inputs pres mfs)) L s
        (scanDetectors inputs { s with time := s.time.scanned }) := by
      have taken := scanDetectors_taken (inputs := inputs) (pres := pres) (mfs := mfs) (s := { s with time := s.time.scanned })
        hL hm h
      exact taken.from rfl rfl
    have first := settle_after { s with time := s.time.scanned }
      (scanPreempts pres (scanDetectors inputs { s with time := s.time.scanned }))
    have inner : PairTaken (s.turns (.scanTick inputs pres mfs)) L s (scannedInputs inputs pres s) :=
      taken.settled first.dets first.detMasks first.flags
    have last := (scanSwitch_after mfs (scannedInputs inputs pres s)).trans (settle_after (scannedInputs inputs pres s) _)
    exact inner.settled last.dets last.detMasks last.flags
  | detectorLevelChange d =>
    have run : (s.det d).run = 2 := by
      simp only [State.turns, Bool.and_eq_true, beq_iff_eq] at h
      rcases h with ⟨rfl, h⟩ | ⟨rfl, h⟩ <;> exact h
    have same : has (maskOf fun j => j == d) = s.turns (.detectorLevelChange d) := by
      funext x
      rw [has_maskOf]
      change _ = (d == x && (s.det x).run == 2)
      by_cases k : x = d
      · subst k; simp [run]
      · rw [beq_eq_false_iff_ne.mpr (Ne.symm k)]
        exact beq_eq_false_iff_ne.mpr k
    have e : exec (.detectorLevelChange d) s = .next (settle s (detectorLevels (maskOf fun j => j == d) s)) := if_pos run
    rw [e] at ran
    cases ran
    rw [← same] at h ⊢
    have after := settle_after s (detectorLevels (maskOf fun j => j == d) s)
    exact (detectorLevels_taken hL hm h).settled after.dets after.detMasks after.flags
  | _ => simp [State.turns] at h

end Sys2Proof.Machine

/-! PROOFS. What the level change of one detector hands on: actuations, calls and confirm requests (R67, R72, R87, R92). -/

namespace Sys2Proof.Machine

/-! ### The level change of one detector -/

/-- The lead of a detector's pair. -/
def leadOf (d : Det) : Det := if isLead d then d else partner d

theorem leadOf_lead (d : Det) : isLead (leadOf d) = true ∧ (d = leadOf d ∨ d = partner (leadOf d)) := by
  revert d
  decide

theorem leadOf_of {L d : Det} (hL : isLead L = true) (h : d = L ∨ d = partner L) : L = leadOf d := by
  revert L d
  decide

/-- A detector's own edge and what it hands on: in a pair by the direction rule, else by itself. -/
def lone (d : Det) (s : State) : State :=
  if (s.det (leadOf d)).mode = .pair then
    pairEdges (leadOf d) (s.pairOn (leadOf d)) (decide (leadOf d = d) && ((ownEdge d s).det (leadOf d)).level)
      (decide (partner (leadOf d) = d) && ((ownEdge d s).det (partner (leadOf d))).level) (ownEdge d s)
  else singleActuation d (ownEdge d s)

theorem has_lone (d e : Det) : has (maskOf fun j => j == d) e = decide (e = d) := by
  rw [has_maskOf]
  rfl

/-- Only the detector's own pair does something (R84). -/
theorem detectorLevels_lone (d : Det) (s : State) :
    detectorLevels (maskOf fun j => j == d) s = handBegun s (lone d s) := by
  obtain ⟨hL, hd⟩ := leadOf_lead d
  have calm (M : Det) (u : State) (hM : isLead M = true) (h : M ≠ leadOf d) :
      pairLevels M (maskOf fun j => j == d) u = u := by
    have none : ¬ (d = M ∨ d = partner M) := fun k => h (leadOf_of hM k)
    rw [pairLevels_eq, has_lone, has_lone, decide_eq_false fun e => none (.inl e.symm),
      decide_eq_false fun e => none (.inr e.symm)]
    rfl
  have still (l : List Det) (h : leadOf d ∉ l) (u : State) :
      l.foldl (fun u M => if isLead M then pairLevels M (maskOf fun j => j == d) u else u) u = u := by
    induction l generalizing u with
    | nil => rfl
    | cons M l ih =>
      obtain ⟨hM, hl⟩ : leadOf d ≠ M ∧ leadOf d ∉ l := by simpa using h
      rw [List.foldl_cons]
      have e : (if isLead M then pairLevels M (maskOf fun j => j == d) u else u) = u := by
        split
        · next k => exact calm M u k hM.symm
        · rfl
      rw [e]
      exact ih hl u
  obtain ⟨l, r, e⟩ := List.append_of_mem (List.mem_finRange (leadOf d))
  have nodup : (l ++ leadOf d :: r).Nodup := e ▸ List.nodup_finRange 24
  have before : leadOf d ∉ l := fun k => (List.nodup_append.mp nodup).2.2 _ k _ (List.mem_cons_self ..) rfl
  have after : leadOf d ∉ r := (List.nodup_cons.mp (List.nodup_append.mp nodup).2.1).1
  unfold detectorLevels
  rw [e, List.foldl_append, List.foldl_cons, still l before, if_pos hL, still r after, pairLevels_eq]
  have own : bothEdges (leadOf d) (maskOf fun j => j == d) s = ownEdge d s := by
    have ne := partner_ne (leadOf d)
    unfold bothEdges
    simp only [has_lone]
    rcases hd with k | k
    · rw [← k] at ne ⊢
      simp [ne]
    · have : leadOf d ≠ d := fun e => ne (k.symm.trans e.symm)
      rw [decide_eq_false this, decide_eq_true k.symm, ← k]
      rfl
  have some : (has (maskOf fun j => j == d) (leadOf d) || has (maskOf fun j => j == d) (partner (leadOf d))) = true := by
    rw [has_lone, has_lone]
    rcases hd with k | k
    · rw [decide_eq_true k.symm]; rfl
    · rw [decide_eq_true k.symm, Bool.or_true]
  have single : singles (leadOf d) (maskOf fun j => j == d) (ownEdge d s) = singleActuation d (ownEdge d s) := by
    have ne := partner_ne (leadOf d)
    unfold singles
    simp only [has_lone]
    rcases hd with k | k
    · rw [← k] at ne ⊢
      simp [ne]
    · have : leadOf d ≠ d := fun e => ne (k.symm.trans e.symm)
      rw [decide_eq_false this, decide_eq_true k.symm, ← k]
      rfl
  rw [if_pos some, own, single, has_lone, has_lone]
  rfl

/-! ### Actuations (R67, R72, R92) -/

/-- The actuation count and the gap timer of a green record stand. -/
def Green.SameTiming (g g' : Green) : Prop := g'.actCount = g.actCount ∧ g'.gap = g.gap

theorem Green.SameTiming.trans {a b c : Green} (h : a.SameTiming b) (k : b.SameTiming c) : a.SameTiming c :=
  ⟨k.1.trans h.1, k.2.trans h.2⟩

theorem requestLatches_timing (m : ChanSet) (s : State) (c : Chan) :
    (s.green c).SameTiming ((requestLatches m s).green c) := by
  rw [requestLatches_green]
  split <;> exact ⟨rfl, rfl⟩

theorem actuate_green (m : ChanSet) (s : State) (c : Chan) :
    (actuate m s).green c = if has m c then actuated s c (s.green c) else s.green c := by
  unfold actuate
  split
  · next h =>
    have none : has (0 : ChanSet) c = false := has_zero c
    rw [beq_iff_eq.mp h, none]
    rfl
  · rw [State.green, vmap_get]
    rfl

theorem actuated_timing {s t : State} {c : Chan} {g g' : Green} (chan : t.chan c = s.chan c) (unit : t.unit = s.unit)
    (clock : g'.clock = g.clock) (same : g.SameTiming g') : (actuated s c g).SameTiming (actuated t c g') := by
  have shown : t.shown c = s.shown c := by rw [State.shown, State.shown, chan, unit]
  unfold actuated
  rw [chan, unit, shown, clock]
  split
  · split
    · split
      · exact same
      · exact ⟨same.1, rfl⟩
    · exact ⟨by rw [same.1], same.2⟩
  · exact same

/-- The channels that an on-edge actuates by itself (R86, R87). -/
def State.actuatedBy (s : State) (d : Det) : ChanSet :=
  if (s.det d).level = true ∧ (s.det d).fault = .ok ∧ ((s.det d).mode = .presence ∨ (s.det d).mode = .pulse) then
    (s.det d).extendMask
  else 0

theorem singleActuation_timing (d : Det) (s : State) (c : Chan) :
    (if has (s.actuatedBy d) c then actuated s c (s.green c) else s.green c).SameTiming
      ((singleActuation d s).green c) := by
  have idle (h : s.actuatedBy d = 0) :
      (if has (s.actuatedBy d) c then actuated s c (s.green c) else s.green c).SameTiming (s.green c) := by
    have none : has (0 : ChanSet) c = false := has_zero c
    rw [h, none]
    exact ⟨rfl, rfl⟩
  have on (m : (s.det d).mode = .presence ∨ (s.det d).mode = .pulse) (h : ((s.det d).level && !(s.det d).faulted) = true) :
      s.actuatedBy d = (s.det d).extendMask := by
    rw [State.actuatedBy, if_pos]
    simpa [Detector.faulted, m] using h
  have off (m : ¬ ((s.det d).mode = .presence ∨ (s.det d).mode = .pulse)) : s.actuatedBy d = 0 := by
    rw [State.actuatedBy, if_neg (fun k => m k.2.2)]
  unfold singleActuation
  simp only
  by_cases h : ((s.det d).level && !(s.det d).faulted) = true
  · rw [if_pos h]
    cases hm : (s.det d).mode with
    | presence =>
      simp only
      rw [on (.inl hm) h, actuate_green]
      exact ⟨rfl, rfl⟩
    | pulse =>
      simp only
      rw [on (.inr hm) h, actuate_green]
      obtain ⟨g, e⟩ := requestLatches_eq (s.det d).callMask s
      have timing := requestLatches_timing (s.det d).callMask s c
      have clock : ((requestLatches (s.det d).callMask s).green c).clock = (s.green c).clock := by
        rw [requestLatches_green]
        split <;> rfl
      split
      · exact actuated_timing (by rw [e]; rfl) (by rw [e]) clock timing
      · exact timing
    | off => exact idle (off (by simp [hm]))
    | pair => exact idle (off (by simp [hm]))
  · rw [if_neg h]
    refine idle ?_
    rw [State.actuatedBy, if_neg]
    intro k
    simp [k.1, Detector.faulted, k.2.1] at h

/-- The channels that a pair's move actuates: its FORWARD (R88). -/
def State.pairActuated (s : State) (L : Det) (next : Direction) : ChanSet :=
  if (s.det L).direction = .leadOn ∧ next = .forward ∧ s.detFaulted L = false then (s.det L).extendMask else 0

theorem pairEdges_timing (L : Det) (was a b : Bool) (s : State) (c : Chan) :
    let m := s.pairActuated L (directionMove (s.det L).direction a b (!s.pairOn L))
    (pairEdges L was a b s).green c = (if has m c then actuated s c (s.green c) else s.green c) ∧
      (pairEdges L was a b s).tones = s.tones := by
  unfold pairEdges
  simp only
  rw [show ((s.det L).level || (s.det (partner L)).level) = s.pairOn L from rfl]
  generalize directionMove (s.det L).direction a b (!s.pairOn L) = next
  generalize (if (s.pairOn L && was) = true then (s.det L).delayTimer else 0) = n
  have idle (h : ¬ ((s.det L).direction = .leadOn ∧ next = .forward)) (t : State) (e : t.greens = s.greens) :
      t.green c = (if has (s.pairActuated L next) c then actuated s c (s.green c) else s.green c) := by
    have none : has (0 : ChanSet) c = false := has_zero c
    have zero : s.pairActuated L next = 0 := if_neg fun k => h ⟨k.1, k.2.1⟩
    rw [zero, none, State.green, e]
    rfl
  have faulted : (s.setDet L { s.det L with direction := next, delayTimer := n }).detFaulted L = s.detFaulted L := by
    rw [State.detFaulted, State.detFaulted, setDet_det, setDet_det_other _ _ (partner_ne L)]
    rfl
  split
  · next h =>
    rw [faulted]
    split
    · next k =>
      have none : has (0 : ChanSet) c = false := has_zero c
      have zero : s.pairActuated L .forward = 0 := if_neg fun x => by simp [k] at x
      refine ⟨?_, rfl⟩
      rw [zero, none]
      rfl
    · next k =>
      have ext := actuate_greens (s.det L).extendMask (s.setDet L { s.det L with direction := .forward, delayTimer := n })
      refine ⟨?_, by rw [ext]; rfl⟩
      have hands : s.pairActuated L .forward = (s.det L).extendMask := if_pos ⟨h, rfl, by simpa using k⟩
      rw [hands, actuate_green]
      rfl
  · next h => exact ⟨idle (by simp [h]) _ rfl, rfl⟩
  · next h =>
    refine ⟨idle (by simp [h]) _ ?_, ?_⟩ <;>
    · unfold countReverse
      simp only
      split <;> rfl
  · next h _ _ => exact ⟨idle (fun k => h k.1 k.2) _ rfl, rfl⟩

end Sys2Proof.Machine

/-! PROOFS. What is left of one detector's level change when the moment is settled (O30). -/

namespace Sys2Proof.Machine

/-- The channels that the level change of one detector actuates (R86 to R88, R92). -/
def State.loneActuated (s : State) (d : Det) : ChanSet :=
  let r := (s.det d).edge
  if (s.det (leadOf d)).mode = .pair then
    if (s.det (leadOf d)).direction = .leadOn ∧ d = partner (leadOf d) ∧ (s.det d).level = false ∧
      (s.det (leadOf d)).fault = .ok ∧ r.fault = .ok then (s.det (leadOf d)).extendMask else 0
  else if ((s.det d).mode = .presence ∨ (s.det d).mode = .pulse) ∧ (s.det d).level = false ∧ r.fault = .ok then
    (s.det d).extendMask
  else 0

theorem edge_masks (r : Detector) : r.edge.extendMask = r.extendMask ∧ r.edge.callMask = r.callMask := by
  unfold Detector.edge
  split
  · exact ⟨rfl, rfl⟩
  · split <;> exact ⟨rfl, rfl⟩

theorem lone_actuated (d : Det) (s : State) (hp : (s.det (leadOf d)).mode ≠ .pair) :
    (ownEdge d s).actuatedBy d = s.loneActuated d := by
  obtain ⟨level, -, -, -, -, -, mode⟩ := edge_keeps (s.det d)
  rw [State.actuatedBy, ownEdge_det, if_pos rfl, State.loneActuated]
  rw [if_neg hp, level, mode, (edge_masks _).1]
  congr 1
  simp only [Bool.not_eq_true', eq_iff_iff]
  tauto

theorem lone_pairActuated (d : Det) (s : State) (hp : (s.det (leadOf d)).mode = .pair) :
    (ownEdge d s).pairActuated (leadOf d) (directionMove ((ownEdge d s).det (leadOf d)).direction
      (decide (leadOf d = d) && ((ownEdge d s).det (leadOf d)).level)
      (decide (partner (leadOf d) = d) && ((ownEdge d s).det (partner (leadOf d))).level)
      (!(ownEdge d s).pairOn (leadOf d))) = s.loneActuated d := by
  obtain ⟨level, -, direction, -, -, -, mode⟩ := edge_keeps (s.det d)
  have ne := partner_ne (leadOf d)
  obtain ⟨-, hd⟩ := leadOf_lead d
  have own (e : Det) := ownEdge_det d e s
  rw [State.loneActuated]
  rw [if_pos hp]
  rcases hd with h | h
  · have apart : ¬ (partner (leadOf d) = d) := fun e => ne (e.trans h)
    rw [if_neg (fun k => apart k.2.1.symm), State.pairActuated, if_neg]
    rintro ⟨lead, next, -⟩
    rw [lead, decide_eq_false apart, Bool.false_and] at next
    simp only [directionMove, Bool.false_eq_true, if_false] at next
    split at next <;> cases next
  · have apart : leadOf d ≠ d := fun e => ne (h.symm.trans e.symm)
    have lead : (ownEdge d s).det (leadOf d) = s.det (leadOf d) := by rw [own, if_neg apart]
    have lag : (ownEdge d s).det (partner (leadOf d)) = (s.det d).edge := by rw [own, if_pos h.symm]
    have faulted : (ownEdge d s).detFaulted (leadOf d) = false ↔
        (s.det (leadOf d)).fault = .ok ∧ (s.det d).edge.fault = .ok := by
      rw [State.detFaulted, lead, lag, hp]
      simp [Detector.faulted]
    rw [State.pairActuated, lead, lag]
    simp only [faulted]
    rw [level, decide_eq_true h.symm, Bool.true_and]
    congr 1
    rw [eq_iff_iff]
    constructor
    · rintro ⟨k1, k2, k3⟩
      rw [k1] at k2
      refine ⟨k1, h, ?_, k3⟩
      by_contra on
      rw [Bool.eq_true_of_not_eq_false on] at k2
      simp only [directionMove, Bool.not_true, Bool.false_eq_true, if_false] at k2
      split at k2 <;> cases k2
    · rintro ⟨k1, -, k2, k3⟩
      refine ⟨k1, ?_, k3⟩
      rw [k1, k2]
      rfl

/-- What one detector's level change leaves: the actuated greens, the confirm request's lines, the records, the marks and the
flags. -/
structure LoneLeaves (d : Det) (s t : State) : Prop where
  frame : ∃ x m g v f, t = { s with dets := x, detMasks := m, greens := g, tones := v, link := { s.link with flags := f } }
  timing : ∀ c, (if has (s.loneActuated d) c then actuated s c (s.green c) else s.green c).SameTiming (t.green c)
  tones : t.tones = if (s.det d).level then s.tones else (confirmRequest d s).tones
  det : (s.det d).mode ≠ .pair → t.det d = (s.det d).edge
  marked : (s.det d).edge.fault ≠ (s.det d).fault →
    has t.detMasks.changed d = true ∧ has t.link.flags Report.detector.index = true

theorem lone_leaves (d : Det) (s : State) : LoneLeaves d s (lone d s) := by
  obtain ⟨-, hd⟩ := leadOf_lead d
  have own := ownEdge_det d d s
  rw [if_pos rfl] at own
  obtain ⟨-, greens, tones, marked⟩ := ownEdge_leaves d s
  rw [own] at marked
  have step := ownEdge_step d s
  obtain ⟨x, m, g, v, f, frame⟩ := step.frame
  have chan (c : Chan) : (ownEdge d s).chan c = s.chan c := by rw [frame]; rfl
  have unit : (ownEdge d s).unit = s.unit := by rw [frame]
  have green (c : Chan) : (ownEdge d s).green c = s.green c := by rw [State.green, greens]; rfl
  have act (c : Chan) : actuated (ownEdge d s) c (s.green c) = actuated s c (s.green c) := by
    rw [frame]
    rfl
  by_cases hp : (s.det (leadOf d)).mode = .pair
  · have e : lone d s = _ := if_pos hp
    have acted := lone_pairActuated d s hp
    have moved := pairEdges_step (leadOf d) (s.pairOn (leadOf d))
      (decide (leadOf d = d) && ((ownEdge d s).det (leadOf d)).level)
      (decide (partner (leadOf d) = d) && ((ownEdge d s).det (partner (leadOf d))).level) (ownEdge d s)
    have timing := pairEdges_timing (leadOf d) (s.pairOn (leadOf d))
      (decide (leadOf d = d) && ((ownEdge d s).det (leadOf d)).level)
      (decide (partner (leadOf d) = d) && ((ownEdge d s).det (partner (leadOf d))).level) (ownEdge d s)
    obtain ⟨det, changed, -, flags, -⟩ := pairEdges_move (leadOf d) (s.pairOn (leadOf d))
      (decide (leadOf d = d) && ((ownEdge d s).det (leadOf d)).level)
      (decide (partner (leadOf d) = d) && ((ownEdge d s).det (partner (leadOf d))).level) (ownEdge d s)
    rw [← e] at moved timing det changed flags
    simp only [acted] at timing
    refine ⟨(step.trans moved).frame, fun c => ?_, ((timing 0).2).trans tones, fun hm => ?_, fun h => ?_⟩
    · rw [(timing c).1, green, act]
      exact ⟨rfl, rfl⟩
    · have apart : d ≠ leadOf d := fun k => hm (by rw [k]; exact hp)
      rw [det, if_neg apart, own]
    · obtain ⟨k1, k2⟩ := marked h
      exact ⟨by rw [changed]; exact k1, flags _ k2⟩
  · have e : lone d s = singleActuation d (ownEdge d s) := if_neg hp
    have acted := lone_actuated d s hp
    have only := singleActuation_greens d (ownEdge d s)
    obtain ⟨dets, masks, link⟩ := greensOnly_marks only
    have lines : (singleActuation d (ownEdge d s)).tones = (ownEdge d s).tones := by rw [only]
    have timing := fun c => singleActuation_timing d (ownEdge d s) c
    have moved := singleActuation_step d (ownEdge d s)
    rw [acted] at timing
    rw [← e] at dets masks link lines timing moved
    refine ⟨(step.trans moved).frame, fun c => ?_, lines.trans tones, fun _ => ?_, fun h => ?_⟩
    · have k := timing c
      rw [green, act] at k
      exact k
    · rw [State.det, dets]
      exact own
    · rw [masks, link]
      exact marked h

end Sys2Proof.Machine

/-! PROOFS. One detector's level change and its pair's (O30). -/

namespace Sys2Proof.Machine

/-! ### Through the settling: green timers and tone lines of channels whose indications stand -/

/-- The order in which the judgments of a moment move an indication. -/
def Indication.rank : Indication → Nat
  | .red | .redClear => 0
  | .green => 1
  | .amber | .pedClear => 2
  | .flash | .dark => 3

theorem rank_le (i : Indication) : i.rank ≤ 3 := by cases i <;> decide

/-- An order keeps the indication and with it the green's timing, or it moves the indication on. -/
theorem Item.timing {q : Bool} {r r' : Channel} {g g' : Green} (h : Item q r g r' g') :
    r.ind.rank ≤ r'.ind.rank ∧ (r'.ind.rank = r.ind.rank → g.SameTiming g') := by
  cases h with
  | same => exact ⟨le_refl _, fun _ => ⟨rfl, rfl⟩⟩
  | clock => exact ⟨le_refl _, fun _ => ⟨rfl, rfl⟩⟩
  | initial => exact ⟨le_refl _, fun _ => ⟨rfl, rfl⟩⟩
  | amber a v hk hi => rw [hi]; exact ⟨Nat.le_succ _, nofun⟩
  | pedClear v hk hi hq => rw [hi]; exact ⟨Nat.le_succ _, nofun⟩
  | green a n v hi => rw [hi]; exact ⟨Nat.le_succ _, nofun⟩
  | clearance => exact ⟨le_refl _, fun _ => ⟨rfl, rfl⟩⟩
  | flash i a h hi =>
    have top : (r.force i).ind.rank = 3 := by rcases hi with rfl | rfl <;> rfl
    exact ⟨by rw [top]; exact rank_le _, fun _ => ⟨rfl, rfl⟩⟩

/-- The timing of a green whose channel shows at the end what it showed at the start stands (R67, R72). -/
theorem settle_timing (old new : State) (c : Chan) (h : ((settle old new).chan c).ind = (new.chan c).ind) :
    (new.green c).SameTiming ((settle old new).green c) := by
  have chain : Orders false new (settle old new) := settle_orders nofun
  have all := orders_keep chain (fun r g => (new.chan c).ind.rank ≤ r.ind.rank ∧
    (r.ind.rank = (new.chan c).ind.rank → (new.green c).SameTiming g)) c (fun r g r' g' ⟨k1, k2⟩ step => by
      obtain ⟨up, same⟩ := step.timing
      refine ⟨k1.trans up, fun e => ?_⟩
      have mid : r.ind.rank = (new.chan c).ind.rank := by omega
      exact (k2 mid).trans (same (by omega))) ⟨le_refl _, fun _ => ⟨rfl, rfl⟩⟩
  exact all.2 (by rw [h])

/-- An order that does not change the unit mode leaves a channel and the lines bound to it, or moves the channel's indication
on (R11). -/
theorem Order.lines {q : Bool} {s t : State} (h : Order q s t) (c : Chan) (hm : t.unit.mode = s.unit.mode) :
    (s.chan c).ind.rank < (t.chan c).ind.rank ∨ ((t.chan c).ind = (s.chan c).ind ∧
      ∀ i, (s.line i).channel = some c → t.line i = s.line i) := by
  have stands {u : State} (chan : u.chan c = s.chan c) (tones : u.tones = s.tones) :
      (s.chan c).ind.rank < (u.chan c).ind.rank ∨ ((u.chan c).ind = (s.chan c).ind ∧
        ∀ i, (s.line i).channel = some c → u.line i = s.line i) :=
    .inr ⟨by rw [chan], fun i _ => by rw [State.line, tones]; rfl⟩
  have apart {d : Chan} {u : State} (k : Touches (· = d) s u) (e : c ≠ d) :
      (s.chan c).ind.rank < (u.chan c).ind.rank ∨ ((u.chan c).ind = (s.chan c).ind ∧
        ∀ i, (s.line i).channel = some c → u.line i = s.line i) :=
    .inr ⟨by rw [k.chan c e], fun i hi => k.line i fun x hx => by rw [hi] at hx; cases hx; exact e⟩
  cases h with
  | clocks => exact stands rfl rfl
  | plan => exact stands rfl rfl
  | flags => exact stands rfl rfl
  | ends d hk =>
    by_cases e : c = d
    · subst e
      by_cases none : (s.chan c).ind ≠ .green ∨ (s.chan c).kind = .unused
      · rw [terminateChannel_none none]; exact stands rfl rfl
      · obtain ⟨hi, hu⟩ := not_or.mp none
        refine .inl ?_
        rw [not_not.mp hi]
        cases kind : (s.chan c).kind with
        | unused => exact absurd kind hu
        | vehicle =>
          rw [terminateChannel_vehicle (not_not.mp hi) kind, enter_chan, if_pos rfl]
          exact Nat.lt_succ_self 1
        | pedestrian =>
          rw [terminateChannel_pedestrian (not_not.mp hi) kind, enterPedClear, enter_chan, if_pos rfl]
          exact Nat.lt_succ_self 1
    · exact apart (terminateChannel_touches d s) e
  | starts d =>
    by_cases e : c = d
    · subst e
      by_cases none : (s.chan c).ind ≠ .red ∨ (s.chan c).kind = .unused
      · have same : startChannel c s = s := by
          unfold startChannel
          rcases none with k | k
          · simp only [k, if_false]
          · simp only [k]; split <;> rfl
        rw [same]; exact stands rfl rfl
      · obtain ⟨hi, hu⟩ := not_or.mp none
        refine .inl ?_
        have shown : ((startChannel c s).chan c).ind = .green := by
          cases kind : (s.chan c).kind with
          | unused => exact absurd kind hu
          | vehicle => exact (startChannel_vehicle (not_not.mp hi) kind).1
          | pedestrian => exact (startChannel_pedestrian (not_not.mp hi) kind).1
        rw [not_not.mp hi, shown]
        exact Nat.lt_succ_self 0
    · exact apart (startChannel_touches d s) e
  | cutGreens => exact stands rfl rfl
  | cut n d hq =>
    by_cases e : c = d
    · subst e
      refine .inr ?_
      unfold cutClearance
      simp only
      split
      · exact ⟨by rw [loadTimer, setChan_chan], fun _ _ => rfl⟩
      · exact ⟨rfl, fun _ _ => rfl⟩
    · exact apart (cutClearance_touches n d s) e
  | flashes hc =>
    simp [enterLocalFlash, hc] at hm

/-- An order keeps the unit mode or is the entry into LOCAL_FLASH of CLEARING_TO_FLASH (R143). -/
theorem Order.mode {q : Bool} {s t : State} (h : Order q s t) :
    t.unit.mode = s.unit.mode ∨ (s.unit.mode = .clearingToFlash ∧ t.unit.mode = .localFlash) := by
  cases h with
  | clocks => exact .inl rfl
  | plan => exact .inl rfl
  | flags => exact .inl rfl
  | ends d hk => exact .inl (by rw [(terminateChannel_touches d s).calm.1])
  | starts d => exact .inl (by rw [(startChannel_touches d s).calm.1])
  | cutGreens => exact .inl rfl
  | cut n d hq => exact .inl (by rw [(cutClearance_touches n d s).calm.1])
  | flashes hc => exact .inr ⟨hc, by simp [enterLocalFlash]⟩

/-- A line bound to a channel stands through the judgments of a moment that leave the unit mode and, at the end, the channel's
indication (R11, R166). -/
theorem Orders.line {q : Bool} {s t : State} (h : Orders q s t) {c : Chan} {i : Line} (hi : (s.line i).channel = some c)
    (hm : t.unit.mode = s.unit.mode) (hc : (t.chan c).ind = (s.chan c).ind) : t.line i = s.line i := by
  have all : (t.unit.mode = s.unit.mode ∨ (s.unit.mode = .clearingToFlash ∧ t.unit.mode = .localFlash)) ∧
      (t.unit.mode = s.unit.mode → (s.chan c).ind.rank < (t.chan c).ind.rank ∨
        ((t.chan c).ind = (s.chan c).ind ∧ t.line i = s.line i)) := by
    clear hm hc
    induction h with
    | refl => exact ⟨.inl rfl, fun _ => .inr ⟨rfl, rfl⟩⟩
    | @tail u v _ k ih =>
      obtain ⟨mode, moved⟩ := ih
      have next := k.mode
      refine ⟨?_, fun e => ?_⟩
      · rcases mode with m | ⟨m, n⟩
        · rw [← m]; exact next
        · exact next.elim (fun x => .inr ⟨m, x.trans n⟩) (fun x => by rw [n] at x; cases x.1)
      · have mid : u.unit.mode = s.unit.mode := by
          rcases mode with m | ⟨m, n⟩
          · exact m
          · rcases next with x | ⟨x, -⟩
            · exact x.symm.trans e
            · rw [n] at x; cases x
        have step := k.lines c (e.trans mid.symm)
        rcases moved mid with m | ⟨m, line⟩
        · refine .inl (lt_of_lt_of_le m ?_)
          rcases step with x | ⟨x, -⟩
          · exact Nat.le_of_lt x
          · rw [x]
        · rw [m] at step
          rcases step with x | ⟨x, y⟩
          · exact .inl x
          · exact .inr ⟨x, (y i (by rw [line]; exact hi)).trans line⟩
  rcases all.2 hm with k | ⟨-, k⟩
  · rw [hc] at k; exact absurd k (lt_irrefl _)
  · exact k

/-! ### O30 -/

/-- A latch that is set stays set while calls are handed (R62). -/
theorem requestLatches_latch {m : ChanSet} {s : State} {c : Chan} (h : (s.green c).latch = true) :
    ((requestLatches m s).green c).latch = true := by
  rw [requestLatches_green]
  split
  · rfl
  · exact h

/-- The on-edge of a PULSE detector hands its locking calls (R87). -/
theorem pulse_calls {d : Det} {s : State} (hm : (s.det d).mode = .pulse) (hp : (s.det (partner d)).mode ≠ .pair)
    (hl : (s.det d).level = false) (hf : (s.det d).edge.fault = .ok) {c : Chan} (hc : has (s.det d).callMask c = true)
    (hu : (s.chan c).used = true) (hs : s.shown c ≠ .green) : ((lone d s).green c).latch = true := by
  have single : (s.det (leadOf d)).mode ≠ .pair := by
    rcases (leadOf_lead d).2 with k | k
    · rw [← k, hm]; exact nofun
    · have e : leadOf d = partner d := by rw [k, partner_partner, ← k]
      rw [e]; exact hp
  obtain ⟨level, -, -, -, -, -, mode⟩ := edge_keeps (s.det d)
  have own := ownEdge_det d d s
  rw [if_pos rfl] at own
  obtain ⟨x, m, g, v, f, frame⟩ := (ownEdge_step d s).frame
  have e : lone d s = singleActuation d (ownEdge d s) := if_neg single
  rw [e]
  unfold singleActuation
  simp only
  rw [own, level, hl, Detector.faulted, hf, mode, hm, (edge_masks _).2]
  refine (actuate_latch _ _ _).trans (requestLatches_sets hc ?_ ?_)
  · rw [frame]; exact hu
  · rw [frame]; exact hs

theorem confirmRequest_line (d : Det) (s : State) (i : Line) : (confirmRequest d s).line i =
    if (s.line i).button = some d ∧ s.lineActive i = true then
      ((s.line i).confirm (s.lineShows i)).arbitrate s.lamps.dimOn else s.line i := vmap_get _ _ _

theorem confirm_channel (i : Indication) (l : ToneLine) : (l.confirm i).channel = l.channel := by
  unfold ToneLine.confirm
  split <;> rfl

theorem confirmRequest_channel (d : Det) (s : State) (i : Line) :
    ((confirmRequest d s).line i).channel = (s.line i).channel := by
  rw [confirmRequest_line]
  split
  · rw [arbitrate_channel, confirm_channel]
  · rfl

/-- What a confirm request does to a line bound to a channel (R169). -/
theorem confirmRequest_asks {d : Det} {s : State} {i : Line} {c : Chan} (hi : (s.line i).channel = some c) :
    let asks := (s.line i).button = some d ∧ s.lineActive i = true ∧ (s.chan c).ind ≠ .green ∧ (s.line i).confirmTimer = 0
    (asks → ((confirmRequest d s).line i).confirmTimer = 250 ∧ ((confirmRequest d s).line i).tickOpen = false ∧
      ((confirmRequest d s).line i).sounding = if (s.line i).walkCycle.any (fun n => n < 30) then .walk else .confirm) ∧
    (¬ asks → ((confirmRequest d s).line i).confirmTimer = (s.line i).confirmTimer ∧
      ((confirmRequest d s).line i).tickOpen = (s.line i).tickOpen) := by
  have shows : s.lineShows i = (s.chan c).ind := by rw [State.lineShows, hi]
  have kept (l : ToneLine) : (l.arbitrate s.lamps.dimOn).confirmTimer = l.confirmTimer ∧
      (l.arbitrate s.lamps.dimOn).tickOpen = l.tickOpen ∧ (l.arbitrate s.lamps.dimOn).sounding = l.due := by
    obtain ⟨v, a, e⟩ := arbitrate_eq s.lamps.dimOn l
    rw [e]
    exact ⟨rfl, rfl, rfl⟩
  rw [confirmRequest_line, shows]
  refine ⟨fun ⟨h1, h2, h3, h4⟩ => ?_, fun h => ?_⟩
  · obtain ⟨k1, k2, k3⟩ := kept ((s.line i).confirm (s.chan c).ind)
    have e : (s.line i).confirm (s.chan c).ind = { s.line i with confirmTimer := Config.confirmTime, tickOpen := false } :=
      if_neg (by simp [h3, h4])
    rw [if_pos ⟨h1, h2⟩, k1, k2, k3, e]
    refine ⟨rfl, rfl, ?_⟩
    unfold ToneLine.due
    cases hw : (s.line i).walkCycle with
    | none => rfl
    | some n => rfl
  · split
    · next k =>
      obtain ⟨k1, k2, -⟩ := kept ((s.line i).confirm (s.chan c).ind)
      have e : (s.line i).confirm (s.chan c).ind = s.line i := by
        refine if_pos ?_
        by_cases g : (s.chan c).ind = .green
        · exact .inl g
        · exact .inr (Nat.pos_of_ne_zero fun z => h ⟨k.1, k.2, g, z⟩)
      rw [k1, k2, e]
      exact ⟨rfl, rfl⟩
    · exact ⟨rfl, rfl⟩

/-- What is left of one detector's level change when the moment is settled. -/
structure LoneSettled (d : Det) (s t : State) : Prop where
  own : (s.det d).edge.SameOwn (t.det d)
  others : ∀ e, e ≠ d → (s.det e).SameOwn (t.det e)
  det : (s.det d).mode ≠ .pair → t.det d = (s.det d).edge
  marked : (s.det d).edge.fault ≠ (s.det d).fault →
    has t.detMasks.changed d = true ∧ has t.link.flags Report.detector.index = true
  timing : ∀ c, (t.chan c).ind = (s.chan c).ind →
    (if has (s.loneActuated d) c then actuated s c (s.green c) else s.green c).SameTiming (t.green c)
  line : ∀ i c, (s.line i).channel = some c → (t.chan c).ind = (s.chan c).ind → t.unit.mode = s.unit.mode →
    t.line i = if (s.det d).level then s.line i else (confirmRequest d s).line i

theorem lone_settled (d : Det) (s : State) : LoneSettled d s (settle s (handBegun s (lone d s))) := by
  have own (e : Det) := detectorLevels_own (maskOf fun j => j == d) s e
  rw [detectorLevels_lone] at own
  obtain ⟨⟨x, m, g, v, f, frame⟩, timing, tones, det, marked⟩ := lone_leaves d s
  have only := requestLatches_greens (detUnion fun e => if ((lone d s).det e).locking then
    (lone d s).callConds e &&& ~~~ s.callConds e else 0) (lone d s)
  obtain ⟨dets, masks, link⟩ := greensOnly_marks only
  have latched (c : Chan) := requestLatches_timing (detUnion fun e => if ((lone d s).det e).locking then
    (lone d s).callConds e &&& ~~~ s.callConds e else 0) (lone d s) c
  have other : (handBegun s (lone d s)).chans = s.chans ∧ (handBegun s (lone d s)).unit = s.unit ∧
      (handBegun s (lone d s)).tones = (lone d s).tones := by
    rw [handBegun, only]
    refine ⟨?_, ?_, rfl⟩ <;> rw [frame]
  rw [← handBegun] at dets masks link latched
  obtain ⟨chans, unit, lines⟩ := other
  have after := settle_after s (handBegun s (lone d s))
  have kept (c : Chan) := settle_timing s (handBegun s (lone d s)) c
  have chain : Orders false (handBegun s (lone d s)) (settle s (handBegun s (lone d s))) := settle_orders nofun
  have same (e : Det) : (settle s (handBegun s (lone d s))).det e = (handBegun s (lone d s)).det e := by
    rw [State.det, after.dets]; rfl
  have chan (c : Chan) : (handBegun s (lone d s)).chan c = s.chan c := by rw [State.chan, chans]; rfl
  refine ⟨?_, fun e h => ?_, fun h => ?_, fun h => ?_, fun c h => ?_, fun i c hi hc hm => ?_⟩
  · have k := own d
    rw [has_lone, decide_eq_true rfl, if_pos rfl] at k
    rw [same]; exact k
  · have k := own e
    rw [has_lone, decide_eq_false h] at k
    rw [same]; exact k
  · rw [same, State.det, dets]; exact det h
  · obtain ⟨k1, k2⟩ := marked h
    rw [after.detMasks, masks]
    exact ⟨k1, after.flags _ (by rw [link]; exact k2)⟩
  · exact ((timing c).trans (latched c)).trans (kept c (by rw [chan]; exact h))
  · have bound : ((handBegun s (lone d s)).line i).channel = some c := by
      rw [State.line, lines, tones]
      split
      · exact hi
      · exact (confirmRequest_channel d s i).trans hi
    rw [chain.line bound (by rw [hm, unit]) (by rw [hc, chan]), State.line, lines, tones]
    split <;> rfl

theorem onEdge_fault (r : Detector) : r.turned.onEdge.fault =
    if (r.fault = .ok ∨ r.fault = .noActivity) ∧ r.chatterLimit ≤ r.turned.onEdge.window then .chatter
    else if r.fault = .noActivity then .ok else r.fault := by
  have window : r.turned.onEdge.window = min 255 (r.window + 1) := rfl
  rw [window]
  change (if r.chatterLimit ≤ min 255 (r.window + 1) ∧ (if r.fault = .noActivity then DetectorFault.ok else r.fault) = .ok then
    DetectorFault.chatter else if r.fault = .noActivity then .ok else r.fault) = _
  generalize min 255 (r.window + 1) = n
  by_cases h : r.fault = .noActivity
  · simp [h]
  · simp [h, and_comm]

theorem edge_delay {r : Detector} (h : r.mode = .presence) : r.edge.delayTimer = 0 := by
  have turned : r.turned.delayTimer = 0 := if_pos h
  unfold Detector.edge
  rw [if_neg (by rw [h]; exact nofun)]
  split <;> exact turned

theorem loneActuated_iff (d : Det) (s : State) (c : Chan) : has (s.loneActuated d) c = true ↔
    ((s.det (leadOf d)).mode = .pair ∧ (s.det (leadOf d)).direction = .leadOn ∧ d = partner (leadOf d) ∧
      (s.det d).level = false ∧ (s.det (leadOf d)).fault = .ok ∧ (s.det d).edge.fault = .ok ∧
      has (s.det (leadOf d)).extendMask c = true) ∨
    ((s.det (leadOf d)).mode ≠ .pair ∧ ((s.det d).mode = .presence ∨ (s.det d).mode = .pulse) ∧ (s.det d).level = false ∧
      (s.det d).edge.fault = .ok ∧ has (s.det d).extendMask c = true) := by
  have none : has (0 : ChanSet) c = false := has_zero c
  unfold State.loneActuated
  simp only
  by_cases h : (s.det (leadOf d)).mode = .pair
  · rw [if_pos h]
    split
    · tauto
    · next k => rw [none]; simp only [Bool.false_eq_true]; tauto
  · rw [if_neg h]
    split
    · tauto
    · next k => rw [none]; simp only [Bool.false_eq_true]; tauto

/-- The count and the gap of a green record after an actuation (R67, R72). -/
theorem actuated_fields (s : State) (c : Chan) (b : Bool) (g : Green) :
    (if b then actuated s c g else g).actCount =
      (if ((s.chan c).kind = .vehicle ∧ b = true) ∧ s.shown c ≠ .green then min 255 (g.actCount + 1) else g.actCount) ∧
    (if b then actuated s c g else g).gap =
      (if ((s.chan c).kind = .vehicle ∧ b = true) ∧ s.shown c = .green ∧ s.unit.mode ≠ .powerOut then
        allowedGap (s.chan c).activeSet g.clock else g.gap) := by
  cases b
  · simp
  · unfold actuated
    by_cases hk : (s.chan c).kind = .vehicle
    · by_cases hs : s.shown c = .green
      · by_cases hm : s.unit.mode = .powerOut <;> simp [hk, hs, hm]
      · simp [hk, hs]
    · simp [hk]

/-- Settles O30. -/
theorem detectorLevelChange : Obligations.DetectorLevelChange := by
  unfold Obligations.DetectorLevelChange
  refine ⟨fun d s run => ?_, fun e s t lead hL hm h ran => ?_⟩
  · have ran : exec (.detectorLevelChange d) s = .next (settle s (handBegun s (lone d s))) := by
      rw [← detectorLevels_lone]
      exact if_pos run
    refine ⟨_, ran, ?_⟩
    obtain ⟨own, others, det, marked, timing, line⟩ := lone_settled d s
    have called : (s.det d).mode = .pulse → (s.det (partner d)).mode ≠ .pair → (s.det d).level = false →
        (s.det d).edge.fault = .ok → s.unit.mode ≠ .controlled →
        ∀ c, has (s.det d).callMask c = true → (s.chan c).used = true → s.shown c ≠ .green →
          ((settle s (handBegun s (lone d s))).green c).latch = true := fun k1 k2 k3 k4 k5 c h1 h2 h3 => by
      obtain ⟨⟨x, m, g, v, f, frame⟩, -⟩ := lone_leaves d s
      have latch := pulse_calls k1 k2 k3 k4 h1 h2 h3
      have only := requestLatches_greens (detUnion fun e => if ((lone d s).det e).locking then
        (lone d s).callConds e &&& ~~~ s.callConds e else 0) (lone d s)
      have kept : ((handBegun s (lone d s)).green c).latch = true := requestLatches_latch latch
      rw [← handBegun] at only
      have unit : (handBegun s (lone d s)).unit = s.unit := by rw [only, frame]
      have chan : (handBegun s (lone d s)).chan c = s.chan c := by rw [only, frame]; rfl
      refine settle_latch (by rw [unit]; exact k5) kept fun m => ?_
      rw [chan]
      rw [unit] at m
      rw [State.shown, if_neg (by rw [m]; exact nofun)] at h3
      exact h3
    generalize settle s (handBegun s (lone d s)) = t at *
    obtain ⟨level, runs, volume, fault, presence, absence, window⟩ := own
    obtain ⟨turned, zero, -⟩ := edge_keeps (s.det d)
    refine ⟨level.trans turned, runs.trans zero, fun e h => ?_, fun h => ?_, fun h1 h2 => ?_, fun h1 h2 => ?_, fun h => ?_,
      fun h => marked (by rw [← fault]; exact h), fun k1 k2 k3 k4 k5 => called k1 k2 k3 (fault.symm.trans k4) k5, ?_,
      fun i c hi hc hm => ?_⟩
    · obtain ⟨k1, k2, k3, k4, k5, k6, -⟩ := others e h
      exact ⟨k1, k2, k3, k4, k5, k6⟩
    · rw [det (by rw [h]; exact nofun), Detector.edge, if_pos h, Detector.turned, if_neg (by rw [h]; exact nofun)]
    · rw [window, fault, volume, presence, absence, Detector.edge, if_neg h1, h2]
      simp only [Bool.false_eq_true, if_false]
      exact ⟨rfl, rfl, rfl, rfl, onEdge_fault _⟩
    · rw [window, fault, volume, presence, absence, Detector.edge, if_neg h1, if_pos h2]
      exact ⟨rfl, rfl, rfl, rfl, rfl⟩
    · rw [det (by rw [h]; exact nofun)]
      exact edge_delay h
    · intro lead single forward c hc hands
      have acts : has (s.loneActuated d) c = true ↔
          (single ∧ has (s.det d).extendMask c = true) ∨ (forward ∧ has (s.det lead).extendMask c = true) := by
        have first : (d ≠ lead) → (t.det lead).fault = (s.det lead).fault := fun k => (others lead (Ne.symm k)).fault
        have apart : d = partner lead → d ≠ lead := fun k e => partner_ne lead (k.symm.trans e)
        rw [loneActuated_iff]
        simp only [single, forward, fault]
        change _ ↔ (((s.det lead).mode ≠ _ ∧ _) ∧ _) ∨ _
        constructor
        · rintro (⟨k1, k2, k3, k4, k5, k6, k7⟩ | ⟨k1, k2, k3, k4, k5⟩)
          · exact .inr ⟨⟨k1, k2, k3, k4, (first (apart k3)).trans k5, k6⟩, k7⟩
          · exact .inl ⟨⟨k1, k2, k3, k4⟩, k5⟩
        · rintro (⟨⟨k1, k2, k3, k4⟩, k5⟩ | ⟨⟨k1, k2, k3, k4, k5, k6⟩, k7⟩)
          · exact .inr ⟨k1, k2, k3, k4, k5⟩
          · exact .inl ⟨k1, k2, k3, k4, (first (apart k3)).symm.trans k5, k6, k7⟩
      obtain ⟨count, gap⟩ := timing c hc
      have both : hands ↔ ((s.chan c).kind = .vehicle ∧ has (s.loneActuated d) c = true) := by rw [acts]
      rw [count, gap]
      simp only [both]
      exact actuated_fields _ _ _ _
    · have k := line i c hi hc hm
      obtain ⟨k1, k2⟩ := confirmRequest_asks (d := d) (s := s) hi
      refine ⟨fun ⟨a1, a2, a3, a4, a5⟩ => ?_, fun h => ?_⟩
      · rw [k, a2]
        exact k1 ⟨a1, a3, a4, a5⟩
      · cases hl : (s.det d).level
        · rw [k, hl]
          exact k2 fun ⟨a1, a3, a4, a5⟩ => h ⟨a1, hl, a3, a4, a5⟩
        · rw [k, hl]
          exact ⟨rfl, rfl⟩
  · obtain ⟨direction, forward, reverse, wrongWay, alarm⟩ := exec_taken hL hm h ran
    intro on leadOn lagOn off bothOff old new
    have on1 : (s.turns e lead && !(s.det lead).level) = true ↔ leadOn := by simp [leadOn, on]
    have on2 : (s.turns e (partner lead) && !(s.det (partner lead)).level) = true ↔ lagOn := by simp [lagOn, on]
    have off1 : (((s.det lead).level == s.turns e lead) && ((s.det (partner lead)).level == s.turns e (partner lead))) = true ↔
        bothOff := by simp [bothOff, off]
    generalize (s.turns e lead && !(s.det lead).level) = a at direction on1
    generalize (s.turns e (partner lead) && !(s.det (partner lead)).level) = b at direction on2
    generalize (((s.det lead).level == s.turns e lead) && ((s.det (partner lead)).level == s.turns e (partner lead))) = c
      at direction off1
    change new.direction = directionMove old.direction a b c at direction
    have cleared (k : old.direction = .forward ∨ old.direction = .reverse) : new.direction = .clear ↔ c = true := by
      rw [direction]
      rcases k with k | k <;> rw [k] <;> cases c <;> simp [directionMove]
    simp only [← on1, ← on2, ← off1]
    refine ⟨fun k => ?_, fun k => ?_, fun k => ?_, fun k => ?_, forward.trans ?_, reverse.trans ?_, wrongWay.trans ?_,
      fun k1 k2 k3 => alarm k1 ((cleared (.inr k1)).mpr k2) k3⟩
    · rw [direction, k]; simp [directionMove]
    · rw [direction, k]; rfl
    · rw [direction, k]; rfl
    · rw [direction]
      rcases k with k | k | k <;> rw [k] <;> rfl
    · exact if_congr (and_congr_right fun k => cleared (.inl k)) rfl rfl
    · exact if_congr (and_congr_right fun k => cleared (.inr k)) rfl rfl
    · congr 1
      exact decide_eq_decide.mpr (and_congr_right fun k => and_congr_left fun _ => cleared (.inr k))

end Sys2Proof.Machine

/-! PROOFS. What one judged half-cycle makes of the Monitor (O21, O22). -/

namespace Sys2Proof.Machine

/-- The settling of a moment leaves the Monitor and the unit, but for the entry into LOCAL_FLASH (R121, R143). -/
theorem settle_mon (old new : State) : ((settle old new).mon = new.mon ∧ (settle old new).unit = new.unit) ∨
    (new.unit.mode = .clearingToFlash ∧ (settle old new).mon = new.mon.atMode .localFlash ∧
      (settle old new).unit.mode = .localFlash) := by
  refine settle_induction (fun t => (t.mon = new.mon ∧ t.unit = new.unit) ∨ (new.unit.mode = .clearingToFlash ∧
    t.mon = new.mon.atMode .localFlash ∧ t.unit.mode = .localFlash)) (fun t u hj ht => ?_) old new (.inl ⟨by simp, by simp⟩)
  rw [noting_mon, noting_unit]
  rcases judge_calm hj with ⟨k1, -, k2⟩ | ⟨hm, rfl⟩
  · rw [k1, k2]; exact ht
  · rcases ht with ⟨k1, k2⟩ | ⟨-, -, k⟩
    · exact .inr ⟨by rw [← k2]; exact hm, by simp [enterLocalFlash, k1], by simp [enterLocalFlash]⟩
    · rw [k] at hm; cases hm

theorem atMode_lamp (m : Mode) (w : LampWatch) : (w.atMode m).status = w.status := by
  unfold LampWatch.atMode
  split <;> rfl

/-- What a half-cycle leaves of the Monitor when its notices are taken and the moment is settled. -/
structure Sampled (s t : State) : Prop where
  awaiting : s.mon.awaiting = none → t.mon.awaiting = none
  changed : t.mon.changed = s.mon.changed
  statuses : ∀ o, (t.mon.lamps.get o).status = (s.mon.lamps.get o).status
  flags : FlagsStay s t
  stands : (t.unit.mode = s.unit.mode ∧ t.mon.lamps = s.mon.lamps ∧ t.mon.channels = s.mon.channels ∧
      t.mon.conflicts = s.mon.conflicts) ∨ (t.unit.mode ≠ s.unit.mode ∧
      (t.unit.mode = .faultFlash ∨ (s.unit.mode = .clearingToFlash ∧ t.unit.mode = .localFlash)))

theorem recordFindings_sampled (fs : List Finding) (s : State) : Sampled s (recordFindings fs s) := by
  have flags := recordFindings_flags fs s
  obtain ⟨r, m, e⟩ := recordFindings_eq fs s
  rw [e] at flags ⊢
  exact ⟨id, rfl, fun _ => rfl, flags, .inl ⟨rfl, rfl, rfl, rfl⟩⟩

theorem enterFaultFlash_mon (s : State) :
    (enterFaultFlash s).mon = ({ s.mon with awaiting := none } : Monitor).atMode .faultFlash := by
  obtain ⟨-, -, -, -, h, -⟩ := handForced_blocks s (changeMode .faultFlash (doused s))
  rw [enterFaultFlash_eq, h, changeMode_mon]
  rfl

theorem faultNotice_sampled (fs : List Finding) (s : State) : Sampled s (faultNotice fs s) := by
  have recorded := recordFindings_sampled fs s
  obtain ⟨r, m, e⟩ := recordFindings_eq fs s
  rcases faultNotice_cases fs s with ⟨-, h⟩ | ⟨-, -, h⟩ | ⟨-, -, hm, h⟩
  · rw [h]; exact ⟨id, rfl, fun _ => rfl, fun _ => id, .inl ⟨rfl, rfl, rfl, rfl⟩⟩
  · rw [h]; exact recorded
  · have mon := enterFaultFlash_mon (recordFindings fs s)
    have unit := enterFaultFlash_unit (recordFindings fs s)
    have flags := (enterFaultFlash_after (recordFindings fs s)).flags
    rw [h]
    refine ⟨fun _ => by rw [mon]; rfl, by rw [mon]; exact recorded.changed, fun o => ?_,
      fun i k => flags i (recorded.flags i k), .inr ⟨?_, ?_⟩⟩
    · have lamps : ((enterFaultFlash (recordFindings fs s)).mon.lamps) =
          vmap (fun _ w => w.atMode .faultFlash) (recordFindings fs s).mon.lamps := by rw [mon]; rfl
      rw [lamps, vmap_get, atMode_lamp]
      exact recorded.statuses o
    · rw [unit]; exact Ne.symm hm
    · rw [unit]; exact .inl rfl

theorem monitorNotice_sampled (fs : List Finding) (s : State) : Sampled s (monitorNotice fs s) := by
  obtain ⟨k, e, -⟩ := monitorNotice_eq fs s
  have noticed := faultNotice_sampled fs s
  rw [e]
  exact { noticed with }

theorem settle_sampled (old s : State) : Sampled s (settle old s) := by
  have k := settle_keeps old s
  refine ⟨fun h => k.awaiting.trans h, k.changed, k.statuses, settle_flags old s, ?_⟩
  rcases settle_mon old s with ⟨e, f⟩ | ⟨h, -, f⟩
  · rw [e, f]; exact .inl ⟨rfl, rfl, rfl, rfl⟩
  · rw [f, h]; exact .inr ⟨nofun, .inr ⟨rfl, rfl⟩⟩

/-- The notices of a sample and the settling of its moment. -/
theorem noticed_sampled (old : State) (fs : List Finding) (s : State) : Sampled s (settle old (monitorNotice fs s)) := by
  have h := monitorNotice_sampled fs s
  have k := settle_sampled old (monitorNotice fs s)
  refine ⟨fun e => k.awaiting (h.awaiting e), k.changed.trans h.changed, fun o => (k.statuses o).trans (h.statuses o),
    fun i e => k.flags i (h.flags i e), ?_⟩
  rcases h.stands with ⟨m, l, c, f⟩ | ⟨m, c⟩
  · rcases k.stands with ⟨m', l', c', f'⟩ | ⟨m', c'⟩
    · exact .inl ⟨m'.trans m, l'.trans l, c'.trans c, f'.trans f⟩
    · exact .inr ⟨by rw [← m]; exact m', by rw [← m]; exact c'⟩
  · rcases c with c | ⟨c, c2⟩
    · have same := settle_unit_same (old := old) (new := monitorNotice fs s) (by rw [c]; exact nofun)
      rw [same]
      exact .inr ⟨m, .inl c⟩
    · have same := settle_unit_same (old := old) (new := monitorNotice fs s) (by rw [c2]; exact nofun)
      rw [same]
      exact .inr ⟨m, .inr ⟨c, c2⟩⟩

/-! ### One judged half-cycle (R120) -/

theorem judgeSample_blocks (s : State) (sense : LampSet) (report : Vector Drive 48) :
    let j := (judgeSample s sense report).1
    j.unit = s.unit ∧ j.mon.awaiting = none ∧
    (∀ o, j.mon.lamps.get o = (s.mon.lamps.get o).judge s.unit.mode.lampCheck (report.get o) (has sense o)) ∧
    (∀ o, has j.mon.changed o = (has s.mon.changed o || (j.mon.lamps.get o).status != (s.mon.lamps.get o).status)) ∧
    (∀ c, j.mon.channels.get c = (judgeChannel s sense report c (s.mon.channels.get c)).1) ∧
    (j.mon.conflicts = if s.unit.mode.isControl then conflictCounts s sense report else s.mon.conflicts) ∧
    FlagsStay s j ∧
    ((∃ o, (j.mon.lamps.get o).status ≠ (s.mon.lamps.get o).status) → has j.link.flags Report.lamp.index = true) := by
  unfold judgeSample
  simp only [flagIf_mon, flagIf_unit]
  have flags (b : Bool) (t : State) (h : t.link = s.link) : FlagsStay s (flagIf b .lamp t) := fun i k => by
    have := flagIf_flags b .lamp t
    exact this i (by rw [h]; exact k)
  refine ⟨trivial, trivial, fun o => by rw [vmap_get], fun o => ?_, fun c => by rw [vmap_get, vmap_get], trivial, flags _ _ rfl,
    fun ⟨o, h⟩ => ?_⟩
  · rw [has_or, has_maskOf]
  · have raised (m : LampSet) (t : State) (k : has m o = true) :
        has (flagIf (m != 0) .lamp t).link.flags Report.lamp.index = true := by
      have some : (m != 0) = true := by
        rw [bne_iff_ne]
        rintro rfl
        have none : has (0 : LampSet) o = false := has_zero o
        rw [none] at k
        cases k
      rw [flagIf, if_pos some, flag_link]
      simp
    refine raised _ _ ?_
    rw [has_maskOf]
    exact bne_iff_ne.mpr h

/-- The state in which a sample is judged: the clock at its moment (log entry 8). -/
def State.sampledAt (s : State) : State := { s with time := s.time.seen (s.time.lastCrossing + Config.monitorDelay) }

theorem exec_monitorSample {sense : LampSet} {s : State} {report : Vector Drive 48} (h : s.mon.awaiting = some report)
    (hm : s.unit.mode ≠ .powerOut) : exec (.monitorSample sense) s =
      .next (settle s.sampledAt
        (monitorNotice ((judgeSample s.sampledAt sense report).2 ++ besideFindings s.sampledAt sense report)
          (judgeSample s.sampledAt sense report).1)) := by
  change execMonitorSample sense s = _
  unfold execMonitorSample
  rw [h]
  exact if_neg hm

/-! ### The lamp statuses (R129, Table 7-2) -/

theorem judge_ok (check : LampCheck) (d : Drive) (lit : Bool) {w : LampWatch} (h : w.status = .ok) :
    (w.judge check d lit).status = (if check = .full ∧ d = .conduct ∧ ¬ lit = true ∧ 8 ≤ w.outRun + 1 then .lampOut
      else if check ≠ .none ∧ ¬ d = .conduct ∧ lit = true ∧ 8 ≤ w.onRun + 1 then .switchOn else .ok) ∧
    ((w.judge check d lit).status = .ok →
      (w.judge check d lit).outRun = (if check = .full ∧ d = .conduct then if lit = true then 0 else w.outRun + 1 else w.outRun) ∧
      (w.judge check d lit).onRun =
        (if check = .none ∨ d = .conduct then w.onRun else if lit = true then w.onRun + 1 else 0)) := by
  have run : Config.lampRun = 8 := rfl
  have on : driven d = decide (d = .conduct) := rfl
  have less (n : Nat) : (n + 1 < 8) ↔ ¬ 8 ≤ n + 1 := Nat.not_le.symm
  unfold LampWatch.judge
  rw [h, on]
  simp only [run, less]
  cases check with
  | none => simp [h]
  | full =>
    by_cases hd : d = .conduct
    · cases lit
      · by_cases k : 8 ≤ w.outRun + 1 <;> simp [hd, k, h, changedTo]
      · simp [hd, h]
    · cases lit
      · simp [hd, h]
      · by_cases k : 8 ≤ w.onRun + 1 <;> simp [hd, k, h, changedTo]
  | switchOnOnly =>
    by_cases hd : d = .conduct
    · simp [hd, h]
    · cases lit
      · simp [hd, h]
      · by_cases k : 8 ≤ w.onRun + 1 <;> simp [hd, k, h, changedTo]

theorem judge_lampOut (check : LampCheck) (d : Drive) (lit : Bool) {w : LampWatch} (h : w.status = .lampOut) :
    (w.judge check d lit).status =
      if check = .full ∧ d = .conduct ∧ lit = true ∧ 8 ≤ w.clearRun + 1 then .ok else .lampOut := by
  have run : Config.lampRun = 8 := rfl
  have on : driven d = decide (d = .conduct) := rfl
  have less (n : Nat) : (n + 1 < 8) ↔ ¬ 8 ≤ n + 1 := Nat.not_le.symm
  unfold LampWatch.judge
  rw [h, on]
  simp only [run, less]
  cases check with
  | none => simp [h]
  | full =>
    by_cases hd : d = .conduct
    · cases lit
      · simp [hd, h]
      · by_cases k : 8 ≤ w.clearRun + 1 <;> simp [hd, k, h, changedTo]
    · simp [hd, h]
  | switchOnOnly => simp [h]

theorem judge_switchOn {check : LampCheck} (hc : check ≠ .none) (d : Drive) (lit : Bool) {w : LampWatch}
    (h : w.status = .switchOn) : (w.judge check d lit).status =
      if ¬ d = .conduct ∧ ¬ lit = true ∧ 8 ≤ w.clearRun + 1 then .ok else .switchOn := by
  have run : Config.lampRun = 8 := rfl
  have on : driven d = decide (d = .conduct) := rfl
  have less (n : Nat) : (n + 1 < 8) ↔ ¬ 8 ≤ n + 1 := Nat.not_le.symm
  have both : w.judge check d lit = if driven d then w
      else if lit then { w with clearRun := 0 }
      else if w.clearRun + 1 < Config.lampRun then { w with clearRun := w.clearRun + 1 } else changedTo .ok := by
    unfold LampWatch.judge
    rw [h]
    cases check with
    | none => exact absurd rfl hc
    | full => rfl
    | switchOnOnly => rfl
  rw [both, on]
  simp only [run, less]
  by_cases hd : d = .conduct
  · simp [hd, h]
  · cases lit
    · by_cases k : 8 ≤ w.clearRun + 1 <;> simp [hd, k, h, changedTo]
    · simp [hd, h]

theorem lampCheck_full {m : Mode} (h : m ≠ .powerOut) : (m.lampCheck = .full ↔ m ≠ .startFlash ∧ m ≠ .faultFlash) ∧
    m.lampCheck ≠ .none := by
  cases m with
  | powerOut => exact absurd rfl h
  | _ => simp [Mode.lampCheck]

/-- Settles O21. -/
theorem lampStatusSample : Obligations.LampStatusSample := by
  refine ⟨fun sense s h => ?_, fun sense s report h hm => ?_, fun sense s report h hm => ⟨_, exec_monitorSample h hm, ?_⟩⟩
  · change execMonitorSample sense s = _
    unfold execMonitorSample
    rw [h]
  · change execMonitorSample sense s = _
    unfold execMonitorSample
    rw [h]
    exact if_pos hm
  · obtain ⟨full, some⟩ := lampCheck_full hm
    obtain ⟨unit, awaiting, lamps, changed, -, -, flags, raised⟩ := judgeSample_blocks s.sampledAt sense report
    have after := noticed_sampled s.sampledAt
      ((judgeSample s.sampledAt sense report).2 ++ besideFindings s.sampledAt sense report)
      (judgeSample s.sampledAt sense report).1
    generalize (judgeSample s.sampledAt sense report).2 ++ besideFindings s.sampledAt sense report = fs at *
    generalize (judgeSample s.sampledAt sense report).1 = j at *
    generalize settle s.sampledAt (monitorNotice fs j) = t at *
    have own (o) : (t.mon.lamps.get o).status =
        ((s.mon.lamps.get o).judge s.unit.mode.lampCheck (report.get o) (has sense o)).status := by
      rw [after.statuses, lamps]; rfl
    refine ⟨after.awaiting awaiting, fun o => ?_, fun ⟨o, k⟩ => after.flags _ (raised ⟨o, ?_⟩), fun o => ?_⟩
    · rw [after.changed, changed, after.statuses]; rfl
    · rw [← after.statuses]; exact k
    · intro full' on lit w
      rw [own]
      refine ⟨fun k => ?_, fun k => ?_, fun k => ?_, fun m k k2 => ?_⟩
      · rw [(judge_ok _ _ _ k).1]
        simp only [full, ne_eq, some, not_false_eq_true, true_and]
        rfl
      · rw [judge_lampOut _ _ _ k]
        simp only [full]
        rfl
      · exact judge_switchOn some _ _ k
      · have stands := after.stands.resolve_right fun x => x.1 (by rw [unit]; exact m)
        have runs := (judge_ok s.unit.mode.lampCheck (report.get o) (has sense o) k).2 k2
        rw [stands.2.1, lamps]
        simp only [full, some, false_or] at runs
        exact runs

end Sys2Proof.Machine

/-! PROOFS. The safety checks of one judged half-cycle (O22). -/

namespace Sys2Proof.Machine

/-! ### What a channel shows (R122) -/

/-- Release current on a channel. -/
def State.releases (s : State) (sense : LampSet) (c : Chan) : Prop :=
  has sense (outputOf c 2) = true ∨ ((s.chan c).kind ≠ .pedestrian ∧ has sense (outputOf c 1) = true)

/-- A release output of a channel skipped by the dimming. -/
def State.holdsDim (s : State) (report : Vector Drive 48) (c : Chan) : Prop :=
  report.get (outputOf c 2) = .skipped ∨ ((s.chan c).kind ≠ .pedestrian ∧ report.get (outputOf c 1) = .skipped)

theorem relevant_any (s : State) (c : Chan) (p : Fin 48 → Bool) : (relevant (s.chan c).kind c).any p = true ↔
    p (outputOf c 2) = true ∨ ((s.chan c).kind ≠ .pedestrian ∧ p (outputOf c 1) = true) := by
  cases (s.chan c).kind <;> simp [relevant]

theorem showing_cases (s : State) (sense : LampSet) (report : Vector Drive 48) (c : Chan) :
    (s.releases sense c ∧ showing s sense report c = .release) ∨
    (¬ s.releases sense c ∧ s.holdsDim report c ∧ showing s sense report c = .dimHeld) ∨
    (¬ s.releases sense c ∧ ¬ s.holdsDim report c ∧ showing s sense report c = .quiet) := by
  have lit := relevant_any s c fun o => has sense o
  have held : (relevant (s.chan c).kind c).any (fun o => report.get o == .skipped) = true ↔ s.holdsDim report c := by
    rw [relevant_any]
    simp [State.holdsDim]
  unfold showing
  simp only
  split
  · next h => exact .inl ⟨lit.mp h, rfl⟩
  · next h =>
    split
    · next k => exact .inr (.inl ⟨fun x => h (lit.mpr x), held.mp k, rfl⟩)
    · next k => exact .inr (.inr ⟨fun x => h (lit.mpr x), fun x => k (held.mpr x), rfl⟩)

theorem conflictCounts_get (s : State) (sense : LampSet) (report : Vector Drive 48) (n : Fin 120) :
    (conflictCounts s sense report).get n =
      if compatible s.compat.inUse (pairTable.get n).1 (pairTable.get n).2 then s.mon.conflicts.get n
      else conflictMove (showing s sense report (pairTable.get n).1) (showing s sense report (pairTable.get n).2)
        (s.mon.conflicts.get n) := by
  unfold conflictCounts
  simp only
  rw [vmap_get]
  simp only [Vector.get_ofFn]

/-- The count of a pair after a half-cycle, by what its channels show (R122, R123). -/
theorem conflictMove_cases {s : State} {sense : LampSet} {report : Vector Drive 48} (i j : Chan) (n : Nat) :
    let r := conflictMove (showing s sense report i) (showing s sense report j) n
    (s.releases sense i ∧ s.releases sense j → r = min 24 (n + 1)) ∧
    ((¬ s.releases sense i ∧ ¬ s.holdsDim report i) ∨ (¬ s.releases sense j ∧ ¬ s.holdsDim report j) → r = 0) ∧
    (¬ (s.releases sense i ∧ s.releases sense j) → (s.releases sense i ∨ s.holdsDim report i) →
      (s.releases sense j ∨ s.holdsDim report j) → r = n) := by
  rcases showing_cases s sense report i with ⟨a, e⟩ | ⟨a, b, e⟩ | ⟨a, b, e⟩ <;>
  rcases showing_cases s sense report j with ⟨a', e'⟩ | ⟨a', b', e'⟩ | ⟨a', b', e'⟩ <;>
  · simp only [e, e', conflictMove, Config.conflictLimit]
    tauto

/-! ### The watch of one channel (R125, R127) -/

/-- Any lamp of a channel sensed. -/
def litAny (sense : LampSet) (c : Chan) : Prop :=
  has sense (outputOf c 0) = true ∨ has sense (outputOf c 1) = true ∨ has sense (outputOf c 2) = true

theorem judgeRed_cases (sense : LampSet) (report : Vector Drive 48) (c : Chan) (w : ChannelWatch) :
    let v := w.judgeRed (redJudgment sense report c)
    let driven := report.get (outputOf c 0) = .conduct ∨ report.get (outputOf c 1) = .conduct ∨
      report.get (outputOf c 2) = .conduct
    (v.clearance = w.clearance ∧ v.amberCount = w.amberCount) ∧
    (litAny sense c → v.lastRed = .lit ∧ v.redTimer = 0) ∧
    (¬ litAny sense c → driven → v.lastRed = .dark ∧ v.redTimer = w.redTimer) ∧
    (¬ litAny sense c → ¬ driven → v.lastRed = w.lastRed ∧ v.redTimer = w.redTimer) := by
  have lit : ([outputOf c 0, outputOf c 1, outputOf c 2].any fun o => has sense o) = true ↔ litAny sense c := by
    simp [litAny]
  have driven : ([outputOf c 0, outputOf c 1, outputOf c 2].any fun o => report.get o == .conduct) = true ↔
      report.get (outputOf c 0) = .conduct ∨ report.get (outputOf c 1) = .conduct ∨ report.get (outputOf c 2) = .conduct := by
    simp
  unfold redJudgment
  simp only [← lit, ← driven]
  generalize ([outputOf c 0, outputOf c 1, outputOf c 2].any fun o => has sense o) = a
  generalize ([outputOf c 0, outputOf c 1, outputOf c 2].any fun o => report.get o == .conduct) = b
  cases a
  · cases b <;> simp [ChannelWatch.judgeRed]
  · simp [ChannelWatch.judgeRed]

theorem judgeClearance_red (n : Nat) (k : Colour) (w : ChannelWatch) :
    (w.judgeClearance n k).1.lastRed = w.lastRed ∧ (w.judgeClearance n k).1.redTimer = w.redTimer := by
  unfold ChannelWatch.judgeClearance
  split <;> exact ⟨rfl, rfl⟩

/-- The clearance state after a half-cycle, by the current seen (Figure 7-1). -/
theorem judgeClearance_cases (n : Nat) (sense : LampSet) (c : Chan) (w : ChannelWatch) :
    let v := (w.judgeClearance n (sensedColour sense c)).1
    (has sense (outputOf c 2) = true → v.clearance = .greenSeen ∧ v.amberCount = 0) ∧
    (has sense (outputOf c 2) = false → has sense (outputOf c 1) = true →
      (w.clearance = .greenSeen → v.clearance = .amberRun ∧ v.amberCount = 1) ∧
      (w.clearance = .amberRun → v.clearance = .amberRun ∧ v.amberCount = min 65535 (w.amberCount + 1)) ∧
      (w.clearance = .idle → v.clearance = .idle)) ∧
    (has sense (outputOf c 2) = false → has sense (outputOf c 1) = false → has sense (outputOf c 0) = true →
      v.clearance = .idle) ∧
    (¬ litAny sense c → v.clearance = w.clearance ∧ v.amberCount = w.amberCount) := by
  unfold sensedColour litAny
  cases h2 : has sense (outputOf c 2)
  · cases h1 : has sense (outputOf c 1)
    · cases h0 : has sense (outputOf c 0)
      · simp [ChannelWatch.judgeClearance]
      · cases hw : w.clearance <;> simp [ChannelWatch.judgeClearance, hw]
    · cases hw : w.clearance <;> simp [ChannelWatch.judgeClearance, hw]
  · simp [ChannelWatch.judgeClearance]

theorem judgeChannel_control {s : State} (h : s.unit.mode.isControl = true) (sense : LampSet) (report : Vector Drive 48)
    (c : Chan) (w : ChannelWatch) :
    let v := if (s.chan c).redWatched then w.judgeRed (redJudgment sense report c) else w
    (judgeChannel s sense report c w).1 = if (s.chan c).kind = .vehicle then
      (v.judgeClearance (minimumAmber s.time.sixty) (sensedColour sense c)).1 else v := by
  unfold judgeChannel
  simp only
  rw [if_pos h]
  split <;> rfl

/-- Settles O22. -/
theorem safetyCheckSample : Obligations.SafetyCheckSample := by
  intro sense s report t h hm ran still
  have powered : s.unit.mode ≠ .powerOut := fun e => by rw [e] at hm; cases hm
  rw [exec_monitorSample h powered] at ran
  obtain ⟨unit, -, -, -, channels, conflicts, -⟩ := judgeSample_blocks s.sampledAt sense report
  have after := noticed_sampled s.sampledAt
    ((judgeSample s.sampledAt sense report).2 ++ besideFindings s.sampledAt sense report)
    (judgeSample s.sampledAt sense report).1
  cases ran
  generalize (judgeSample s.sampledAt sense report).2 ++ besideFindings s.sampledAt sense report = fs at *
  generalize (judgeSample s.sampledAt sense report).1 = j at *
  generalize settle s.sampledAt (monitorNotice fs j) = t at *
  have stands := after.stands.resolve_right fun x => by
    rcases x.2 with e | ⟨-, e⟩ <;> rw [e] at still <;> cases still
  obtain ⟨-, -, chans, counts⟩ := stands
  refine ⟨fun n => ?_, fun c => ?_⟩
  · have control : s.sampledAt.unit.mode.isControl = true := hm
    rw [counts, conflicts, if_pos control, conflictCounts_get]
    intro i j release dimHeld
    obtain ⟨k1, k2, k3⟩ := conflictMove_cases (s := s.sampledAt) (sense := sense) (report := report) i j (s.mon.conflicts.get n)
    refine ⟨fun e => if_pos e, fun e => ?_, fun e => ?_, fun e => ?_⟩
    all_goals
      have off : ¬ compatible s.sampledAt.compat.inUse i j = true := by
        change ¬ compatible s.compat.inUse i j = true
        rw [e]; exact Bool.false_ne_true
      rw [if_neg off]
    · exact k1
    · exact k2
    · exact k3
  · rw [chans, channels]
    have judged := judgeChannel_control (s := s.sampledAt) hm sense report c (s.mon.channels.get c)
    intro old new lit driven
    change new = _ at judged
    obtain ⟨⟨r1, r2⟩, r3, r4, r5⟩ := judgeRed_cases sense report c old
    have watched : (s.sampledAt.chan c).redWatched = ((s.chan c).used && (s.chan c).redMonitor) := rfl
    have red : ∃ v : ChannelWatch, (if (s.sampledAt.chan c).redWatched then old.judgeRed (redJudgment sense report c) else old) = v ∧
        v.clearance = old.clearance ∧ v.amberCount = old.amberCount ∧
        ((s.chan c).used = true → (s.chan c).redMonitor = true → v = old.judgeRed (redJudgment sense report c)) := by
      refine ⟨_, rfl, ?_⟩
      split
      · exact ⟨r1, r2, fun _ _ => rfl⟩
      · next k => exact ⟨rfl, rfl, fun k1 k2 => absurd (by rw [watched, k1, k2]; rfl) k⟩
    obtain ⟨v, e, v1, v2, v3⟩ := red
    rw [e] at judged
    have kind : (s.sampledAt.chan c).kind = (s.chan c).kind := rfl
    rw [kind] at judged
    have ticked : new.lastRed = v.lastRed ∧ new.redTimer = v.redTimer := by
      rw [judged]
      split
      · exact judgeClearance_red _ _ v
      · exact ⟨rfl, rfl⟩
    refine ⟨fun k1 k2 => ?_, fun k => ?_, fun k => ?_⟩
    · rw [ticked.1, ticked.2, v3 k1 k2]
      exact ⟨r3, r4, r5⟩
    · rw [if_neg k] at judged
      rw [judged]
      exact ⟨v1, v2⟩
    · rw [if_pos k] at judged
      obtain ⟨c1, c2, c3, c4⟩ := judgeClearance_cases (minimumAmber s.sampledAt.time.sixty) sense c v
      rw [← v1, ← v2, judged]
      exact ⟨c1, c2, c3, c4⟩

end Sys2Proof.Machine

/-! PROOFS. The faults that a half-cycle finds, and a plug notice of the same moment (O23). -/

namespace Sys2Proof.Machine

/-! ### The findings of a half-cycle (R123, R124, R128) -/

theorem conflictFindings_mem {old counts : Vector Nat 120} {f : Finding} : f ∈ conflictFindings old counts ↔
    ∃ n : Fin 120, 24 ≤ counts.get n ∧ old.get n < 24 ∧
      f = ⟨.conflict, number (pairTable.get n).1, number (pairTable.get n).2⟩ := by
  simp only [conflictFindings, List.mem_map, List.mem_filter, List.mem_finRange, true_and, Bool.and_eq_true,
    decide_eq_true_eq]
  exact ⟨fun ⟨n, ⟨h, k⟩, e⟩ => ⟨n, h, k, e.symm⟩, fun ⟨n, h, k, e⟩ => ⟨n, ⟨h, k⟩, e.symm⟩⟩

theorem conflictFindings_same (v : Vector Nat 120) : conflictFindings v v = [] := by
  refine List.eq_nil_iff_forall_not_mem.mpr fun f h => ?_
  obtain ⟨n, h1, h2, -⟩ := conflictFindings_mem.mp h
  omega

/-- The findings of the channels' own checks, lower channels first. -/
def channelFindings (s : State) (sense : LampSet) (report : Vector Drive 48) : List Finding :=
  (List.finRange 16).flatMap fun c => (judgeChannel s sense report c (s.mon.channels.get c)).2

theorem judgeSample_findings (s : State) (sense : LampSet) (report : Vector Drive 48) : (judgeSample s sense report).2 =
    conflictFindings s.mon.conflicts (if s.unit.mode.isControl then conflictCounts s sense report else s.mon.conflicts) ++
      channelFindings s sense report := by
  have list : (vmap (fun c w => judgeChannel s sense report c w) s.mon.channels).toList =
      (List.finRange 16).map fun c => judgeChannel s sense report c (s.mon.channels.get c) := by
    rw [vmap, Vector.toList_ofFn, List.ofFn_eq_map]
  unfold judgeSample channelFindings
  simp only
  rw [list, List.flatMap_map]

theorem channelFindings_mem {s : State} {sense : LampSet} {report : Vector Drive 48} {f : Finding} :
    f ∈ channelFindings s sense report ↔ ∃ c, f ∈ (judgeChannel s sense report c (s.mon.channels.get c)).2 := by
  simp [channelFindings, List.mem_flatMap]

/-! ### A sample that finds (R131, R145) -/

/-- A sample that finds something in a mode other than POWER_OUT and FAULT_FLASH leads to FAULT_FLASH. -/
theorem sample_faults {sense : LampSet} {s : State} {report : Vector Drive 48} (h : s.mon.awaiting = some report)
    (h1 : s.unit.mode ≠ .powerOut) (h2 : s.unit.mode ≠ .faultFlash) {f : Finding} {fs : List Finding}
    (found : (judgeSample s.sampledAt sense report).2 = f :: fs) :
    ∃ t, exec (.monitorSample sense) s = .next t ∧ t.InFaultFlash ∧ t.time = s.sampledAt.time ∧
      (s.unit.mode.isControl = true → t.mon.found = some s.sampledAt.time.clock) ∧ t.compat = s.compat ∧
      (s.mon.record = none → ∃ more, t.mon.record = some ⟨f.cause, f.first, f.second, s.time.tenth, s.unit.mode, more⟩) := by
  refine ⟨_, exec_monitorSample h h1, ?_⟩
  rw [found, List.cons_append]
  generalize fs ++ besideFindings s.sampledAt sense report = rest
  obtain ⟨unit, -⟩ := judgeSample_blocks s.sampledAt sense report
  have same : (judgeSample s.sampledAt sense report).1.time = s.sampledAt.time ∧
      (judgeSample s.sampledAt sense report).1.mon.record = s.mon.record ∧
      (judgeSample s.sampledAt sense report).1.compat = s.compat := by
    unfold judgeSample
    simp only [flagIf_mon, flagIf_time, flagIf_compat]
    exact ⟨trivial, rfl, rfl⟩
  obtain ⟨time, record, compat⟩ := same
  generalize (judgeSample s.sampledAt sense report).1 = j at *
  obtain ⟨inFault, written⟩ := monitorNotice_enters (fs := f :: rest) (s := j) (List.cons_ne_nil _ _)
    (by rw [unit]; exact h1) (by rw [unit]; exact h2)
  have notice := monitorNotice_after (f :: rest) j
  obtain ⟨k, e, some, -⟩ := monitorNotice_eq (f :: rest) j
  have kept := settle_keeps s.sampledAt (monitorNotice (f :: rest) j)
  have after := settle_after s.sampledAt (monitorNotice (f :: rest) j)
  have mon := (settle_mon s.sampledAt (monitorNotice (f :: rest) j)).resolve_right fun x => by
    rw [inFault.mode.1] at x; cases x.1
  have table : (monitorNotice (f :: rest) j).compat = j.compat := by
    obtain ⟨r, m, eq⟩ := recordFindings_eq (f :: rest) j
    rw [e]
    rcases faultNotice_cases (f :: rest) j with ⟨-, g⟩ | ⟨-, -, g⟩ | ⟨-, -, -, g⟩
    · change (faultNotice _ _).compat = _
      rw [g]
    · change (faultNotice _ _).compat = _
      rw [g, eq]
    · change (faultNotice _ _).compat = _
      rw [g, enterFaultFlash_compat, eq]
  refine ⟨inFault.settled, after.time.trans (notice.time.trans time), fun c => ?_, kept.compat.trans (table.trans compat),
    fun none => ?_⟩
  · rw [mon.1, e]
    rw [some (List.cons_ne_nil _ _) (by rw [unit]; exact c), time]
  · refine ⟨!rest.isEmpty, ?_⟩
    rw [kept.record, written, recordFindings_empty f rest j (by rw [record]; exact none), time, unit]
    rfl

/-- A red after a green with no amber, or with too short an amber, is found (R128). -/
theorem short_clearance {s : State} {sense : LampSet} {report : Vector Drive 48} {c : Chan}
    (hm : s.unit.mode.isControl = true) (hk : (s.chan c).kind = .vehicle) (h2 : has sense (outputOf c 2) = false)
    (h1 : has sense (outputOf c 1) = false) (h0 : has sense (outputOf c 0) = true)
    (h : (s.mon.channels.get c).clearance = .greenSeen ∨ ((s.mon.channels.get c).clearance = .amberRun ∧
      (s.mon.channels.get c).amberCount < if s.time.sixty then 324 else 270)) :
    (⟨.clearance, number c, 0⟩ : Finding) ∈ (judgeChannel s sense report c (s.mon.channels.get c)).2 := by
  have red : ∃ v : ChannelWatch, (if (s.chan c).redWatched then
      (s.mon.channels.get c).judgeRed (redJudgment sense report c) else s.mon.channels.get c) = v ∧
      v.clearance = (s.mon.channels.get c).clearance ∧ v.amberCount = (s.mon.channels.get c).amberCount := by
    refine ⟨_, rfl, ?_⟩
    split
    · exact (judgeRed_cases sense report c _).1
    · exact ⟨rfl, rfl⟩
  obtain ⟨v, e, v1, v2⟩ := red
  have colour : sensedColour sense c = .red := by simp [sensedColour, h2, h1, h0]
  have faults : (v.judgeClearance (minimumAmber s.time.sixty) .red).2 = true := by
    unfold ChannelWatch.judgeClearance
    rw [← v1, ← v2] at h
    rcases h with h | ⟨h, k⟩
    · rw [h]
    · rw [h]
      exact decide_eq_true k
  unfold judgeChannel
  simp only
  rw [if_pos hm, if_pos hk, e, colour, faults]
  exact List.mem_singleton.mpr rfl

/-- The findings of a sample in a control mode are conflicts and short clearances (R123, R128). -/
theorem control_findings {s : State} {sense : LampSet} {report : Vector Drive 48} (hm : s.unit.mode.isControl = true)
    {f : Finding} (h : f ∈ (judgeSample s sense report).2) : f.cause = .conflict ∨ f.cause = .clearance := by
  rw [judgeSample_findings, List.mem_append] at h
  rcases h with h | h
  · obtain ⟨n, -, -, e⟩ := conflictFindings_mem.mp h
    rw [e]
    exact .inl rfl
  · obtain ⟨c, h⟩ := channelFindings_mem.mp h
    unfold judgeChannel at h
    simp only at h
    rw [if_pos hm] at h
    have only {b : Bool} {x : Finding} (k : f ∈ if b then [x] else []) : f = x := by
      cases b
      · cases k
      · exact List.mem_singleton.mp k
    by_cases hk : (s.chan c).kind = .vehicle
    · rw [if_pos hk] at h
      rw [only h]
      exact .inr rfl
    · rw [if_neg hk] at h
      cases h

theorem first_of_mem {α : Type} {a : α} {l : List α} (h : a ∈ l) : ∃ b rest, l = b :: rest := by
  cases l with
  | nil => cases h
  | cons b rest => exact ⟨b, rest, rfl⟩

theorem conflict_found {s : State} {sense : LampSet} {report : Vector Drive 48} {n : Fin 120}
    (hc : compatible s.compat.inUse (pairTable.get n).1 (pairTable.get n).2 = false) (h : s.mon.conflicts.get n = 23)
    (h1 : has sense (outputOf (pairTable.get n).1 2) = true) (h2 : has sense (outputOf (pairTable.get n).2 2) = true) :
    (⟨.conflict, number (pairTable.get n).1, number (pairTable.get n).2⟩ : Finding) ∈
      conflictFindings s.mon.conflicts (conflictCounts s sense report) := by
  refine conflictFindings_mem.mpr ⟨n, ?_, by omega, rfl⟩
  rw [conflictCounts_get, if_neg (by rw [hc]; exact Bool.false_ne_true)]
  rw [(conflictMove_cases (s := s) (sense := sense) (report := report) _ _ _).1 ⟨.inl h1, .inl h2⟩, h]
  exact Nat.le_refl _

/-- In LOCAL_FLASH the findings are those of green current, lower channels first (R124). -/
theorem flashGreen_found {s : State} {sense : LampSet} {report : Vector Drive 48} {c : Chan} (hm : s.unit.mode = .localFlash)
    (h : has sense (outputOf c 2) = true) (h23 : (s.mon.channels.get c).flashGreen = 23) :
    ∃ f fs, (judgeSample s sense report).2 = f :: fs ∧ f.cause = .flashGreen ∧ f.first ≤ number c := by
  have off : s.unit.mode.isControl = false := by rw [hm]; rfl
  have list : (judgeSample s sense report).2 = channelFindings s sense report := by
    rw [judgeSample_findings, if_neg (by rw [off]; exact Bool.false_ne_true), conflictFindings_same, List.nil_append]
  have judged (d : Chan) : (judgeChannel s sense report d (s.mon.channels.get d)).2 = [] ∨
      (judgeChannel s sense report d (s.mon.channels.get d)).2 = [⟨.flashGreen, number d, 0⟩] := by
    unfold judgeChannel
    simp only
    rw [if_neg (by rw [off]; exact Bool.false_ne_true), if_pos hm]
    by_cases k : (s.mon.channels.get d).flashGreen < Config.conflictLimit ∧
        ((s.mon.channels.get d).judgeFlashGreen (has sense (outputOf d 2))).flashGreen = Config.conflictLimit
    · exact .inr (if_pos k)
    · exact .inl (if_neg k)
  have own : (judgeChannel s sense report c (s.mon.channels.get c)).2 = [⟨.flashGreen, number c, 0⟩] := by
    unfold judgeChannel
    simp only
    rw [if_neg (by rw [off]; exact Bool.false_ne_true), if_pos hm, h]
    refine if_pos ⟨by rw [h23]; decide, ?_⟩
    change min 24 ((s.mon.channels.get c).flashGreen + 1) = 24
    rw [h23]
    rfl
  rw [list]
  have lowest (l : List Chan) (hl : l.Pairwise (· < ·)) (hc : c ∈ l) : ∃ f fs,
      (l.flatMap fun d => (judgeChannel s sense report d (s.mon.channels.get d)).2) = f :: fs ∧
        f.cause = .flashGreen ∧ f.first ≤ number c := by
    induction l with
    | nil => cases hc
    | cons d l ih =>
      obtain ⟨before, hl⟩ := List.pairwise_cons.mp hl
      rw [List.flatMap_cons]
      rcases judged d with e | e
      · rcases List.mem_cons.mp hc with rfl | hc
        · rw [own] at e; cases e
        · rw [e]
          exact ih hl hc
      · rw [e]
        refine ⟨_, _, rfl, rfl, ?_⟩
        rcases List.mem_cons.mp hc with rfl | hc
        · exact Nat.le_refl _
        · exact Nat.succ_le_succ (Nat.le_of_lt (before c hc))
  exact lowest _ (List.pairwise_lt_finRange 16) (List.mem_finRange c)

/-- In START_FLASH and FAULT_FLASH a half-cycle finds nothing (R121). -/
theorem flash_findings {s : State} {sense : LampSet} {report : Vector Drive 48}
    (hm : s.unit.mode = .startFlash ∨ s.unit.mode = .faultFlash) : (judgeSample s sense report).2 = [] := by
  have off : s.unit.mode.isControl = false := by rcases hm with e | e <;> rw [e] <;> rfl
  have other : s.unit.mode ≠ .localFlash := by rcases hm with e | e <;> rw [e] <;> exact nofun
  rw [judgeSample_findings, if_neg (by rw [off]; exact Bool.false_ne_true), conflictFindings_same, List.nil_append]
  refine List.eq_nil_iff_forall_not_mem.mpr fun f h => ?_
  obtain ⟨c, h⟩ := channelFindings_mem.mp h
  unfold judgeChannel at h
  simp only at h
  rw [if_neg (by rw [off]; exact Bool.false_ne_true), if_neg other] at h
  cases h

/-! ### A plug notice of the same moment (R29, R132) -/

/-- A second bad read after a first: the notice of an absent plug (R24, R25). -/
theorem absent_read {cells : BitVec 128} {s : State} {k : Nat} {old : PlugRead} (hr : s.compat.reading = some k)
    (hp : s.compat.previous = some old) (ho : old.coded = false) (hc : cells.extractLsb' 120 8 ≠ 0b01001101#8)
    (hs : s.compat.status ≠ .absent) : ∃ u : State,
      exec (.plugReadComplete cells) s =
        .next (settle { s with time := s.time.seen (s.compat.readStart + Config.readMicros) } (plugNotice .plug u)) ∧
      ∃ p m, u = { s with
        time := s.time.seen (s.compat.readStart + Config.readMicros), compat := p, link := { s.link with flags := m } } := by
  have flagged (b : Bool) (u : State) : ∃ m, flagIf b .status u = { u with link := { u.link with flags := m } } := by
    cases b
    · exact ⟨_, rfl⟩
    · exact ⟨_, rfl⟩
  have coded : (classRead cells).coded = false := beq_eq_false_iff_ne.mpr hc
  have agreed : agree (classRead cells) old = true := by rw [agree, coded, ho]; rfl
  refine ⟨setPlugStatus .absent { s with
    time := s.time.seen (s.compat.readStart + Config.readMicros)
    compat := { s.compat with reading := none, previous := some (classRead cells), disagreements := 0 } }, ?_, ?_⟩
  · change execPlugReadComplete cells s = _
    unfold execPlugReadComplete
    rw [hr]
    simp only
    unfold completeRead confirmRead
    simp only [hp, agreed, coded, if_true, Bool.false_eq_true, if_false, hs]
  · unfold setPlugStatus
    obtain ⟨m, e⟩ := flagged (PlugStatus.absent != s.compat.status) { s with
      time := s.time.seen (s.compat.readStart + Config.readMicros)
      compat := { s.compat with
        reading := none, previous := some (classRead cells), disagreements := 0, status := .absent } }
    exact ⟨_, m, e⟩

theorem judgeSample_stands (s : State) (sense : LampSet) (report : Vector Drive 48) :
    (judgeSample s sense report).1.time = s.time ∧ (judgeSample s sense report).1.mon.record = s.mon.record := by
  unfold judgeSample
  simp only [flagIf_mon, flagIf_time]
  exact ⟨trivial, trivial⟩

/-- A sample in FAULT_FLASH that finds something by the checks held beside a notice marks the record additional (R132). -/
theorem beside_marks {sense : LampSet} {s : State} {report : Vector Drive 48} {r : FaultRecord}
    (h : s.mon.awaiting = some report) (hm : s.unit.mode = .faultFlash) (hr : s.mon.record = some r)
    (found : besideFindings s.sampledAt sense report ≠ []) : ∃ t, exec (.monitorSample sense) s = .next t ∧
      t.unit.mode = .faultFlash ∧ t.mon.record = some { r with additional := true } := by
  refine ⟨_, exec_monitorSample h (by rw [hm]; exact nofun), ?_⟩
  have none : (judgeSample s.sampledAt sense report).2 = [] := flash_findings (.inr hm)
  rw [none, List.nil_append]
  obtain ⟨unit, -⟩ := judgeSample_blocks s.sampledAt sense report
  have record := (judgeSample_stands s.sampledAt sense report).2
  generalize besideFindings s.sampledAt sense report = fs at *
  generalize (judgeSample s.sampledAt sense report).1 = j at *
  have mode : j.unit.mode = .faultFlash := by rw [unit]; exact hm
  obtain ⟨k, e, -⟩ := monitorNotice_eq fs j
  have noticed : faultNotice fs j = recordFindings fs j := by
    rcases faultNotice_cases fs j with ⟨g, -⟩ | ⟨-, -, g⟩ | ⟨-, -, g, -⟩
    · exact absurd g found
    · exact g
    · exact absurd mode g
  have same : (monitorNotice fs j).unit = j.unit := by
    obtain ⟨r, m, eq⟩ := recordFindings_eq fs j
    rw [e, noticed, eq]
  have written : (monitorNotice fs j).mon.record = some { r with additional := true } := by
    rw [e, noticed]
    change (recordFindings fs j).mon.record = _
    rw [recordFindings_full fs j (record.trans hr), if_neg found]
  refine ⟨?_, (settle_keeps _ _).record.trans written⟩
  rw [settle_unit_same (by rw [same, mode]; exact nofun), same, mode]

/-- A plug notice taken at the moment of a sample: the record, and the checks held beside it (R132; log entry 35). -/
theorem notice_keeps_sample {u old : State} (hm : u.unit.mode.isControl = true) (hr : u.mon.record = none)
    (hn : u.sampleNow = true) : ∃ t, settle old (plugNotice .plug u) = t ∧ t.unit.mode = .faultFlash ∧
      t.mon.record = some ⟨.plug, 0, 0, u.time.tenth, u.unit.mode, false⟩ ∧ t.mon.awaiting = u.mon.awaiting ∧
      t.mon.beside = some ⟨u.unit.mode, u.mon.conflicts, u.mon.channels⟩ ∧ (∀ c, (t.chan c).kind = (u.chan c).kind) := by
  have notice : plugNotice .plug u = keepSample u (enterFaultFlash (recordFinding u ⟨.plug, 0, 0⟩)) := by
    rcases plugNotice_cases .plug u with ⟨-, e⟩ | ⟨h, -⟩ | ⟨h, -⟩ | ⟨h, -⟩
    · exact e
    · rw [h] at hm; cases hm
    · rw [h] at hm; cases hm
    · rw [h] at hm; cases hm
  have kept := (keepSample_cases u (enterFaultFlash (recordFinding u ⟨.plug, 0, 0⟩))).resolve_left fun x => by
    rw [hn] at x; cases x.1
  obtain ⟨r, m, e, first, -⟩ := recordFinding_cases u ⟨.plug, 0, 0⟩
  rw [notice, kept.2]
  have unit := enterFaultFlash_unit (recordFinding u ⟨.plug, 0, 0⟩)
  have record := enterFaultFlash_record (recordFinding u ⟨.plug, 0, 0⟩)
  have chans := (enterFaultFlash_stands (recordFinding u ⟨.plug, 0, 0⟩)).chans
  have written : (recordFinding u ⟨.plug, 0, 0⟩).mon.record = some ⟨.plug, 0, 0, u.time.tenth, u.unit.mode, false⟩ := by
    rw [e, ← first hr]
  have same (c : Chan) : (recordFinding u ⟨.plug, 0, 0⟩).chan c = u.chan c := by rw [e]; rfl
  generalize enterFaultFlash (recordFinding u ⟨.plug, 0, 0⟩) = v at *
  have mode : v.unit.mode = .faultFlash := by rw [unit]
  generalize hw : ({ v with mon := _ } : State) = w
  have w1 : w.unit.mode = .faultFlash := by rw [← hw]; exact mode
  have stands := (settle_mon old w).resolve_right fun x => by rw [w1] at x; cases x.1
  refine ⟨_, rfl, by rw [stands.2]; exact w1, ?_, ?_, ?_, fun c => ?_⟩
  · rw [stands.1, ← hw]; exact record.trans written
  · rw [stands.1, ← hw]
  · rw [stands.1, ← hw]
  · rw [((settle_keeps old w).chans c).kind, ← same c, ← (chans c).kind, ← hw]
    rfl

/-- A plug notice in a FAULT_FLASH that findings of the same moment made marks their record additional (R132). -/
theorem notice_marks {u old : State} {r : FaultRecord} (hm : u.unit.mode = .faultFlash) (hf : u.mon.found = some u.time.clock)
    (hr : u.mon.record = some r) : (settle old (plugNotice .plug u)).unit.mode = .faultFlash ∧
      (settle old (plugNotice .plug u)).mon.record = some { r with additional := true } := by
  have notice : plugNotice .plug u = recordFinding u ⟨.plug, 0, 0⟩ := by
    rcases plugNotice_cases .plug u with ⟨h, -⟩ | ⟨-, -, e⟩ | ⟨h, -⟩ | ⟨h, e⟩
    · rw [hm] at h; cases h
    · exact e
    · rw [hm] at h; cases h
    · unfold plugNotice
      simp only
      rw [if_neg (by rw [h]; exact Bool.false_ne_true), if_pos ⟨hm, hf⟩]
      exact (faultNotice_cases [⟨.plug, 0, 0⟩] u).elim (fun x => absurd x.1 (List.cons_ne_nil _ _))
        (fun x => x.elim (fun y => y.2.2) (fun y => absurd hm y.2.2.1))
  obtain ⟨x, m, e, -, -⟩ := recordFinding_cases u ⟨.plug, 0, 0⟩
  have same : (plugNotice .plug u).unit = u.unit := by rw [notice, e]
  have written : (plugNotice .plug u).mon.record = some { r with additional := true } := by
    rw [notice]
    exact recordFindings_full [⟨.plug, 0, 0⟩] u hr
  exact ⟨by rw [settle_unit_same (by rw [same, hm]; exact nofun), same, hm], (settle_keeps _ _).record.trans written⟩

/-- Settles O23. -/
theorem monitorFault : Obligations.MonitorFault := by
  refine ⟨fun sense s report n h hm hc hn h1 h2 => ?_, fun sense s report c h hm hk h2 h1 h0 hw => ?_,
    fun sense s report c h hm h2 h23 => ?_, fun sense s report h hb hm => ?_,
    fun sense cells s report k old c h hr hm hk hp ho hcells hs moment clock kind h2 h1 h0 hw => ?_⟩
  · have powered : s.unit.mode ≠ .powerOut := fun e => by rw [e] at hm; cases hm
    have other : s.unit.mode ≠ .faultFlash := fun e => by rw [e] at hm; cases hm
    obtain ⟨f, fs, e⟩ := first_of_mem (conflict_found (s := s.sampledAt) (report := report) hc hn h1 h2)
    have list : (judgeSample s.sampledAt sense report).2 = f :: (fs ++ channelFindings s.sampledAt sense report) := by
      rw [judgeSample_findings, if_pos (show s.sampledAt.unit.mode.isControl = true from hm), e, List.cons_append]
    have cause : f.cause = .conflict := by
      have mem : f ∈ conflictFindings s.sampledAt.mon.conflicts (conflictCounts s.sampledAt sense report) := by rw [e]; simp
      obtain ⟨m, -, -, e⟩ := conflictFindings_mem.mp mem
      rw [e]
    obtain ⟨t, ran, inFault, -, -, -, record⟩ := sample_faults h powered other list
    refine ⟨t, ran, inFault, fun none => ?_⟩
    obtain ⟨more, e⟩ := record none
    exact ⟨_, e, cause, rfl, rfl⟩
  · have powered : s.unit.mode ≠ .powerOut := fun e => by rw [e] at hm; cases hm
    have other : s.unit.mode ≠ .faultFlash := fun e => by rw [e] at hm; cases hm
    have short := short_clearance (s := s.sampledAt) (report := report) hm hk h2 h1 h0 hw
    have mem : (⟨.clearance, number c, 0⟩ : Finding) ∈ (judgeSample s.sampledAt sense report).2 := by
      rw [judgeSample_findings, List.mem_append]
      exact .inr (channelFindings_mem.mpr ⟨c, short⟩)
    obtain ⟨f, fs, list⟩ := first_of_mem mem
    have cause := control_findings (s := s.sampledAt) (sense := sense) (report := report) (f := f) hm (by rw [list]; simp)
    obtain ⟨t, ran, inFault, -, -, -, record⟩ := sample_faults h powered other list
    refine ⟨t, ran, inFault, fun none => ?_⟩
    obtain ⟨more, e⟩ := record none
    exact ⟨_, e, cause, rfl, rfl⟩
  · obtain ⟨f, fs, list, cause, first⟩ := flashGreen_found (s := s.sampledAt) (report := report) hm h2 h23
    obtain ⟨t, ran, inFault, -, -, -, record⟩ := sample_faults h (by rw [hm]; exact nofun) (by rw [hm]; exact nofun) list
    refine ⟨t, ran, inFault, fun none => ?_⟩
    obtain ⟨more, e⟩ := record none
    exact ⟨_, e, cause, first, rfl, hm⟩
  · have powered : s.unit.mode ≠ .powerOut := by rcases hm with e | e <;> rw [e] <;> exact nofun
    have clearing : s.unit.mode ≠ .clearingToFlash := by rcases hm with e | e <;> rw [e] <;> exact nofun
    refine ⟨_, exec_monitorSample h powered, ?_⟩
    have beside : besideFindings s.sampledAt sense report = [] := by
      change (match s.mon.beside with | none => _ | some b => _) = _
      rw [hb]
    rw [flash_findings (s := s.sampledAt) hm, beside, List.append_nil]
    obtain ⟨unit, -⟩ := judgeSample_blocks s.sampledAt sense report
    have record := (judgeSample_stands s.sampledAt sense report).2
    generalize (judgeSample s.sampledAt sense report).1 = j at *
    obtain ⟨k, e, -⟩ := monitorNotice_eq [] j
    have idle : faultNotice [] j = j := rfl
    have same : (monitorNotice [] j).unit = s.unit := by rw [e, idle]; exact unit
    have written : (monitorNotice [] j).mon.record = s.mon.record := by rw [e, idle]; exact record
    exact ⟨by rw [settle_unit_same (by rw [same]; exact clearing), same], (settle_keeps _ _).record.trans written⟩
  · have powered : s.unit.mode ≠ .powerOut := fun e => by rw [e] at hm; cases hm
    have other : s.unit.mode ≠ .faultFlash := fun e => by rw [e] at hm; cases hm
    have one : max s.time.clock (s.compat.readStart + Config.readMicros) = s.time.lastCrossing + Config.monitorDelay := by
      simp only [Config.readMicros, Config.monitorDelay]
      omega
    have two : max s.time.clock (s.time.lastCrossing + Config.monitorDelay) = s.time.lastCrossing + Config.monitorDelay := by
      simp only [Config.monitorDelay]
      omega
    refine ⟨?_, ?_⟩
    · obtain ⟨u, ran, p, m, e⟩ := absent_read hk hp ho hcells hs
      have now : u.sampleNow = true := by
        rw [e]
        change (s.mon.awaiting.isSome && s.time.lastCrossing + Config.monitorDelay ==
          max s.time.clock (s.compat.readStart + Config.readMicros)) = true
        rw [one, h]
        simp
      obtain ⟨t, settled, mode, record, awaiting, beside, kinds⟩ := notice_keeps_sample
        (old := { s with time := s.time.seen (s.compat.readStart + Config.readMicros) })
        (u := u) (by rw [e]; exact hm) (by rw [e]; exact hr) now
      rw [settled] at ran
      have found : besideFindings t.sampledAt sense report ≠ [] := by
        change (match t.mon.beside with | none => _ | some b => _) ≠ _
        rw [beside]
        have short := short_clearance (sense := sense) (report := report) (c := c) (s := { t.sampledAt with
          unit := { t.sampledAt.unit with mode := u.unit.mode }
          mon := { t.sampledAt.mon with conflicts := u.mon.conflicts, channels := u.mon.channels } })
          (by rw [e]; exact hm) (by change (t.chan c).kind = _; rw [kinds, e]; exact kind) h2 h1 h0
          (.inl (by rw [e]; exact hw))
        refine List.ne_nil_of_mem (a := ⟨.clearance, number c, 0⟩) ?_
        simp only
        rw [judgeSample_findings, List.mem_append]
        exact .inr (channelFindings_mem.mpr ⟨c, short⟩)
      obtain ⟨v, ran', mode', marked⟩ := beside_marks (s := t) (by rw [awaiting, e]; exact h) mode record found
      refine ⟨t, v, ran, ran', mode', ?_⟩
      rw [marked, e]
      rfl
    · have short := short_clearance (s := s.sampledAt) (report := report) hm kind h2 h1 h0 (.inl hw)
      have mem : (⟨.clearance, number c, 0⟩ : Finding) ∈ (judgeSample s.sampledAt sense report).2 := by
        rw [judgeSample_findings, List.mem_append]
        exact .inr (channelFindings_mem.mpr ⟨c, short⟩)
      obtain ⟨f, fs, list⟩ := first_of_mem mem
      have cause := control_findings (s := s.sampledAt) (sense := sense) (report := report) (f := f) hm (by rw [list]; simp)
      obtain ⟨t, ran, inFault, time, found, compat, record⟩ := sample_faults h powered other list
      obtain ⟨more, written⟩ := record hr
      obtain ⟨u, ran', p, m, e⟩ := absent_read (cells := cells) (s := t) (by rw [compat]; exact hk) (by rw [compat]; exact hp) ho
        hcells (by rw [compat]; exact hs)
      have now : u.mon.found = some u.time.clock := by
        rw [e]
        change t.mon.found = some (max t.time.clock (t.compat.readStart + Config.readMicros))
        rw [found hm, time, compat]
        change some (max s.time.clock (s.time.lastCrossing + Config.monitorDelay)) =
          some (max (max s.time.clock (s.time.lastCrossing + Config.monitorDelay)) (s.compat.readStart + Config.readMicros))
        rw [two, ← one, max_eq_left (le_max_right _ _)]
      obtain ⟨mode, marked⟩ := notice_marks (u := u) (old := { t with time := t.time.seen (t.compat.readStart + Config.readMicros) })
        (by rw [e]; exact inFault.mode.1) now (by rw [e]; exact written)
      exact ⟨t, _, _, ran, ran', written, cause, mode, marked⟩

end Sys2Proof.Machine

/-! PROOFS. A completed plug read: the notice, the replacement and the status (O26). -/

namespace Sys2Proof.Machine

/-! ### The notice (R29) -/

/-- What a Compatibility notice leaves. -/
structure NoticeTaken (k : FaultCause) (s t : State) : Prop where
  after : Aftermath s t
  compat : t.compat = { s.compat with owed := t.compat.owed }
  owed : t.compat.owed =
    if s.unit.mode = .powerOut ∧ s.standingMode.isControl = true then s.compat.owed.or (some k) else s.compat.owed
  queue : t.seq.queue = s.seq.queue ∧ t.seq.pruned = s.seq.pruned
  fault : s.unit.mode.isControl = true → t.InFaultFlash ∧
    (s.mon.record = none → t.mon.record = some ⟨k, 0, 0, s.time.tenth, s.unit.mode, false⟩)
  calm : s.unit.mode.isControl = false → t.unit = s.unit ∧ (s.unit.mode ≠ .faultFlash → t.mon.record = s.mon.record)

theorem recordFinding_taken {k : FaultCause} {s : State} (hm : s.unit.mode ≠ .powerOut)
    (hf : s.unit.mode.isControl = true → False) (hn : s.unit.mode = .faultFlash) :
    NoticeTaken k s (recordFinding s ⟨k, 0, 0⟩) := by
  have after := recordFindings_after [⟨k, 0, 0⟩] s
  obtain ⟨r, m, e, -⟩ := recordFinding_cases s ⟨k, 0, 0⟩
  change Aftermath s (recordFinding s ⟨k, 0, 0⟩) at after
  rw [e] at after ⊢
  exact ⟨after, rfl, by rw [if_neg (fun x => hm x.1)], ⟨rfl, rfl⟩, fun c => (hf c).elim, fun _ => ⟨rfl, fun c => absurd hn c⟩⟩

theorem entered_taken {k : FaultCause} {s t : State} (hm : s.unit.mode.isControl = true)
    (he : t = enterFaultFlash (recordFinding s ⟨k, 0, 0⟩) ∨ ∃ a b, t = { enterFaultFlash (recordFinding s ⟨k, 0, 0⟩) with
      mon := { (enterFaultFlash (recordFinding s ⟨k, 0, 0⟩)).mon with awaiting := a, beside := b } }) :
    NoticeTaken k s t := by
  have out : s.unit.mode ≠ .powerOut := fun e => by rw [e] at hm; cases hm
  have recorded := recordFindings_after [⟨k, 0, 0⟩] s
  change Aftermath s (recordFinding s ⟨k, 0, 0⟩) at recorded
  have after := recorded.trans (enterFaultFlash_after (recordFinding s ⟨k, 0, 0⟩))
  obtain ⟨r, m, e, first, full⟩ := recordFinding_cases s ⟨k, 0, 0⟩
  have compat := enterFaultFlash_compat (recordFinding s ⟨k, 0, 0⟩)
  have record := enterFaultFlash_record (recordFinding s ⟨k, 0, 0⟩)
  have written : (recordFinding s ⟨k, 0, 0⟩).mon.record ≠ none := by rw [e]; exact nofun
  have inFault := enterFaultFlash_inFault written
  have queue : (enterFaultFlash (recordFinding s ⟨k, 0, 0⟩)).seq.queue = s.seq.queue ∧
      (enterFaultFlash (recordFinding s ⟨k, 0, 0⟩)).seq.pruned = s.seq.pruned := by
    obtain ⟨-, -, -, -, -, -, seq⟩ := handForced_blocks (recordFinding s ⟨k, 0, 0⟩)
      (changeMode .faultFlash (doused (recordFinding s ⟨k, 0, 0⟩)))
    obtain ⟨-, -, step, -⟩ := doused_blocks (recordFinding s ⟨k, 0, 0⟩)
    rw [enterFaultFlash_eq, seq, changeMode_seq, step, e]
    exact ⟨rfl, rfl⟩
  have fresh : s.mon.record = none →
      (enterFaultFlash (recordFinding s ⟨k, 0, 0⟩)).mon.record = some ⟨k, 0, 0, s.time.tenth, s.unit.mode, false⟩ := fun none => by
    rw [record, e, ← first none]
  have same : (enterFaultFlash (recordFinding s ⟨k, 0, 0⟩)).compat = s.compat := by rw [compat, e]
  generalize enterFaultFlash (recordFinding s ⟨k, 0, 0⟩) = v at *
  rcases he with rfl | ⟨a, b, rfl⟩
  · exact ⟨after, by rw [same], by rw [same, if_neg (fun x => out x.1)], queue, fun _ => ⟨inFault, fresh⟩,
      fun c => by rw [hm] at c; cases c⟩
  · refine ⟨{ after with }, ?_, ?_, queue, fun _ => ⟨{ inFault with }, fresh⟩, fun c => by rw [hm] at c; cases c⟩
    · change v.compat = { s.compat with owed := v.compat.owed }
      rw [same]
    · change v.compat.owed = _
      rw [same, if_neg (fun x => out x.1)]

theorem plugNotice_taken (k : FaultCause) (s : State) : NoticeTaken k s (plugNotice k s) := by
  by_cases owes : s.unit.mode = .powerOut ∧ s.standingMode.isControl = true
  · rw [plugNotice_owes owes.1 owes.2]
    have out : s.unit.mode.isControl = false := by rw [owes.1]; rfl
    exact ⟨{ Aftermath.refl s with }, rfl, by rw [if_pos owes], ⟨rfl, rfl⟩, fun c => (by rw [out] at c; cases c),
      fun _ => ⟨rfl, fun _ => rfl⟩⟩
  rcases plugNotice_cases k s with ⟨hm, e⟩ | ⟨hm, -, e⟩ | ⟨hm, hs, e⟩ | ⟨hm, e⟩
  · rw [e]
    refine entered_taken hm ?_
    rcases keepSample_cases s (enterFaultFlash (recordFinding s ⟨k, 0, 0⟩)) with ⟨-, h⟩ | ⟨-, h⟩
    · exact .inl h
    · exact .inr ⟨_, _, h⟩
  · rw [e]
    exact recordFinding_taken (by rw [hm]; exact nofun) (fun c => by rw [hm] at c; cases c) hm
  · exact absurd ⟨hm, hs⟩ owes
  · rw [e]
    exact ⟨.refl s, rfl, by rw [if_neg owes], ⟨rfl, rfl⟩, fun c => (by rw [hm] at c; cases c), fun _ => ⟨rfl, fun _ => rfl⟩⟩

end Sys2Proof.Machine

/-! PROOFS. A completed plug read through its settling (O26). -/

namespace Sys2Proof.Machine

/-! ### The replacement (R26 to R28) -/

/-- What a replaced table leaves before its notice. -/
structure Retabled (t : PairTable) (s v : State) : Prop where
  compat : v.compat = { s.compat with inUse := t, isMatch := s.compat.hostCopy == some t }
  queue : v.seq.queue = s.seq.queue.filter fun r => pairwiseCompatible t r.greenSet
  pruned : v.seq.queue.length < s.seq.queue.length → v.seq.pruned = true ∧ has v.link.flags Report.stage.index = true
  cfg : ∀ p, (v.pre p).cfg = { (s.pre p).cfg with
    enable := (s.pre p).cfg.enable && pairwiseCompatible t (s.pre p).cfg.trackSet && pairwiseCompatible t (s.pre p).cfg.dwellSet }
  unit : v.unit = s.unit
  record : v.mon.record = s.mon.record
  flags : FlagsStay s v

theorem prune_leaves (s : State) : (prune s).pres = s.pres ∧ (prune s).compat = s.compat ∧ FlagsStay s (prune s) ∧
    ((prune s).seq.queue.length < s.seq.queue.length →
      (prune s).seq.pruned = true ∧ has (prune s).link.flags Report.stage.index = true) := by
  have queue := prune_queue s
  by_cases h : (prunedQueue s.compat.inUse s.seq.queue).length = s.seq.queue.length
  · have e : prune s = s := if_pos h
    rw [e]
    exact ⟨rfl, rfl, fun _ => id, fun k => absurd k (lt_irrefl _)⟩
  · unfold prune
    simp only [if_neg h]
    refine ⟨?_, ?_, fun i k => ?_, fun _ => ⟨rfl, ?_⟩⟩
    · split <;> rfl
    · split <;> rfl
    · have same : (if (s.seq.current && !keepsPosition s.compat.inUse s.seq.queue s.seq.position) = true then dropCurrent s
          else s).link = s.link := by split <;> rfl
      simp only [flag_link, same, has_insertBit, k, Bool.true_or]
    · simp [flag_link]

theorem checkPreempts_leaves (s : State) : (checkPreempts s).compat = s.compat ∧ (checkPreempts s).seq = s.seq ∧
    FlagsStay s (checkPreempts s) ∧ ∀ p, ((checkPreempts s).pre p).cfg = { (s.pre p).cfg with
      enable := (s.pre p).cfg.enable && pairwiseCompatible s.compat.inUse (s.pre p).cfg.trackSet &&
        pairwiseCompatible s.compat.inUse (s.pre p).cfg.dwellSet } := by
  have cfg (p : Pre) (r : Preempt) (h : r = if (s.pre p).losesEnable s.compat.inUse then (s.pre p).disabled else s.pre p) :
      r.cfg = { (s.pre p).cfg with
        enable := (s.pre p).cfg.enable && pairwiseCompatible s.compat.inUse (s.pre p).cfg.trackSet &&
          pairwiseCompatible s.compat.inUse (s.pre p).cfg.dwellSet } := by
    rw [h, Preempt.losesEnable]
    generalize s.pre p = q
    have enable (b : Bool) (k : b = (q.cfg.enable && pairwiseCompatible s.compat.inUse q.cfg.trackSet &&
        pairwiseCompatible s.compat.inUse q.cfg.dwellSet)) : ({ q.cfg with enable := b } : PreemptConfig) = { q.cfg with
          enable := q.cfg.enable && pairwiseCompatible s.compat.inUse q.cfg.trackSet &&
            pairwiseCompatible s.compat.inUse q.cfg.dwellSet } := by rw [k]
    split
    · next k =>
      refine enable false ?_
      revert k
      cases q.cfg.enable <;> cases pairwiseCompatible s.compat.inUse q.cfg.trackSet <;>
        cases pairwiseCompatible s.compat.inUse q.cfg.dwellSet <;> simp
    · next k =>
      refine enable q.cfg.enable ?_
      revert k
      cases q.cfg.enable <;> cases pairwiseCompatible s.compat.inUse q.cfg.trackSet <;>
        cases pairwiseCompatible s.compat.inUse q.cfg.dwellSet <;> simp
  unfold checkPreempts
  simp only
  split
  · next h =>
    refine ⟨rfl, rfl, fun _ => id, fun p => cfg p _ ?_⟩
    have one := has_maskOf (fun p => (s.pre p).losesEnable s.compat.inUse) p
    have none : has (0 : BitVec 4) p = false := has_zero p
    rw [h, none] at one
    rw [← one]
    rfl
  · refine ⟨rfl, rfl, fun i k => by rw [flag_link]; simp [k], fun p => cfg p _ ?_⟩
    rw [State.pre, flag_pres, vmap_get, has_maskOf]
    rfl

theorem recomputeMatch_leaves (s : State) : FlagsStay s (recomputeMatch s) ∧
    (recomputeMatch s).compat = { s.compat with isMatch := s.compat.hostCopy == some s.compat.inUse } ∧
    (recomputeMatch s).seq = s.seq ∧ (recomputeMatch s).pres = s.pres := by
  unfold recomputeMatch
  simp only [flagIf_compat, flagIf_seq, flagIf_pres]
  exact ⟨fun i k => flagIf_flags _ .status { s with compat := _ } i k, trivial, trivial, trivial⟩

theorem retabled_leaves (t : PairTable) (s : State) : Retabled t s (checkPreempts (retabled t s)) := by
  obtain ⟨-, unit, -⟩ := retabled_blocks t s
  have record := retabled_record t s
  obtain ⟨flags1, compat1, seq1, pres1⟩ := recomputeMatch_leaves { s with compat := { s.compat with inUse := t } }
  have cleared (u : State) : (clearConflicts u).compat = u.compat ∧ (clearConflicts u).seq = u.seq ∧
      (clearConflicts u).pres = u.pres ∧ (clearConflicts u).link = u.link := ⟨rfl, rfl, rfl, rfl⟩
  unfold retabled at *
  generalize recomputeMatch { s with compat := { s.compat with inUse := t } } = u at *
  obtain ⟨compat2, seq2, pres2, link2⟩ := cleared u
  generalize clearConflicts u = v at *
  obtain ⟨pres3, compat3, flags3, pruned⟩ := prune_leaves v
  have queue3 := prune_queue v
  generalize prune v = w at *
  obtain ⟨compat4, seq4, flags4, cfg⟩ := checkPreempts_leaves w
  have table : v.compat.inUse = t := by rw [compat2, compat1]
  have before : v.seq = s.seq := seq2.trans seq1
  have stay (i : Fin 9) (h : has w.link.flags i = true) : has (checkPreempts w).link.flags i = true := flags4 i h
  have pre (p : Pre) : w.pre p = s.pre p := by rw [State.pre, pres3, pres2, pres1]; rfl
  refine ⟨?_, ?_, fun h => ?_, fun p => ?_, unit, record, fun i h => flags4 i (flags3 i ?_)⟩
  · rw [compat4, compat3, compat2, compat1]
  · rw [seq4, queue3, table, before]
    rfl
  · rw [seq4] at h ⊢
    rw [before] at pruned
    obtain ⟨k1, k2⟩ := pruned h
    exact ⟨k1, stay _ k2⟩
  · rw [cfg, compat3, table, pre]
  · rw [link2]
    exact flags1 i h

end Sys2Proof.Machine

/-! PROOFS. PLUG_READ_COMPLETE and the lines of a read (O26). -/

namespace Sys2Proof.Machine

/-! ### A notice, or none, settled -/

/-- A notice of a completed read, if it gives one. -/
def noticed : Option FaultCause → State → State
  | none, s => s
  | some k, s => plugNotice k s

/-- What is left of a read's stage when its notice is given and the moment is settled. -/
structure ReadSettled (k : Option FaultCause) (v t : State) : Prop where
  compat : t.compat = { v.compat with owed := t.compat.owed }
  owed : t.compat.owed = if v.unit.mode = .powerOut ∧ v.standingMode.isControl = true then v.compat.owed.or k else v.compat.owed
  flags : FlagsStay v t
  calm : v.unit.mode = .powerOut ∨ v.unit.mode = .startFlash ∨ v.unit.mode = .localFlash →
    t.unit.mode = v.unit.mode ∧ t.mon.record = v.mon.record
  cfg : ∀ p, (t.pre p).cfg = (v.pre p).cfg
  told : ∀ c, k = some c → t.seq.queue = v.seq.queue ∧ t.seq.pruned = v.seq.pruned ∧
    (v.unit.mode.isControl = true → t.InFaultFlash ∧
      (v.mon.record = none → t.mon.record = some ⟨c, 0, 0, v.time.tenth, v.unit.mode, false⟩))

theorem settle_calm {old v : State} (h : v.unit.mode = .powerOut ∨ v.unit.mode = .startFlash ∨ v.unit.mode = .localFlash) :
    (settle old v).unit.mode = v.unit.mode ∧ (settle old v).mon.record = v.mon.record :=
  ⟨by rw [settle_unit_same (by rcases h with e | e | e <;> rw [e] <;> exact nofun)], (settle_keeps old v).record⟩

theorem read_settled (k : Option FaultCause) (old v : State) : ReadSettled k v (settle old (noticed k v)) := by
  have after := settle_after old (noticed k v)
  have kept := settle_keeps old (noticed k v)
  cases k with
  | none =>
    change ReadSettled none v (settle old v)
    refine ⟨by rw [show (settle old v).compat = v.compat from kept.compat], ?_, after.flags, settle_calm,
      fun p => (after.levels p).2.2.2.2, nofun⟩
    rw [show (settle old v).compat = v.compat from kept.compat]
    split <;> simp
  | some c =>
    change ReadSettled (some c) v (settle old (plugNotice c v))
    obtain ⟨taken, compat, owed, queue, fault, calm⟩ := plugNotice_taken c v
    have table : (settle old (plugNotice c v)).compat = (plugNotice c v).compat := kept.compat
    have quiet : (plugNotice c v).unit.mode ≠ .controlled ∧ (plugNotice c v).unit.mode ≠ .clearingToFlash := by
      cases hm : v.unit.mode.isControl
      · rw [(calm hm).1]
        exact ⟨fun e => (by rw [e] at hm; cases hm), fun e => (by rw [e] at hm; cases hm)⟩
      · rw [(fault hm).1.mode.1]
        exact ⟨nofun, nofun⟩
    have asked := settle_requested (old := old) (new := plugNotice c v) quiet.1 quiet.2
    obtain ⟨-, -, -, seq, -⟩ := asked.blocks
    refine ⟨by rw [table]; exact compat, by rw [table]; exact owed, fun i h => after.flags i (taken.flags i h), fun h => ?_,
      fun p => (after.levels p).2.2.2.2.trans (taken.levels p).2.2.2.2, fun x e => ?_⟩
    · have out : v.unit.mode.isControl = false := by rcases h with e | e | e <;> rw [e] <;> rfl
      have other : v.unit.mode ≠ .faultFlash := by rcases h with e | e | e <;> rw [e] <;> exact nofun
      obtain ⟨c1, c2⟩ := calm out
      obtain ⟨k1, k2⟩ := settle_calm (old := old) (v := plugNotice c v) (by rw [c1]; exact h)
      exact ⟨by rw [k1, c1], by rw [k2, c2 other]⟩
    · cases e
      refine ⟨by rw [seq]; exact queue.1, by rw [seq]; exact queue.2, fun hm => ?_⟩
      obtain ⟨k1, k2⟩ := fault hm
      exact ⟨k1.settled, fun none => kept.record.trans (k2 none)⟩

/-! ### The stages of a completed read (R24 to R26) -/

/-- The stage of a completed read before its notice: the read stored with a status, a count and a table. -/
structure ReadStage (k : PlugStatus) (n : Nat) (s v : State) : Prop where
  status : v.compat.status = k
  count : v.compat.disagreements = n
  owed : v.compat.owed = s.compat.owed
  reading : v.compat.reading = s.compat.reading ∧ v.compat.previous = s.compat.previous
  unit : v.unit = s.unit
  record : v.mon.record = s.mon.record
  flags : FlagsStay s v
  alarm : k ≠ s.compat.status → has v.link.flags Report.status.index = true

/-- A status and a count stored (R24, R25). -/
def withStatus (k : PlugStatus) (n : Nat) (s : State) : State :=
  setPlugStatus k { s with compat := { s.compat with disagreements := n } }

theorem withStatus_stage (k : PlugStatus) (n : Nat) (s : State) : ReadStage k n s (withStatus k n s) ∧
    (withStatus k n s).compat = { s.compat with disagreements := n, status := k } ∧
    ∃ p m, withStatus k n s = { s with compat := p, link := { s.link with flags := m } } := by
  have flags := flagIf_flags (k != s.compat.status) .status { s with
    compat := { s.compat with disagreements := n, status := k } }
  have alarm : k ≠ s.compat.status → has (flagIf (k != s.compat.status) .status { s with
      compat := { s.compat with disagreements := n, status := k } }).link.flags Report.status.index = true := fun h => by
    rw [flagIf, if_pos (bne_iff_ne.mpr h), flag_link]
    simp
  have shape : ∃ p m, flagIf (k != s.compat.status) .status { s with
      compat := { s.compat with disagreements := n, status := k } } =
      { s with compat := p, link := { s.link with flags := m } } := by
    unfold flagIf
    split
    · exact ⟨_, _, rfl⟩
    · exact ⟨_, _, rfl⟩
  have compat : (flagIf (k != s.compat.status) .status { s with
      compat := { s.compat with disagreements := n, status := k } }).compat =
      { s.compat with disagreements := n, status := k } := flagIf_compat _ _ _
  change ReadStage k n s (flagIf (k != s.compat.status) .status { s with
    compat := { s.compat with disagreements := n, status := k } }) ∧ _
  refine ⟨⟨by rw [compat], by rw [compat], by rw [compat], by rw [compat]; exact ⟨rfl, rfl⟩, ?_, ?_, flags, alarm⟩, compat, shape⟩
  · rw [flagIf_unit]
  · rw [flagIf_mon]

/-- The read stored. -/
def State.readStored (s : State) (cells : BitVec 128) : State :=
  { s with
    time := s.time.seen (s.compat.readStart + Config.readMicros)
    compat := { s.compat with reading := none, previous := some (classRead cells) } }

theorem exec_plugRead {cells : BitVec 128} {s : State} {k : Nat} (h : s.compat.reading = some k) :
    exec (.plugReadComplete cells) s =
      .next (settle { s with time := s.time.seen (s.compat.readStart + Config.readMicros) }
        (completeRead cells { s with time := s.time.seen (s.compat.readStart + Config.readMicros) })) := by
  change execPlugReadComplete cells s = _
  unfold execPlugReadComplete
  rw [h]

end Sys2Proof.Machine

/-! PROOFS. What PLUG_READ_COMPLETE does, class by class (O26). -/

namespace Sys2Proof.Machine

/-- What every completed read leaves, by the status, the count and the notice that its class gives (R24, R25, R29). -/
structure ReadDone (cells : BitVec 128) (k : Option FaultCause) (st : PlugStatus) (n : Nat) (s t : State) : Prop where
  read : t.compat.reading = none ∧
    t.compat.previous = some ⟨decide (cells.extractLsb' 120 8 = 0b01001101#8), cells.extractLsb' 0 120⟩
  status : t.compat.status = st
  count : t.compat.disagreements = n
  owed : t.compat.owed = if s.unit.mode = .powerOut ∧ s.standingMode.isControl = true then s.compat.owed.or k else s.compat.owed
  alarm : st ≠ s.compat.status → has t.link.flags Report.status.index = true
  calm : s.unit.mode = .powerOut ∨ s.unit.mode = .startFlash ∨ s.unit.mode = .localFlash →
    t.unit.mode = s.unit.mode ∧ t.mon.record = s.mon.record

theorem read_done {cells : BitVec 128} {k : Option FaultCause} {st : PlugStatus} {n : Nat} {s v t : State}
    (stage : ReadStage st n (s.readStored cells) v) (h : ReadSettled k v t) : ReadDone cells k st n s t := by
  have unit : v.unit = s.unit := stage.unit
  have standing : v.standingMode = s.standingMode := by rw [State.standingMode, State.standingMode, unit]
  refine ⟨?_, ?_, ?_, ?_, fun a => h.flags _ (stage.alarm a), fun m => ?_⟩
  · rw [h.compat]
    exact stage.reading
  · rw [h.compat]; exact stage.status
  · rw [h.compat]; exact stage.count
  · rw [h.owed, unit, standing, stage.owed]
    rfl
  · obtain ⟨k1, k2⟩ := h.calm (by rw [unit]; exact m)
    exact ⟨k1.trans (by rw [unit]), k2.trans stage.record⟩

/-- The claims of every read from the facts. -/
theorem ReadDone.rest {cells : BitVec 128} {k : Option FaultCause} {st : PlugStatus} {n : Nat} {s t : State}
    (h : ReadDone cells k st n s t) : (t.compat.status ≠ s.compat.status → has t.link.flags Report.status.index = true) ∧
    (s.unit.mode = .powerOut → s.standingMode.isControl = true →
      t.unit.mode = .powerOut ∧ t.mon.record = s.mon.record ∧ t.compat.owed = s.compat.owed.or k) ∧
    ((s.unit.mode = .startFlash ∨ s.unit.mode = .localFlash) →
      t.unit.mode = s.unit.mode ∧ t.mon.record = s.mon.record ∧ t.compat.owed = s.compat.owed) := by
  refine ⟨fun a => h.alarm (by rw [← h.status]; exact a), fun m c => ?_, fun m => ?_⟩
  · obtain ⟨k1, k2⟩ := h.calm (.inl m)
    exact ⟨k1.trans m, k2, by rw [h.owed, if_pos ⟨m, c⟩]⟩
  · obtain ⟨k1, k2⟩ := h.calm (.inr m)
    have out : ¬ (s.unit.mode = .powerOut ∧ s.standingMode.isControl = true) := by
      rintro ⟨e, -⟩
      rcases m with m | m <;> rw [m] at e <;> cases e
    exact ⟨k1, k2, by rw [h.owed, if_neg out]⟩

theorem ReadStage.refl {k : PlugStatus} {n : Nat} {s : State} (h : s.compat.status = k) (h' : s.compat.disagreements = n) :
    ReadStage k n s s := ⟨h, h', rfl, ⟨rfl, rfl⟩, rfl, rfl, fun _ => id, fun a => absurd h.symm a⟩

/-- The replacement that a confirmed content makes. -/
theorem ReadStage.retabled {k : PlugStatus} {n : Nat} {s v w : State} {t : PairTable} (h : ReadStage k n s v)
    (r : Retabled t v w) : ReadStage k n s w := by
  refine ⟨by rw [r.compat]; exact h.status, by rw [r.compat]; exact h.count, by rw [r.compat]; exact h.owed,
    by rw [r.compat]; exact h.reading, r.unit.trans h.unit, r.record.trans h.record, fun i e => r.flags i (h.flags i e),
    fun a => r.flags _ (h.alarm a)⟩

/-! ### The classes (R23 to R25) -/

theorem completeRead_first {cells : BitVec 128} {s : State} (h : s.compat.previous = none) :
    completeRead cells { s with time := s.time.seen (s.compat.readStart + Config.readMicros) } =
      noticed none (s.readStored cells) := by
  unfold completeRead
  simp only [h]
  rfl

theorem completeRead_agreed {cells : BitVec 128} {s : State} {old : PlugRead} (h : s.compat.previous = some old)
    (hc : (classRead cells).coded = true) (ho : old.coded = true) (hp : old.pairs = (classRead cells).pairs) :
    completeRead cells { s with time := s.time.seen (s.compat.readStart + Config.readMicros) } =
      if (classRead cells).pairs = s.compat.inUse then noticed none (withStatus .valid 0 (s.readStored cells))
      else noticed (some .plugChanged) (checkPreempts (retabled (classRead cells).pairs
        (withStatus .valid 0 (s.readStored cells)))) := by
  have agreed : agree (classRead cells) old = true := by rw [agree, hc, ho, hp]; simp
  have table : (withStatus .valid 0 (s.readStored cells)).compat.inUse = s.compat.inUse := by
    rw [(withStatus_stage .valid 0 (s.readStored cells)).2.1]
    rfl
  unfold completeRead
  simp only [h, agreed, if_true]
  unfold confirmRead
  simp only [hc, if_true]
  change applyContent _ (withStatus .valid 0 (s.readStored cells)) = _
  unfold applyContent
  rw [table]
  rfl

theorem completeRead_bad {cells : BitVec 128} {s : State} {old : PlugRead} (h : s.compat.previous = some old)
    (hc : (classRead cells).coded = false) (ho : old.coded = false) :
    completeRead cells { s with time := s.time.seen (s.compat.readStart + Config.readMicros) } =
      noticed (if s.compat.status = .absent then none else some .plug) (withStatus .absent 0 (s.readStored cells)) := by
  have agreed : agree (classRead cells) old = true := by rw [agree, hc, ho]; rfl
  unfold completeRead
  simp only [h, agreed, if_true]
  unfold confirmRead
  simp only [hc, Bool.false_eq_true, if_false]
  change (if s.compat.status = .absent then withStatus .absent 0 (s.readStored cells)
    else plugNotice .plug (withStatus .absent 0 (s.readStored cells))) = _
  split <;> rfl

/-- The stage of a read that disagrees with the one before (R24, R25). -/
def disagreed (s : State) : State :=
  if 5 ≤ s.compat.disagreements then s
  else if s.compat.disagreements = 4 then withStatus .unstable 5 s
  else { s with compat := { s.compat with disagreements := s.compat.disagreements + 1 } }

theorem completeRead_apart {cells : BitVec 128} {s : State} {old : PlugRead} (h : s.compat.previous = some old)
    (ha : agree (classRead cells) old = false) :
    completeRead cells { s with time := s.time.seen (s.compat.readStart + Config.readMicros) } =
      noticed (if s.compat.disagreements = 4 then some .plug else none) (disagreed (s.readStored cells)) := by
  unfold completeRead
  simp only [h, ha, Bool.false_eq_true, if_false]
  change disagreeRead (s.readStored cells) = _
  have same : (s.readStored cells).compat.disagreements = s.compat.disagreements := rfl
  unfold disagreeRead disagreed
  simp only [same, Config.disagreementLimit]
  by_cases h5 : 5 ≤ s.compat.disagreements
  · have : s.compat.disagreements ≠ 4 := by omega
    simp only [if_pos h5, if_neg this]
    rfl
  · by_cases h4 : s.compat.disagreements = 4
    · simp only [h4]
      rfl
    · have : s.compat.disagreements + 1 ≠ 5 := by omega
      simp only [if_neg h5, if_neg h4, if_neg this]
      rfl

theorem disagreed_stage (s : State) : ReadStage (if s.compat.disagreements = 4 then .unstable else s.compat.status)
    (if s.compat.disagreements < 5 then s.compat.disagreements + 1 else s.compat.disagreements) s (disagreed s) ∧
    (disagreed s).compat.inUse = s.compat.inUse := by
  unfold disagreed
  by_cases h5 : 5 ≤ s.compat.disagreements
  · have h4 : s.compat.disagreements ≠ 4 := by omega
    simp only [if_pos h5, if_neg h4, if_neg (Nat.not_lt.mpr h5)]
    exact ⟨.refl rfl rfl, trivial⟩
  · by_cases h4 : s.compat.disagreements = 4
    · simp only [h4]
      obtain ⟨stage, compat, -⟩ := withStatus_stage .unstable 5 s
      exact ⟨stage, by change (withStatus .unstable 5 s).compat.inUse = _; rw [compat]⟩
    · simp only [if_neg h5, if_neg h4, if_pos (Nat.not_le.mp h5)]
      exact ⟨⟨rfl, rfl, rfl, ⟨rfl, rfl⟩, rfl, rfl, fun _ => id, fun a => absurd rfl a⟩, trivial⟩

/-! ### The lines of a read (R22) -/

theorem plug_lines (c : Compat) (n r : Nat) (hr : r < 50) :
    (c.pldAt (c.readStart + 50 * n + r) = true ↔ n = 0) ∧
    (c.pckAt (c.readStart + 50 * n + r) false = true ↔ 1 ≤ n ∧ n ≤ 128) ∧ c.pckAt (c.readStart + 50 * n + r) true = false ∧
    (c.reading = some 0 → n < 128 → c.cellsAt (c.readStart + 50 * n + r) = some n) := by
  have period : c.plugPeriodAt (c.readStart + 50 * n + r) = n := by
    unfold Compat.plugPeriodAt Config.plugPeriod
    omega
  refine ⟨?_, ?_, ?_, fun h k => ?_⟩
  · rw [Compat.pldAt, period, beq_iff_eq]
  · rw [Compat.pckAt, period]
    simp only [Bool.and_eq_true, decide_eq_true_eq, Bool.not_false, and_true]
    exact Iff.rfl
  · rw [Compat.pckAt, period]
    simp
  · rw [Compat.cellsAt, period, h]
    simp only [Option.map_some, Config.plugCells]
    congr 1
    omega

/-! ### O26 -/

/-- Two coded reads with the same content (R24, R26). -/
theorem agreed_read {cells : BitVec 128} {s : State} {old : PlugRead} (o : State) (hp : s.compat.previous = some old)
    (hc : (classRead cells).coded = true) (h1 : old.coded = true) (h2 : old.pairs = (classRead cells).pairs) :
    let content := (classRead cells).pairs
    let t := settle o (completeRead cells { s with time := s.time.seen (s.compat.readStart + Config.readMicros) })
    ReadDone cells (if content = s.compat.inUse then none else some .plugChanged) .valid 0 s t ∧
    t.compat.inUse = content ∧ (content = s.compat.inUse → t.compat.isMatch = s.compat.isMatch) ∧
    (content ≠ s.compat.inUse →
      t.compat.isMatch = (s.compat.hostCopy == some content) ∧
      t.seq.queue = s.seq.queue.filter (fun r => pairwiseCompatible content r.greenSet) ∧
      (t.seq.queue.length < s.seq.queue.length → t.seq.pruned = true ∧ has t.link.flags Report.stage.index = true) ∧
      (∀ p, (t.pre p).cfg = { (s.pre p).cfg with
        enable := (s.pre p).cfg.enable && pairwiseCompatible content (s.pre p).cfg.trackSet &&
          pairwiseCompatible content (s.pre p).cfg.dwellSet }) ∧
      (s.unit.mode.isControl = true → t.InFaultFlash ∧
        (s.mon.record = none → ∃ r, t.mon.record = some r ∧ r.cause = .plugChanged ∧ r.first = 0 ∧ r.second = 0))) := by
  intro content
  rw [completeRead_agreed hp hc h1 h2]
  obtain ⟨stage, compat, p, m, shape⟩ := withStatus_stage .valid 0 (s.readStored cells)
  by_cases hi : content = s.compat.inUse
  · rw [if_pos (show (classRead cells).pairs = s.compat.inUse from hi), if_pos hi]
    have settled := read_settled none o (withStatus .valid 0 (s.readStored cells))
    have done := read_done stage settled
    generalize settle o (noticed none (withStatus .valid 0 (s.readStored cells))) = t at *
    refine ⟨done, ?_, fun _ => ?_, fun k => absurd hi k⟩
    · rw [settled.compat, compat]; exact hi.symm
    · rw [settled.compat, compat]; rfl
  · rw [if_neg (show ¬ (classRead cells).pairs = s.compat.inUse from hi), if_neg hi]
    have replaced := retabled_leaves (classRead cells).pairs (withStatus .valid 0 (s.readStored cells))
    have same : (withStatus .valid 0 (s.readStored cells)).seq = s.seq ∧
        (withStatus .valid 0 (s.readStored cells)).pres = s.pres := by rw [shape]; exact ⟨rfl, rfl⟩
    generalize withStatus .valid 0 (s.readStored cells) = u at *
    generalize checkPreempts (retabled (classRead cells).pairs u) = v at *
    have settled := read_settled (some .plugChanged) o v
    have stage' := stage.retabled replaced
    have done := read_done stage' settled
    generalize settle o (noticed (some .plugChanged) v) = t at *
    obtain ⟨queue, pruned, fault⟩ := settled.told .plugChanged rfl
    have pre (p : Pre) : u.pre p = s.pre p := by rw [State.pre, same.2]; rfl
    have unit : v.unit = s.unit := stage'.unit
    refine ⟨done, ?_, fun k => absurd k hi, fun _ => ⟨?_, ?_, fun l => ?_, fun p => ?_, fun m => ?_⟩⟩
    · rw [settled.compat, replaced.compat]
    · rw [settled.compat, replaced.compat, compat]
      rfl
    · rw [queue, replaced.queue, same.1]
    · rw [queue] at l
      obtain ⟨k1, k2⟩ := replaced.pruned (by rw [same.1]; exact l)
      exact ⟨pruned.trans k1, settled.flags _ k2⟩
    · rw [settled.cfg, replaced.cfg, pre]
    · obtain ⟨k1, k2⟩ := fault (by rw [unit]; exact m)
      exact ⟨k1, fun none => ⟨_, k2 (stage'.record.trans none), rfl, rfl, rfl⟩⟩

/-- Two bad codes in a row (R24, R25). -/
theorem bad_read {cells : BitVec 128} {s : State} {old : PlugRead} (o : State) (hp : s.compat.previous = some old)
    (hc : (classRead cells).coded = false) (h1 : old.coded = false) :
    let t := settle o (completeRead cells { s with time := s.time.seen (s.compat.readStart + Config.readMicros) })
    ReadDone cells (if s.compat.status = .absent then none else some .plug) .absent 0 s t ∧
    t.compat.inUse = s.compat.inUse ∧ (s.compat.status ≠ .absent → s.unit.mode.isControl = true → t.InFaultFlash ∧
      (s.mon.record = none → ∃ r, t.mon.record = some r ∧ r.cause = .plug)) := by
  rw [completeRead_bad hp hc h1]
  obtain ⟨stage, compat, -⟩ := withStatus_stage .absent 0 (s.readStored cells)
  have settled := read_settled (if s.compat.status = .absent then none else some .plug) o
    (withStatus .absent 0 (s.readStored cells))
  have done := read_done stage settled
  refine ⟨done, by rw [settled.compat, compat]; rfl, fun a m => ?_⟩
  obtain ⟨-, -, fault⟩ := settled.told .plug (if_neg a)
  obtain ⟨k1, k2⟩ := fault (by rw [stage.unit]; exact m)
  exact ⟨k1, fun none => ⟨_, k2 (stage.record.trans none), rfl⟩⟩

/-- A read that disagrees with the one before (R24, R25). -/
theorem apart_read {cells : BitVec 128} {s : State} {old : PlugRead} (o : State) (hp : s.compat.previous = some old)
    (ha : agree (classRead cells) old = false) :
    let t := settle o (completeRead cells { s with time := s.time.seen (s.compat.readStart + Config.readMicros) })
    ReadDone cells (if s.compat.disagreements = 4 then some .plug else none)
      (if s.compat.disagreements = 4 then .unstable else s.compat.status)
      (if s.compat.disagreements < 5 then s.compat.disagreements + 1 else s.compat.disagreements) s t ∧
    t.compat.inUse = s.compat.inUse ∧ (s.compat.disagreements = 4 → s.unit.mode.isControl = true → t.InFaultFlash ∧
      (s.mon.record = none → ∃ r, t.mon.record = some r ∧ r.cause = .plug)) := by
  rw [completeRead_apart hp ha]
  obtain ⟨stage, table⟩ := disagreed_stage (s.readStored cells)
  have settled := read_settled (if s.compat.disagreements = 4 then some .plug else none) o (disagreed (s.readStored cells))
  have done := read_done stage settled
  refine ⟨done, by rw [settled.compat]; exact table, fun a m => ?_⟩
  obtain ⟨-, -, fault⟩ := settled.told .plug (if_pos a)
  obtain ⟨k1, k2⟩ := fault (by rw [stage.unit]; exact m)
  exact ⟨k1, fun none => ⟨_, k2 (stage.record.trans none), rfl⟩⟩

/-- Settles O26. -/
theorem plugReadComplete : Obligations.PlugReadComplete := by
  refine ⟨fun c n r hr => plug_lines c n r hr, fun cells s h => ?_, fun cells s k hk => ⟨_, exec_plugRead hk, ?_⟩⟩
  · change execPlugReadComplete cells s = _
    unfold execPlugReadComplete
    rw [h]
  intro coded content
  have coded_eq : (classRead cells).coded = decide coded := rfl
  generalize ho : ({ s with time := s.time.seen (s.compat.readStart + Config.readMicros) } : State) = o
  cases hp : s.compat.previous with
  | none =>
    have e := completeRead_first (cells := cells) hp
    rw [ho] at e
    rw [e]
    have settled := read_settled none o (s.readStored cells)
    have done := read_done (cells := cells) (s := s) (ReadStage.refl rfl rfl) settled
    obtain ⟨r1, r2, r3⟩ := done.rest
    refine ⟨done.read.1, done.read.2, fun _ => ⟨done.status, done.count, ?_⟩, nofun, r1, fun m c => ?_, r3⟩
    · rw [settled.compat]; rfl
    · obtain ⟨k1, k2, -⟩ := r2 m c
      exact ⟨k1, k2, nofun⟩
  | some old =>
    by_cases hc : coded
    · by_cases hs : old.coded = true ∧ old.pairs = content
      · obtain ⟨h1, h2⟩ := hs
        obtain ⟨done, table, same, changed⟩ := agreed_read o hp (by rw [coded_eq]; exact decide_eq_true hc) h1 h2
        rw [ho] at done table same changed
        obtain ⟨r1, r2, r3⟩ := done.rest
        have other : ¬ ((coded ∧ (old.coded = false ∨ old.pairs ≠ content)) ∨ (¬ coded ∧ old.coded = true)) := by
          rintro (⟨-, k | k⟩ | ⟨k, -⟩)
          · rw [h1] at k; cases k
          · exact k h2
          · exact k hc
        refine ⟨done.read.1, done.read.2, nofun, fun x hx => ?_, r1, fun m c => ?_, r3⟩
        · cases hx
          exact ⟨fun _ _ _ => ⟨done.status, done.count, table, same, changed⟩, fun k => absurd hc k, fun k => absurd k other⟩
        · obtain ⟨k1, k2, k3⟩ := r2 m c
          refine ⟨k1, k2, fun x hx => ?_⟩
          cases hx
          refine ⟨fun _ _ _ => k3.trans ?_, fun k => absurd hc k, fun k => absurd k other⟩
          change s.compat.owed.or (if content = s.compat.inUse then none else some .plugChanged) = _
          split <;> simp
      · have differ : agree (classRead cells) old = false := by
          have h : (classRead cells).coded = true := by rw [coded_eq]; exact decide_eq_true hc
          rw [agree, h]
          cases hold : old.coded
          · rfl
          · simp only [Bool.not_true, Bool.false_and, Bool.true_and, Bool.false_or]
            exact beq_eq_false_iff_ne.mpr fun k => hs ⟨hold, k.symm⟩
        obtain ⟨done, table, fault⟩ := apart_read o hp differ
        rw [ho] at done table fault
        obtain ⟨r1, r2, r3⟩ := done.rest
        refine ⟨done.read.1, done.read.2, nofun, fun x hx => ?_, r1, fun m c => ?_, r3⟩
        · cases hx
          exact ⟨fun _ k1 k2 => absurd ⟨k1, k2⟩ hs, fun k => absurd hc k, fun _ => ⟨table, done.count, done.status, fault⟩⟩
        · obtain ⟨k1, k2, k3⟩ := r2 m c
          refine ⟨k1, k2, fun x hx => ?_⟩
          cases hx
          refine ⟨fun _ k1 k2 => absurd ⟨k1, k2⟩ hs, fun k => absurd hc k, fun _ => k3.trans ?_⟩
          split <;> simp
    · have bad : (classRead cells).coded = false := by rw [coded_eq]; exact decide_eq_false hc
      cases hold : old.coded
      · obtain ⟨done, table, fault⟩ := bad_read o hp bad hold
        rw [ho] at done table fault
        obtain ⟨r1, r2, r3⟩ := done.rest
        have other : ¬ ((coded ∧ (old.coded = false ∨ old.pairs ≠ content)) ∨ (¬ coded ∧ old.coded = true)) := by
          rintro (⟨k, -⟩ | ⟨-, k⟩)
          · exact hc k
          · rw [hold] at k; cases k
        refine ⟨done.read.1, done.read.2, nofun, fun x hx => ?_, r1, fun m c => ?_, r3⟩
        · cases hx
          exact ⟨fun k => absurd k hc, fun _ _ => ⟨done.status, done.count, table, fault⟩, fun k => absurd k other⟩
        · obtain ⟨k1, k2, k3⟩ := r2 m c
          refine ⟨k1, k2, fun x hx => ?_⟩
          cases hx
          refine ⟨fun k => absurd k hc, fun _ _ => k3.trans ?_, fun k => absurd k other⟩
          split <;> simp
      · have differ : agree (classRead cells) old = false := by rw [agree, bad, hold]; rfl
        obtain ⟨done, table, fault⟩ := apart_read o hp differ
        rw [ho] at done table fault
        obtain ⟨r1, r2, r3⟩ := done.rest
        refine ⟨done.read.1, done.read.2, nofun, fun x hx => ?_, r1, fun m c => ?_, r3⟩
        · cases hx
          exact ⟨fun k => absurd k hc, fun _ k => absurd (hold.symm.trans k) (by simp),
            fun _ => ⟨table, done.count, done.status, fault⟩⟩
        · obtain ⟨k1, k2, k3⟩ := r2 m c
          refine ⟨k1, k2, fun x hx => ?_⟩
          cases hx
          refine ⟨fun k => absurd k hc, fun _ k => absurd (hold.symm.trans k) (by simp), fun _ => k3.trans ?_⟩
          split <;> simp

end Sys2Proof.Machine

/-! PROOFS. Crossing events and the mains lock (O19, O20). -/

namespace Sys2Proof.Machine

/-! ### The lock machine and the AUTO decision (R155, R156) -/

/-- A step of the lock machine: the lock, its counts, the decision and flags change, nothing else. -/
structure LockStep (s u : State) : Prop where
  frame : u = { s with time := u.time, link := { s.link with flags := u.link.flags } }
  stands : u.time = { s.time with
    lock := u.time.lock, goodCount := u.time.goodCount, decided := u.time.decided, decisionRun := u.time.decisionRun
    candidate := u.time.candidate, mainsPaced := u.time.mainsPaced, tenthGiven := u.time.tenthGiven }
  flags : FlagsStay s u

theorem LockStep.refl (s : State) : LockStep s s := ⟨rfl, rfl, fun _ => id⟩

theorem LockStep.trans {s t u : State} (h : LockStep s t) (k : LockStep t u) : LockStep s u :=
  ⟨by rw [k.frame, h.frame], by rw [k.stands, h.stands], fun i e => k.flags i (h.flags i e)⟩

theorem dropLock_step (s : State) : LockStep s (dropLock s) ∧ (dropLock s).time = { s.time with
    lock := .acquiring, goodCount := 0, mainsPaced := false, tenthGiven := false } ∧
    (s.time.lock ≠ .acquiring → has (dropLock s).link.flags Report.supply.index = true) := by
  have time : (dropLock s).time = { s.time with lock := .acquiring, goodCount := 0, mainsPaced := false, tenthGiven := false } :=
    flagIf_time _ _ _
  refine ⟨⟨?_, ?_, ?_⟩, time, fun h => ?_⟩
  · unfold dropLock flagIf
    simp only
    split <;> rfl
  · rw [time]
  · exact fun i h => flagIf_flags (s.time.lock != .acquiring) .supply { s with time := _ } i h
  · unfold dropLock
    simp only
    rw [flagIf, if_pos (bne_iff_ne.mpr h), flag_link]
    simp

theorem missLock_step (s : State) : LockStep s (missLock s) := by
  unfold missLock
  split
  · exact .refl s
  · exact (dropLock_step s).1

theorem goodLock_step (b : Bool) (s : State) : LockStep s (goodLock b s) ∧
    (goodLock b s).time.decided = s.time.decided ∧ (goodLock b s).time.decisionRun = s.time.decisionRun ∧
    (goodLock b s).time.candidate = s.time.candidate := by
  unfold goodLock
  split
  · exact ⟨.refl s, rfl, rfl, rfl⟩
  · exact ⟨.refl s, rfl, rfl, rfl⟩
  · split
    · exact ⟨.refl s, rfl, rfl, rfl⟩
    · split
      · exact ⟨⟨rfl, rfl, fun _ => id⟩, rfl, rfl, rfl⟩
      · exact ⟨⟨rfl, rfl, flag_flags .supply s⟩, rfl, rfl, rfl⟩

theorem decide1_step (p : Nat) (s : State) : LockStep s (decide1 p s) ∧ (decide1 p s).time.lock = s.time.lock ∧
    (decide1 p s).time.goodCount = s.time.goodCount ∧ (decide1 p s).time.mainsPaced = s.time.mainsPaced := by
  unfold decide1
  simp only
  split
  · exact ⟨⟨rfl, rfl, fun _ => id⟩, rfl, rfl, rfl⟩
  · next f _ =>
    generalize (if s.time.candidate = some f then s.time.decisionRun + 1 else 1) = n
    split
    · exact ⟨⟨rfl, rfl, fun _ => id⟩, rfl, rfl, rfl⟩
    · exact ⟨⟨rfl, rfl, flag_flags .supply s⟩, rfl, rfl, rfl⟩

theorem lockAtCrossing_step (p : Option Nat) (s : State) : LockStep s (lockAtCrossing p s) := by
  have judged (n : Nat) : LockStep s (if s.time.working.good n then goodLock s.time.undecided s else missLock s) := by
    split
    · exact (goodLock_step _ s).1
    · exact missLock_step s
  unfold lockAtCrossing
  simp only
  split
  · exact (dropLock_step s).1
  · cases p with
    | none => exact .refl s
    | some n =>
      simp only
      split
      · exact (judged n).trans (decide1_step n _).1
      · exact judged n

/-! ### The crossing event -/

/-- The moment of a real crossing. -/
def datedReal (m : Nat) (s : State) : State :=
  { s with time := { s.time.seen m with lastReal := some m, lastCrossing := m, synthetic := false } }

/-- What follows the crossing event: the mains tenth count, a tenth tick, and nothing else of the timebase. -/
structure CountStep (s t : State) : Prop where
  time : t.time = { s.time with
    tenth := t.time.tenth, lastTenth := t.time.lastTenth, clock := t.time.clock, mainsCount := t.time.mainsCount
    tenthGiven := t.time.tenthGiven }
  crossings : t.lamps.crossings = s.lamps.crossings
  flags : FlagsStay s t

theorem CountStep.refl (s : State) : CountStep s s := ⟨rfl, rfl, fun _ => id⟩

theorem CountStep.trans {s t u : State} (h : CountStep s t) (k : CountStep t u) : CountStep s u :=
  ⟨by rw [k.time, h.time], k.crossings.trans h.crossings, fun i e => k.flags i (h.flags i e)⟩

theorem recordFindings_lamps (fs : List Finding) (s : State) : (recordFindings fs s).lamps = s.lamps := by
  obtain ⟨r, m, e⟩ := recordFindings_eq fs s
  rw [e]

theorem enterFaultFlash_crossings (s : State) : (enterFaultFlash s).lamps.crossings = s.lamps.crossings := by
  have dousing : (doused s).lamps.crossings = s.lamps.crossings := rfl
  have forced : (handForced s (changeMode .faultFlash (doused s))).lamps = (changeMode .faultFlash (doused s)).lamps := by
    exact (handForced_blocks s _).2.1
  rw [enterFaultFlash_eq, forced, changeMode_lamps, dousing]

theorem faultNotice_crossings (fs : List Finding) (s : State) : (faultNotice fs s).lamps.crossings = s.lamps.crossings := by
  rcases faultNotice_cases fs s with ⟨-, h⟩ | ⟨-, -, h⟩ | ⟨-, -, -, h⟩ <;> rw [h]
  · rw [recordFindings_lamps]
  · rw [enterFaultFlash_crossings, recordFindings_lamps]

theorem enterClearing_lamps (k : FlashCause) (s : State) : (enterClearing k s).lamps = s.lamps := by
  have left (u : State) : (leaveService u).lamps = u.lamps := by
    unfold leaveService
    split <;> rfl
  rw [enterClearing, changeMode_lamps]
  exact left _

theorem linkLoss_lamps (s : State) : (linkLoss s).lamps = s.lamps := by
  unfold linkLoss
  split
  · exact enterClearing_lamps _ s
  · split <;> rfl

theorem takeEntryRedEnd_lamps (b : Bool) (s : State) : (takeEntryRedEnd b s).lamps = s.lamps := by
  unfold takeEntryRedEnd
  split
  · rw [(settle_keeps _ _).lamps, enterControlled, changeMode_lamps]
  · rfl

/-- No judgment, notice or expiry of a tick moves the half-cycle count (R14). -/
theorem tenthTick_crossings (s : State) : (tenthTick s).lamps.crossings = s.lamps.crossings := by
  obtain ⟨-, -, -, -, -, -, -, lamps, -⟩ := tickedInputs_blocks s
  obtain ⟨m, l, driven, -⟩ := driveTick_blocks s
  have drive : (driveTick s).1.lamps = s.lamps := by rw [driven]; exact lamps
  have notice : (monitorNotice (redFindings (driveTick s).2) (driveTick s).1).lamps.crossings = s.lamps.crossings := by
    obtain ⟨k, e, -⟩ := monitorNotice_eq (redFindings (driveTick s).2) (driveTick s).1
    rw [e, ← drive]
    exact faultNotice_crossings _ _
  have expired (u : State) : (expireAll s.expiring u).lamps = u.lamps := by rw [(expireAll_touches _ _).frame]
  have ended : (takeEntryRedEnd (s.unit.mode == .entryRed && s.unit.entryRedTimer == 1) (settle s
      (expireAll s.expiring (monitorNotice (redFindings (driveTick s).2) (driveTick s).1)))).lamps.crossings =
      s.lamps.crossings := by
    rw [takeEntryRedEnd_lamps, (settle_keeps _ _).lamps, expired, notice]
  unfold tenthTick
  simp only
  split
  · rw [(settle_keeps _ _).lamps, linkLoss_lamps]
    exact ended
  · exact ended

theorem tenthAt_count (m : Nat) (s : State) : CountStep s (tenthAt m s) ∧
    (tenthAt m s).time = { s.time with tenth := s.time.tenth + 1, lastTenth := m, clock := max s.time.clock m } := by
  obtain ⟨time, flags⟩ := tenthTick_time { s with time := { s.time.seen m with lastTenth := m } }
  have crossings := tenthTick_crossings { s with time := { s.time.seen m with lastTenth := m } }
  unfold tenthAt
  refine ⟨⟨by rw [time]; rfl, crossings, flags⟩, by rw [time]; rfl⟩

theorem fallbackTick_count (b : Bool) (m : Nat) (s : State) : CountStep s (fallbackTick b m s) := by
  unfold fallbackTick
  split
  · exact (tenthAt_count m s).1
  · exact .refl s

theorem mainsCount_count (s : State) : CountStep s (mainsCount s).1 := by
  unfold mainsCount
  split
  · split <;> exact ⟨rfl, rfl, fun _ => id⟩
  · exact .refl s

theorem endCount_count (m : Nat) (s : State) : CountStep s (endCount m s) := by
  unfold endCount
  split
  · exact ⟨rfl, rfl, fun _ => id⟩
  · exact (tenthAt_count m s).1

/-- The crossing event of a real crossing, after the lock machine (R153, R155). -/
def realEvent (m : Nat) (s : State) : State := crossing (datedReal m (lockAtCrossing (s.time.period m) s))

theorem realEvent_lock (m : Nat) (s : State) :
    (realEvent m s).time.lock = (lockAtCrossing (s.time.period m) s).time.lock ∧
    (realEvent m s).time.mainsPaced = (lockAtCrossing (s.time.period m) s).time.mainsPaced := ⟨rfl, rfl⟩

theorem realCrossing_eq (m : Nat) (s : State) : realCrossing m s =
    if (mainsCount (realEvent m s)).2 then endCount m (mainsCount (realEvent m s)).1
    else fallbackTick (s.time.lock == .locked && (mainsCount (realEvent m s)).1.time.lock != .locked) m
      (mainsCount (realEvent m s)).1 := rfl

theorem realCrossing_count (m : Nat) (s : State) : CountStep (realEvent m s) (realCrossing m s) := by
  rw [realCrossing_eq]
  split
  · exact (mainsCount_count _).trans (endCount_count _ _)
  · exact (mainsCount_count _).trans (fallbackTick_count _ _ _)

/-- The lock machine and the AUTO decision at a synthetic crossing, the first of a run being a missing crossing (R154). -/
def missed (s : State) : State :=
  if s.time.synthetic then s
  else if s.time.undecided then { missLock s with time := { (missLock s).time with decisionRun := 0, candidate := none } }
  else missLock s

theorem missed_step (s : State) : LockStep s (missed s) := by
  unfold missed
  split
  · exact .refl s
  · split
    · exact (missLock_step s).trans ⟨rfl, rfl, fun _ => id⟩
    · exact missLock_step s

/-- The crossing event of a synthetic crossing, after the lock machine (R154). -/
def syntheticEvent (s : State) : State :=
  crossing { missed s with
    time := { (missed s).time.seen s.time.syntheticDue with lastCrossing := s.time.syntheticDue, synthetic := true } }

theorem syntheticCrossing_eq (s : State) : syntheticCrossing s =
    fallbackTick (s.time.lock == .locked && (syntheticEvent s).time.lock != .locked) s.time.syntheticDue
      (syntheticEvent s) := rfl

/-! ### Periods and moments by the working frequency (Table 9-2) -/

theorem good_iff (t : Timebase) (p : Nat) : t.working.good p = true ↔
    if t.sixty then 8166 ≤ p ∧ p ≤ 8500 else 9800 ≤ p ∧ p ≤ 10200 := by
  simp only [Freq.good, Bool.and_eq_true, decide_eq_true_eq]
  unfold Timebase.working
  split <;> exact Iff.rfl

theorem offBand_iff (t : Timebase) (m : Nat) : t.offBand m ↔ ∃ p, t.period m = some p ∧ t.working.good p = false := by
  simp only [Timebase.offBand, Timebase.period, ← Bool.not_eq_true, good_iff]
  cases t.synthetic <;> cases t.lastReal <;> simp

theorem takes_iff (t : Timebase) (m : Nat) : t.takes m = true ↔
    t.synthetic = true ∨ ∀ m0, t.lastReal = some m0 → m0 + (if t.sixty then 2083 else 2500) ≤ m := by
  have blanking : t.working.blanking = if t.sixty then 2083 else 2500 := by
    unfold Timebase.working
    split <;> rfl
  unfold Timebase.takes
  rw [blanking]
  cases t.synthetic <;> cases t.lastReal <;> simp

theorem syntheticDue_eq (t : Timebase) : t.syntheticDue = t.lastCrossing +
    (if t.synthetic then if t.sixty then 8333 else 10000 else if t.sixty then 12500 else 15000) := by
  unfold Timebase.syntheticDue Timebase.working
  cases t.sixty <;> rfl

theorem exec_realCrossing {m : Nat} {s : State} (h : s.time.takes m = true) :
    exec (.realCrossingEvent m) s = .next (realCrossing m s) := if_pos h

/-! ### A crossing that gives no tick of its own -/

/-- A crossing of `s` that gives no tick: the lock machine has made `u` of it, and the crossing event alone follows. -/
structure CrossingTaken (s u t : State) : Prop where
  frame : u = { s with time := u.time, link := u.link }
  clock : u.time.tenth = s.time.tenth ∧ u.time.category = s.time.category
  after : t = { crossing u with time := t.time }
  tenth : t.time.tenth = u.time.tenth

theorem LockStep.clock {s u : State} (h : LockStep s u) : u.time.tenth = s.time.tenth ∧ u.time.category = s.time.category := by
  rw [h.stands]
  exact ⟨rfl, rfl⟩

theorem mainsCount_same (s : State) : (mainsCount s).1 = { s with time := (mainsCount s).1.time } ∧
    (mainsCount s).1.time.tenth = s.time.tenth := by
  unfold mainsCount
  split
  · split <;> exact ⟨rfl, rfl⟩
  · exact ⟨rfl, rfl⟩

theorem mainsCount_lock (s : State) : (mainsCount s).1.time.lock = s.time.lock ∧
    (mainsCount s).1.time.lastTenth = s.time.lastTenth ∧ (mainsCount s).1.time.tenthGiven = s.time.tenthGiven := by
  unfold mainsCount
  split
  · split <;> exact ⟨rfl, rfl, rfl⟩
  · exact ⟨rfl, rfl, rfl⟩

/-- A real crossing whose mains count does not end with a tick, and whose lock is not lost too late, ticks nothing. -/
theorem realCrossing_taken {m : Nat} {s : State}
    (counted : (mainsCount (realEvent m s)).2 = true → (realEvent m s).time.tenthGiven = true)
    (lost : s.time.lock = .locked → (realEvent m s).time.lock ≠ .locked → m < s.time.lastTenth + 100000) :
    CrossingTaken s (datedReal m (lockAtCrossing (s.time.period m) s)) (realCrossing m s) := by
  have step := lockAtCrossing_step (s.time.period m) s
  have given : (realEvent m s).time.lastTenth = s.time.lastTenth := by
    change (lockAtCrossing (s.time.period m) s).time.lastTenth = _
    rw [step.stands]
  obtain ⟨same, tenth⟩ := mainsCount_same (realEvent m s)
  obtain ⟨lock, last, due⟩ := mainsCount_lock (realEvent m s)
  have after : realCrossing m s = { realEvent m s with time := (realCrossing m s).time } ∧
      (realCrossing m s).time.tenth = (realEvent m s).time.tenth := by
    rw [realCrossing_eq]
    split
    · next h =>
      rw [endCount, if_pos (due.trans (counted h))]
      exact ⟨by rw [same], tenth⟩
    · rw [fallbackTick, if_neg]
      · exact ⟨same, tenth⟩
      · simp only [Bool.and_eq_true, beq_iff_eq, bne_iff_ne, decide_eq_true_eq, lock, last, given, Config.tenthMicros]
        rintro ⟨⟨h1, h2⟩, h3⟩
        exact absurd (lost h1 h2) (by omega)
  refine ⟨?_, step.clock, after.1, after.2⟩
  rw [datedReal, step.frame]

/-- A synthetic crossing that does not lose the lock too late ticks nothing. -/
theorem syntheticCrossing_taken {s : State}
    (lost : s.time.lock = .locked → (syntheticEvent s).time.lock ≠ .locked → s.time.syntheticDue < s.time.lastTenth + 100000) :
    CrossingTaken s { missed s with
      time := { (missed s).time.seen s.time.syntheticDue with lastCrossing := s.time.syntheticDue, synthetic := true } }
      (syntheticCrossing s) := by
  have step := missed_step s
  have given : (syntheticEvent s).time.lastTenth = s.time.lastTenth := by
    change (missed s).time.lastTenth = _
    rw [step.stands]
  have quiet : syntheticCrossing s = syntheticEvent s := by
    rw [syntheticCrossing_eq, fallbackTick, if_neg]
    simp only [Bool.and_eq_true, beq_iff_eq, bne_iff_ne, decide_eq_true_eq, given, Config.tenthMicros]
    rintro ⟨⟨h1, h2⟩, h3⟩
    exact absurd (lost h1 h2) (by omega)
  exact ⟨by rw [step.frame], step.clock, by rw [quiet]; rfl, by rw [quiet]; rfl⟩

/-- Each channel's staged pattern applied (R12). -/
def applied (s : State) : State := { s with chans := vmap (fun _ ch => { ch with applied := ch.staged }) s.chans }

theorem crossing_eq (s : State) : crossing s = { applied s with
    lamps := { s.lamps with
      drives := maskOf (fun o => (applied s).driveReport.get o == Drive.conduct)
      crossings := (s.lamps.crossings + 1) % 8 }
    mon := { s.mon with awaiting := some (applied s).driveReport, beside := none }
    time := { s.time with sampleDue := true } } := rfl

theorem crossing_mon (s : State) :
    (crossing s).mon = { s.mon with awaiting := some (applied s).driveReport, beside := none } := by
  rw [crossing_eq]

theorem crossing_drives (s : State) :
    (crossing s).lamps.drives = maskOf (fun o => (applied s).driveReport.get o == Drive.conduct) := by
  rw [crossing_eq]

theorem applied_chan (s : State) (c : Chan) : (applied s).chan c = { s.chan c with applied := (s.chan c).staged } := by
  simp only [applied, State.chan, vmap_get]

theorem crossing_chan (s : State) (c : Chan) : (crossing s).chan c = { s.chan c with applied := (s.chan c).staged } := by
  rw [← applied_chan, crossing_eq]
  rfl

theorem crossing_leaves (s : State) : (crossing s).compat = s.compat ∧ (crossing s).seq = s.seq ∧
    (crossing s).greens = s.greens ∧ (crossing s).dets = s.dets ∧ (crossing s).pres = s.pres ∧ (crossing s).arb = s.arb ∧
    (crossing s).unit = s.unit ∧ (crossing s).tones = s.tones ∧ (crossing s).signs = s.signs := by
  simp only [crossing_eq, applied, and_self]

/-- One output of the report, by the staged pattern (R13, R14, R16). -/
theorem applied_report (s : State) (o : Fin 48) : (applied s).driveReport.get o = lampDrive s.phaseA
    (s.skips && (s.chan (outputChan o)).dimEnable && outputColour o != 1)
    ((s.chan (outputChan o)).staged.lamp (outputColour o)) := by
  rw [State.driveReport, Vector.get_ofFn, applied_chan]
  rfl

/-- The report and the drives of a crossing event, by the staged patterns (R12 to R16, R120). -/
theorem CrossingTaken.report {s u t : State} (h : CrossingTaken s u t) : ∃ report,
    t.mon = { s.mon with awaiting := some report, beside := none } ∧
    (∀ o, has t.lamps.drives o = (report.get o == .conduct)) ∧
    (∀ o, report.get o =
      match (s.chan (outputChan o)).staged.lamp (outputColour o) with
      | .unlit => .off
      | .steady =>
        if s.lamps.dimOn = true ∧ s.time.category ≠ .sag ∧ s.time.category ≠ .dropout ∧
          (s.chan (outputChan o)).dimEnable = true ∧ outputColour o ≠ 1 ∧
          (s.lamps.crossings + 1) * s.lamps.dimLevel / 8 ≤ s.lamps.crossings * s.lamps.dimLevel / 8 then .skipped
        else .conduct
      | .flashA => if s.time.tenth.toNat % 10 < 5 then .conduct else .off
      | .flashB => if s.time.tenth.toNat % 10 < 5 then .off else .conduct) := by
  obtain ⟨frame, ⟨tenth, category⟩, after, -⟩ := h
  have mon : t.mon = (crossing u).mon := by rw [after]
  have lamps : t.lamps = (crossing u).lamps := by rw [after]
  have umon : u.mon = s.mon := by rw [frame]
  have phase : u.phaseA = s.phaseA := by rw [State.phaseA, tenth]; rfl
  have skips : u.skips = s.skips := by rw [State.skips, State.dimInhibited, category, frame]; rfl
  have chan (c : Chan) : u.chan c = s.chan c := by rw [frame]; rfl
  refine ⟨(applied u).driveReport, by rw [mon, crossing_mon, umon], fun o => by rw [lamps, crossing_drives, has_maskOf], fun o => ?_⟩
  rw [applied_report, phase, skips, chan]
  cases (s.chan (outputChan o)).staged.lamp (outputColour o) with
  | unlit => rfl
  | steady =>
    simp only [lampDrive]
    refine if_congr ?_ rfl rfl
    simp only [State.skips, State.dimInhibited, conducts, Bool.and_eq_true, Bool.not_eq_true', Bool.or_eq_false_iff,
      beq_eq_false_iff_ne, bne_iff_ne, decide_eq_false_iff_not, Nat.not_lt, ne_eq]
    tauto
  | flashA => simp only [lampDrive, State.phaseA, decide_eq_true_eq]
  | flashB => simp only [lampDrive, State.phaseA, decide_eq_true_eq]

/-! ### The lock machine by its cases (Figure 9-1) -/

theorem undecided_false (t : Timebase) : t.undecided = false ↔ (t.nominal = .auto → t.decided ≠ none) := by
  unfold Timebase.undecided
  cases t.nominal <;> cases t.decided <;> simp

theorem undecided_true (t : Timebase) : t.undecided = true ↔ (t.nominal = .auto ∧ t.decided = none) := by
  unfold Timebase.undecided
  cases t.nominal <;> cases t.decided <;> simp

theorem lockAtCrossing_free {s : State} (h : s.time.lock = .free) (p : Option Nat) : lockAtCrossing p s = dropLock s := by
  simp only [lockAtCrossing, h, if_true]

theorem lockAtCrossing_none {s : State} (h : s.time.lock ≠ .free) : lockAtCrossing none s = s := by
  simp only [lockAtCrossing, h, if_false]

theorem lockAtCrossing_some {s : State} (h : s.time.lock ≠ .free) (p : Nat) : lockAtCrossing (some p) s =
    if s.time.undecided = true then decide1 p (if s.time.working.good p = true then goodLock s.time.undecided s else missLock s)
    else if s.time.working.good p = true then goodLock s.time.undecided s else missLock s := by
  simp only [lockAtCrossing, h, if_false]

/-- What the AUTO decision leaves of the lock at a measured period. -/
theorem lockAtCrossing_judged {s : State} (h : s.time.lock ≠ .free) {p : Nat} {u : State}
    (hu : (if s.time.working.good p = true then goodLock s.time.undecided s else missLock s) = u) :
    (lockAtCrossing (some p) s).time.lock = u.time.lock ∧ (lockAtCrossing (some p) s).time.goodCount = u.time.goodCount ∧
    (lockAtCrossing (some p) s).time.mainsPaced = u.time.mainsPaced ∧ FlagsStay u (lockAtCrossing (some p) s) := by
  rw [lockAtCrossing_some h, hu]
  split
  · obtain ⟨step, lock, good, paced⟩ := decide1_step p u
    exact ⟨lock, good, paced, step.flags⟩
  · exact ⟨rfl, rfl, rfl, fun _ => id⟩

/-- A period outside the good band loses the lock (R155). -/
theorem lockAtCrossing_off {s : State} (h : s.time.lock ≠ .free) {p : Nat} (bad : ¬ s.time.working.good p = true) :
    (lockAtCrossing (some p) s).time.lock = .acquiring ∧ (lockAtCrossing (some p) s).time.goodCount = 0 ∧
    (s.time.lock ≠ .acquiring → has (lockAtCrossing (some p) s).link.flags Report.supply.index = true) := by
  obtain ⟨lock, good, -, flags⟩ := lockAtCrossing_judged h (if_neg bad)
  obtain ⟨-, time, raised⟩ := dropLock_step s
  rw [missLock, if_neg h, time] at lock good
  exact ⟨lock, good, fun k => flags _ (by rw [missLock, if_neg h]; exact raised k)⟩

/-- A crossing of a decided lock that measures nothing bad leaves the lock machine alone (R155). -/
theorem lockAtCrossing_locked {m : Nat} {s : State} (h : s.time.lock = .locked)
    (decided : s.time.nominal = .auto → s.time.decided ≠ none) (good : ¬ s.time.offBand m) :
    lockAtCrossing (s.time.period m) s = s := by
  have free : s.time.lock ≠ .free := by rw [h]; nofun
  cases hp : s.time.period m with
  | none => exact lockAtCrossing_none free
  | some p =>
    have fine : s.time.working.good p = true := by
      by_contra bad
      exact good ((offBand_iff _ _).mpr ⟨p, hp, Bool.not_eq_true _ ▸ bad⟩)
    rw [lockAtCrossing_some free, (undecided_false _).mpr decided, if_neg (by simp), if_pos fine, goodLock, h]

/-- A lock that a crossing makes is not mains paced yet (R157). -/
theorem lockAtCrossing_unpaced {s : State} (h : s.time.lock ≠ .locked) (p : Option Nat)
    (k : (lockAtCrossing p s).time.lock = .locked) : (lockAtCrossing p s).time.mainsPaced = false := by
  by_cases free : s.time.lock = .free
  · rw [lockAtCrossing_free free, (dropLock_step s).2.1]
  cases p with
  | none => exact absurd (lockAtCrossing_none free ▸ k) h
  | some p =>
    have own : (if s.time.working.good p = true then goodLock s.time.undecided s else missLock s).time.lock = .locked →
        (if s.time.working.good p = true then goodLock s.time.undecided s else missLock s).time.mainsPaced = false := by
      split
      · unfold goodLock
        split
        · exact fun e => absurd e h
        · exact fun e => absurd e h
        · split
          · exact fun e => absurd e h
          · split
            · exact fun e => absurd e h
            · exact fun _ => rfl
      · rw [missLock, if_neg free, (dropLock_step s).2.1]
        exact fun _ => rfl
    obtain ⟨lock, -, paced, -⟩ := lockAtCrossing_judged free (p := p) rfl
    exact paced.trans (own (lock.symm.trans k))

/-! ### O19 -/

theorem mainsCount_quiet {s : State} (h : ¬ (s.time.lock = .locked ∧ s.time.mainsPaced = true)) : mainsCount s = (s, false) :=
  if_neg h

/-- A real crossing ticks nothing when it gives no tick of its own and loses no lock too late (R157). -/
theorem realCrossing_quiet {m : Nat} {s : State} (h : s.time.lock = .locked →
    (s.time.nominal = .auto → s.time.decided ≠ none) ∧ (s.time.offBand m → m < s.time.lastTenth + 100000) ∧
    (¬ s.time.offBand m → s.time.mainsPaced = false ∨ s.time.tenthGiven = true ∨
      s.time.mainsCount + 1 < (if s.time.sixty then 12 else 10))) :
    CrossingTaken s (datedReal m (lockAtCrossing (s.time.period m) s)) (realCrossing m s) := by
  by_cases locked : s.time.lock = .locked
  · obtain ⟨decided, late, on⟩ := h locked
    by_cases off : s.time.offBand m
    · have lost : (realEvent m s).time.lock = .acquiring := by
        obtain ⟨p, hp, bad⟩ := (offBand_iff _ _).mp off
        change (lockAtCrossing (s.time.period m) s).time.lock = _
        rw [hp]
        exact (lockAtCrossing_off (by rw [locked]; nofun) (by rw [bad]; nofun)).1
      refine realCrossing_taken (fun k => ?_) fun _ _ => late off
      rw [mainsCount_quiet (by rw [lost]; nofun)] at k
      cases k
    · have stands : realEvent m s = crossing (datedReal m s) := by
        rw [realEvent, lockAtCrossing_locked locked decided off]
      refine realCrossing_taken (fun k => ?_) fun _ lost => ?_
      · rw [stands] at k ⊢
        rcases on off with paced | given | below
        · have idle : ¬ ((crossing (datedReal m s)).time.lock = .locked ∧ (crossing (datedReal m s)).time.mainsPaced = true) :=
            fun e => absurd (paced.symm.trans e.2) nofun
          rw [mainsCount_quiet idle] at k
          cases k
        · exact given
        · have count : (crossing (datedReal m s)).time.mainsCount + 1 < (crossing (datedReal m s)).time.working.perTenth := by
            rw [perTenth_eq]; exact below
          rw [mainsCount, if_pos count] at k
          split at k <;> cases k
      · rw [stands] at lost
        exact absurd locked lost
  · refine realCrossing_taken (fun k => ?_) fun e => absurd e locked
    have idle : ¬ ((realEvent m s).time.lock = .locked ∧ (realEvent m s).time.mainsPaced = true) := by
      obtain ⟨lock, paced⟩ := realEvent_lock m s
      rw [lock, paced]
      exact fun e => absurd ((lockAtCrossing_unpaced locked _ e.1).symm.trans e.2) nofun
    rw [mainsCount_quiet idle] at k
    cases k

/-- The end of a mains count (R157). -/
theorem endCount_ends (m : Nat) (s : State) : (endCount m s).time.mainsCount = s.time.mainsCount ∧
    (endCount m s).time.tenthGiven = false ∧ (endCount m s).time.lastTenth = m ∧
    (endCount m s).time.tenth = if s.time.tenthGiven = true then s.time.tenth else s.time.tenth + 1 := by
  unfold endCount
  split
  · exact ⟨rfl, rfl, rfl, rfl⟩
  · next h =>
    rw [(tenthAt_count m s).2]
    exact ⟨rfl, Bool.not_eq_true _ ▸ h, rfl, rfl⟩

theorem mainsCount_ends {s : State} (h : s.time.lock = .locked ∧ s.time.mainsPaced = true)
    (k : s.time.mainsCount + 1 = s.time.working.perTenth) :
    mainsCount s = ({ s with time := { s.time with mainsCount := 0 } }, true) := by
  rw [mainsCount, if_pos h, if_neg (fun e => absurd k (Nat.ne_of_lt e))]

/-- Settles O19: the lock machine, the mains count and the tick follow the crossing event without touching its report. -/
theorem crossingEvent : Obligations.CrossingEvent := by
  unfold Obligations.CrossingEvent
  refine ⟨fun m m0 s h1 h2 h3 => if_neg fun e => ?_, fun m s h => ?_, fun s => ?_, fun m s t taken locked paced on decided h => ?_,
    fun c m s t hc h => ?_⟩
  · rcases (takes_iff _ _).mp e with k | k
    · exact absurd (h1.symm.trans k) nofun
    · exact absurd (k m0 h2) (by omega)
  · have step := lockAtCrossing_step (s.time.period m) s
    have count := realCrossing_count m s
    have lamps : (lockAtCrossing (s.time.period m) s).lamps = s.lamps := by rw [step.frame]
    refine ⟨_, exec_realCrossing ((takes_iff _ _).mpr h), ?_, ?_, ?_, ?_, ?_⟩
    · rw [count.time]; rfl
    · rw [count.time]; rfl
    · rw [count.time]; rfl
    · rw [count.time]; rfl
    · rw [count.crossings, ← lamps]; rfl
  · have step := missed_step s
    have count := fallbackTick_count (s.time.lock == .locked && (syntheticEvent s).time.lock != .locked) s.time.syntheticDue
      (syntheticEvent s)
    rw [← syntheticCrossing_eq] at count
    have lamps : (missed s).lamps = s.lamps := by rw [step.frame]
    have real : (missed s).time.lastReal = s.time.lastReal := by rw [step.stands]
    refine ⟨_, rfl, ?_, ?_, ?_, ?_, ?_⟩
    · rw [count.time, ← real]; rfl
    · rw [count.time]; rfl
    · rw [count.time]; rfl
    · rw [count.time, ← syntheticDue_eq]; rfl
    · rw [count.crossings, ← lamps]; rfl
  · obtain rfl := Host.Outcome.next.inj ((exec_realCrossing taken).symm.trans h)
    have stands : realEvent m s = crossing (datedReal m s) := by
      rw [realEvent, lockAtCrossing_locked locked decided on]
    have both : (crossing (datedReal m s)).time.lock = .locked ∧ (crossing (datedReal m s)).time.mainsPaced = true :=
      ⟨locked, paced⟩
    have limit : (crossing (datedReal m s)).time.working.perTenth = if s.time.sixty then 12 else 10 := perTenth_eq _
    have count : (crossing (datedReal m s)).time.mainsCount = s.time.mainsCount := rfl
    have lockStands : (realCrossing m s).time.lock = .locked := by
      rw [(realCrossing_count m s).time, stands]
      exact locked
    refine ⟨lockStands, fun below => ?_, fun last => ?_⟩
    · rw [realCrossing_eq, stands, mainsCount, if_pos both, limit, count, if_pos below, if_neg nofun, fallbackTick, if_neg]
      · exact ⟨rfl, rfl⟩
      · simp only [both.1, bne_self_eq_false, Bool.and_false, Bool.false_and]; nofun
    · have ends := mainsCount_ends both (count ▸ limit ▸ last)
      rw [realCrossing_eq, stands, ends, if_pos rfl]
      exact endCount_ends m _
  · obtain ⟨u, taken⟩ : ∃ u, CrossingTaken s u t := by
      rcases hc with ⟨rfl, late⟩ | ⟨rfl, taken, quiet⟩
      · obtain rfl := Host.Outcome.next.inj h
        refine ⟨_, syntheticCrossing_taken fun locked lost => late locked ?_⟩
        by_contra run
        refine lost ?_
        change (missed s).time.lock = _
        rw [missed, if_pos (Bool.not_eq_false _ ▸ run)]
        exact locked
      · obtain rfl := Host.Outcome.next.inj ((exec_realCrossing taken).symm.trans h)
        exact ⟨_, realCrossing_quiet quiet⟩
    have report := taken.report
    obtain ⟨frame, ⟨tenth, -⟩, after, ticked⟩ := taken
    obtain ⟨compat, seq, greens, dets, pres, arb, unit, tones, signs⟩ := crossing_leaves u
    refine ⟨fun n => ?_, report, ?_, ?_, ?_, ?_, ?_, ?_, ?_, ?_, ?_, ticked.trans tenth⟩
    · have chan : t.chan n = { u.chan n with applied := (u.chan n).staged } := by
        rw [← crossing_chan, after]
        rfl
      rw [chan, frame]
      rfl
    · exact (congrArg State.compat after).trans (compat.trans (by rw [frame]))
    · exact (congrArg State.seq after).trans (seq.trans (by rw [frame]))
    · exact (congrArg State.greens after).trans (greens.trans (by rw [frame]))
    · exact (congrArg State.dets after).trans (dets.trans (by rw [frame]))
    · exact (congrArg State.pres after).trans (pres.trans (by rw [frame]))
    · exact (congrArg State.arb after).trans (arb.trans (by rw [frame]))
    · exact (congrArg State.unit after).trans (unit.trans (by rw [frame]))
    · exact (congrArg State.tones after).trans (tones.trans (by rw [frame]))
    · exact (congrArg State.signs after).trans (signs.trans (by rw [frame]))

end Sys2Proof.Machine

/-! PROOFS. The mains lock, the AUTO decision and SET TIMEBASE (O20). -/

namespace Sys2Proof.Machine

/-! ### The lock after a crossing (R155, R156) -/

/-- The lock, the count of good periods and the AUTO decision stand, and no report flag is cleared. -/
structure LockStands (u t : State) : Prop where
  lock : t.time.lock = u.time.lock
  goodCount : t.time.goodCount = u.time.goodCount
  decided : t.time.decided = u.time.decided
  decisionRun : t.time.decisionRun = u.time.decisionRun
  candidate : t.time.candidate = u.time.candidate
  flags : FlagsStay u t

theorem CountStep.lockStands {s t : State} (h : CountStep s t) : LockStands s t := by
  refine ⟨?_, ?_, ?_, ?_, ?_, h.flags⟩ <;> rw [h.time]

/-- What follows the lock machine at a real crossing leaves it alone. -/
theorem realCrossing_lock (m : Nat) (s : State) : LockStands (lockAtCrossing (s.time.period m) s) (realCrossing m s) := by
  obtain ⟨h1, h2, h3, h4, h5, h6⟩ := (realCrossing_count m s).lockStands
  exact ⟨h1, h2, h3, h4, h5, h6⟩

theorem period_none {t : Timebase} (h : t.synthetic = true ∨ t.lastReal = none) (m : Nat) : t.period m = none := by
  unfold Timebase.period
  rcases h with h | h
  · rw [if_pos h]
  · rw [h]; split <;> rfl

theorem period_some {t : Timebase} {m0 : Nat} (h : t.synthetic = false) (k : t.lastReal = some m0) (m : Nat) :
    t.period m = some (m - m0) := by
  unfold Timebase.period
  rw [if_neg (by rw [h]; nofun), k]
  rfl

/-- A good period for the lock machine, by its state (R155). -/
theorem lockAtCrossing_good {s : State} (h : s.time.lock ≠ .free) {p : Nat} (good : s.time.working.good p = true) :
    let u := lockAtCrossing (some p) s
    (s.time.lock = .locked → u.time.lock = .locked) ∧
    (s.time.lock = .acquiring → s.time.category = .dropout ∨ s.time.undecided = true →
      u.time.lock = .acquiring ∧ u.time.goodCount = s.time.goodCount) ∧
    (s.time.lock = .acquiring → s.time.category ≠ .dropout → s.time.undecided = false →
      if s.time.goodCount + 1 < 32 then u.time.lock = .acquiring ∧ u.time.goodCount = s.time.goodCount + 1
      else u.time.lock = .locked ∧ has u.link.flags Report.supply.index = true) := by
  obtain ⟨lock, count, -, flags⟩ := lockAtCrossing_judged h (if_pos good)
  refine ⟨fun k => ?_, fun k held => ?_, fun k supplied decided => ?_⟩
  · have stands : goodLock s.time.undecided s = s := by rw [goodLock, k]
    rw [lock, stands, k]
  · have stands : goodLock s.time.undecided s = s := by
      rw [goodLock, k]
      exact if_pos held
    rw [lock, count, stands]
    exact ⟨k, rfl⟩
  · have run : ¬ (s.time.category = .dropout ∨ s.time.undecided = true) := by simp [supplied, decided]
    have step : goodLock s.time.undecided s =
        if s.time.goodCount + 1 < 32 then { s with time := { s.time with goodCount := s.time.goodCount + 1 } }
        else flag .supply { s with
          time := { s.time with goodCount := 32, lock := .locked, mainsPaced := false, tenthGiven := false } } := by
      rw [goodLock, k]
      exact if_neg run
    split
    · next below =>
      rw [lock, count, step, if_pos below]
      exact ⟨k, rfl⟩
    · next full =>
      rw [step, if_neg full] at lock flags
      exact ⟨lock, flags _ (by simp [flag_link])⟩

theorem good_hz50 (p : Nat) : Freq.good .hz50 p = true ↔ 9800 ≤ p ∧ p ≤ 10200 := by
  simp only [Freq.good, Bool.and_eq_true, decide_eq_true_eq]
  exact Iff.rfl

theorem good_hz60 (p : Nat) : Freq.good .hz60 p = true ↔ 8166 ≤ p ∧ p ≤ 8500 := by
  simp only [Freq.good, Bool.and_eq_true, decide_eq_true_eq]
  exact Iff.rfl

/-- A measured period inside the band of a candidate counts for its decision (R156). -/
theorem lockAtCrossing_decides {s : State} (h : s.time.lock ≠ .free) (auto : s.time.undecided = true) {p : Nat} {f : Freq}
    (band : (f = .hz50 → 9800 ≤ p ∧ p ≤ 10200) ∧ (f = .hz60 → 8166 ≤ p ∧ p ≤ 8500)) :
    let u := lockAtCrossing (some p) s
    (s.time.candidate = some f → 8 ≤ s.time.decisionRun + 1 →
      u.time.decided = some f ∧ u.time.decisionRun = 0 ∧ has u.link.flags Report.supply.index = true) ∧
    (s.time.candidate = some f → s.time.decisionRun + 1 < 8 →
      u.time.decided = none ∧ u.time.decisionRun = s.time.decisionRun + 1) ∧
    (s.time.candidate ≠ some f →
      u.time.decided = none ∧ u.time.decisionRun = 1 ∧ u.time.candidate = some f) := by
  obtain ⟨w, hw, decided, run, candidate⟩ : ∃ w,
      (if s.time.working.good p = true then goodLock s.time.undecided s else missLock s) = w ∧
      w.time.decided = s.time.decided ∧ w.time.decisionRun = s.time.decisionRun ∧ w.time.candidate = s.time.candidate := by
    refine ⟨_, rfl, ?_⟩
    split
    · exact (goodLock_step _ s).2
    · rw [missLock, if_neg h, (dropLock_step s).2.1]
      exact ⟨rfl, rfl, rfl⟩
  have named : (if Freq.good .hz50 p = true then some Freq.hz50 else if Freq.good .hz60 p = true then some Freq.hz60 else none)
      = some f := by
    cases f with
    | hz50 => exact if_pos ((good_hz50 p).mpr (band.1 rfl))
    | hz60 =>
      have other : ¬ Freq.good .hz50 p = true := by
        have b := band.2 rfl
        rw [good_hz50]
        omega
      exact (if_neg other).trans (if_pos ((good_hz60 p).mpr (band.2 rfl)))
  have undecided : s.time.decided = none := ((undecided_true _).mp auto).2
  have step : lockAtCrossing (some p) s =
      if (if s.time.candidate = some f then s.time.decisionRun + 1 else 1) < 8 then
        { w with time := { w.time with
          decisionRun := if s.time.candidate = some f then s.time.decisionRun + 1 else 1
          candidate := some f } }
      else flag .supply { w with time := { w.time with decided := some f, decisionRun := 0, candidate := none } } := by
    rw [lockAtCrossing_some h, if_pos auto, hw, decide1]
    simp only [named, run, candidate]
    rfl
  refine ⟨fun k full => ?_, fun k below => ?_, fun k => ?_⟩
  · rw [step, if_pos k, if_neg (by omega)]
    exact ⟨rfl, rfl, by simp [flag_link]⟩
  · rw [step, if_pos k, if_pos below]
    exact ⟨decided.trans undecided, rfl⟩
  · rw [step, if_neg k, if_pos (by omega)]
    exact ⟨decided.trans undecided, rfl, rfl⟩

/-- What follows the lock machine at a synthetic crossing leaves it alone. -/
theorem syntheticCrossing_lock (s : State) : LockStands (missed s) (syntheticCrossing s) := by
  obtain ⟨h1, h2, h3, h4, h5, h6⟩ := (fallbackTick_count (s.time.lock == .locked && (syntheticEvent s).time.lock != .locked)
    s.time.syntheticDue (syntheticEvent s)).lockStands
  exact ⟨h1, h2, h3, h4, h5, h6⟩

/-! ### SET TIMEBASE (R160) -/

theorem decodeNominal_of {n : Byte} (h : n = 0 ∨ n = 50 ∨ n = 60) :
    decodeNominal n = some (if n = 50 then .hz50 else if n = 60 then .hz60 else .auto) ∧
    (if n = 50 then Nominal.hz50 else if n = 60 then .hz60 else .auto).code = n := by
  rcases h with rfl | rfl | rfl <;> exact ⟨rfl, rfl⟩

theorem nominalStored_eq (n : Nominal) (t : Timebase) : t.nominalStored n = { t with
    nominal := n
    decided := if n = .auto then none else t.decided
    decisionRun := if n = .auto then 0 else t.decisionRun
    candidate := if n = .auto then none else t.candidate } := by
  unfold Timebase.nominalStored
  split <;> rfl

theorem applyTimebase_time (n : Nominal) (s : State) : ∃ u, CountStep u (applyTimebase n s) ∧
    u.time = { s.time.nominalStored n with lock := .acquiring, goodCount := 0, mainsPaced := false, tenthGiven := false } ∧
    (s.time.lock ≠ .acquiring → has u.link.flags Report.supply.index = true) := by
  obtain ⟨-, time, raised⟩ := dropLock_step { s with time := s.time.nominalStored n }
  have lock : (s.time.nominalStored n).lock = s.time.lock := by rw [nominalStored_eq]
  refine ⟨_, fallbackTick_count _ _ _, ?_, fun h => flagIf_flags _ _ _ _ (raised (lock ▸ h))⟩
  rw [flagIf_time, time]

/-- Settles O20, from the cases of the lock machine and what follows it. -/
theorem mainsLock : Obligations.MainsLock := by
  unfold Obligations.MainsLock
  refine ⟨fun m s t taken h => ?_, fun s t h => ?_, fun tag s n free hn => ?_⟩
  · obtain rfl := Host.Outcome.next.inj ((exec_realCrossing taken).symm.trans h)
    obtain ⟨lock, count, decided, run, candidate, flags⟩ := realCrossing_lock m s
    rw [lock, count, decided, run, candidate]
    refine ⟨fun h => ?_, fun h k => ?_, fun m0 h h1 h2 good => ?_, fun m0 h h1 h2 bad => ?_, fun m0 h h1 h2 auto und f b50 b60 => ?_⟩
    · rw [lockAtCrossing_free h, (dropLock_step s).2.1]
      exact ⟨rfl, rfl⟩
    · rw [period_none k, lockAtCrossing_none h]
      exact ⟨rfl, rfl⟩
    · rw [period_some h1 h2] at flags ⊢
      obtain ⟨c1, c2, c3⟩ := lockAtCrossing_good h ((good_iff _ _).mpr good)
      refine ⟨c1, fun k held => c2 k (held.imp_right (undecided_true _).mpr), fun k supplied decided => ?_⟩
      have c := c3 k supplied ((undecided_false _).mpr decided)
      split
      · next below => rwa [if_pos below] at c
      · next full =>
        rw [if_neg full] at c
        exact ⟨c.1, flags _ c.2⟩
    · rw [period_some h1 h2] at flags ⊢
      obtain ⟨c1, c2, c3⟩ := lockAtCrossing_off h fun e => bad ((good_iff _ _).mp e)
      exact ⟨c1, c2, fun k => flags _ (c3 (by rw [k]; nofun))⟩
    · rw [period_some h1 h2] at flags ⊢
      obtain ⟨c1, c2, c3⟩ := lockAtCrossing_decides h ((undecided_true _).mpr ⟨auto, und⟩) ⟨b50, b60⟩
      refine ⟨fun k full => ?_, c2, c3⟩
      obtain ⟨d1, d2, d3⟩ := c1 k full
      exact ⟨d1, d2, flags _ d3⟩
  · obtain rfl := Host.Outcome.next.inj h
    obtain ⟨lock, count, -, run, candidate, -⟩ := syntheticCrossing_lock s
    rw [lock, count, run, candidate]
    have cleared : s.time.synthetic = false → s.time.undecided = true →
        (missed s).time.decisionRun = 0 ∧ (missed s).time.candidate = none := fun h k => by
      rw [missed, if_neg (by rw [h]; nofun), if_pos k]
      exact ⟨rfl, rfl⟩
    have same : s.time.synthetic = false → (missed s).time.lock = (missLock s).time.lock ∧
        (missed s).time.goodCount = (missLock s).time.goodCount := fun h => by
      rw [missed, if_neg (by rw [h]; nofun)]
      split <;> exact ⟨rfl, rfl⟩
    refine ⟨fun h => ?_, fun h k => ?_, fun h auto und => cleared h ((undecided_true _).mpr ⟨auto, und⟩)⟩
    · by_cases run : s.time.synthetic = true
      · rw [missed, if_pos run]
      · have free := h.resolve_left run
        rw [(same (Bool.not_eq_true _ ▸ run)).1, missLock, if_pos free]
    · obtain ⟨h1, h2⟩ := same h
      rw [h1, h2, missLock, if_neg k, (dropLock_step s).2.1]
      exact ⟨rfl, rfl⟩
  · obtain ⟨decoded, code⟩ := decodeNominal_of hn
    generalize he : (if n = 50 then Nominal.hz50 else if n = 60 then .hz60 else .auto) = e at decoded code ⊢
    obtain ⟨u, step, time, flagged⟩ := applyTimebase_time e (heard s)
    have ofU : (applyTimebase e (heard s)).time.lock = .acquiring ∧ (applyTimebase e (heard s)).time.goodCount = 0 ∧
        (applyTimebase e (heard s)).time.nominal = e ∧
        (e = .auto → (applyTimebase e (heard s)).time.decided = none ∧ (applyTimebase e (heard s)).time.decisionRun = 0) := by
      rw [step.time, time, nominalStored_eq]
      exact ⟨rfl, rfl, rfl, fun h => ⟨if_pos h, if_pos h⟩⟩
    obtain ⟨lock, count, nominal, auto⟩ := ofU
    refine ⟨_, answers (t := applyTimebase e (heard s)) (fields := [0, n, 1]) rfl ⟨rfl, rfl⟩ (by simp) free ?_, lock, count,
      nominal, fun h => ?_, fun h => ?_, rfl⟩
    · simp only [serve, serveSetTimebase, decoded, nominal, lock, code]
      rfl
    · exact auto (he.symm.trans (by rw [h]; rfl))
    · exact step.flags _ (flagged (by rw [heard_time]; exact h))

end Sys2Proof.Machine

/-! PROOFS. From the driven timers of a tenth tick to its end, channel by channel. -/

namespace Sys2Proof.Machine

/-! ### What the consequences of a moment can do to a channel -/

/-- Every property of a channel and its green record that the orders keep, whatever active set is copied, goes from `s`
to `t`. -/
def Conveys (q : Bool) (s t : State) : Prop := ∀ P : Channel → Green → Prop,
  (∀ r g r' g', P r g → Item q r g r' g' → P r' g') → (∀ r g a, P r g → P { r with activeSet := a } g) →
    ∀ c, P (s.chan c) (s.green c) → P (t.chan c) (t.green c)

theorem Conveys.refl (q : Bool) (s : State) : Conveys q s s := fun _ _ _ _ => id

theorem Conveys.trans {q : Bool} {s t u : State} (h : Conveys q s t) (k : Conveys q t u) : Conveys q s u :=
  fun P step copy c hs => k P step copy c (h P step copy c hs)

theorem carries_same {q : Bool} {s t : State} (hc : t.chans = s.chans) (hg : t.greens = s.greens) : Conveys q s t :=
  fun P _ _ c hs => by rw [State.chan, State.green, hc, hg]; exact hs

theorem settle_conveys {q : Bool} {old new : State} (hq : q = true → new.preemptsQuiet) : Conveys q new (settle old new) :=
  fun P step _ c hs => orders_keep (settle_orders hq) P c step hs

theorem changeMode_conveys (q : Bool) (m : Mode) (s : State) : Conveys q s (changeMode m s) := by
  intro P _ copy c hs
  have green : (changeMode m s).green c = s.green c := by rw [State.green, changeMode_greens]; rfl
  rw [green, changeMode_chan]
  split
  · exact copy _ _ _ hs
  · exact hs

theorem leaveService_quiet {s : State} (h : s.preemptsQuiet) : (leaveService s).preemptsQuiet := by
  have same : (leaveService s).pres = s.pres := by
    unfold leaveService
    rw [h.1]
  refine ⟨?_, fun p => by rw [pre_of_pres same]; exact h.2 p⟩
  unfold leaveService
  split <;> rfl

theorem preemptsQuiet_of {s t : State} (hp : t.pres = s.pres) (ha : t.arb.holder = s.arb.holder) (h : s.preemptsQuiet) :
    t.preemptsQuiet :=
  ⟨ha.trans h.1, fun p => by rw [pre_of_pres hp]; exact h.2 p⟩

theorem enterClearing_conveys (q : Bool) (k : FlashCause) (s : State) : Conveys q s (enterClearing k s) := by
  have left (u : State) : (leaveService u).chans = u.chans ∧ (leaveService u).greens = u.greens := by
    unfold leaveService
    split <;> exact ⟨rfl, rfl⟩
  obtain ⟨chans, greens⟩ := left (stopExecution s)
  refine Conveys.trans (t := setCause k (leaveService (stopExecution s))) ?_ (changeMode_conveys q _ _)
  exact carries_same chans greens

theorem enterClearing_quiet {k : FlashCause} {s : State} (h : s.preemptsQuiet) : (enterClearing k s).preemptsQuiet := by
  have left : (leaveService (stopExecution s)).preemptsQuiet := leaveService_quiet (preemptsQuiet_of rfl rfl h)
  refine preemptsQuiet_of (s := leaveService (stopExecution s)) ?_ ?_ left
  · rw [enterClearing, changeMode_pres]; rfl
  · rw [enterClearing, changeMode_arb]; rfl

theorem linkLoss_conveys (q : Bool) (s : State) : Conveys q s (linkLoss s) := by
  unfold linkLoss
  split
  · exact enterClearing_conveys q _ s
  · split
    · exact carries_same rfl rfl
    · exact .refl q s

theorem linkLoss_quiet {s : State} (h : s.preemptsQuiet) : (linkLoss s).preemptsQuiet := by
  unfold linkLoss
  split
  · exact enterClearing_quiet h
  · split <;> exact h

/-! ### The end of a tick (R141, R187) -/

/-- What follows the expiries of a tick of `s`. -/
def tickTail (s u : State) : State :=
  let v := takeEntryRedEnd (s.unit.mode == .entryRed && s.unit.entryRedTimer == 1) (settle s u)
  if s.link.supervision = 1 then settle v (linkLoss v) else v

/-- The driven timers of a tick with the red fails taken. -/
def tickNoticed (s : State) : State := monitorNotice (redFindings (driveTick s).2) (driveTick s).1

theorem tenthTick_eq (s : State) : tenthTick s = tickTail s (expireAll s.expiring (tickNoticed s)) := rfl

theorem takeEntryRedEnd_conveys {q : Bool} (b : Bool) {s : State} (h : q = true → s.preemptsQuiet) :
    Conveys q s (takeEntryRedEnd b s) ∧ (q = true → (takeEntryRedEnd b s).preemptsQuiet) := by
  have quiet (k : s.preemptsQuiet) : (enterControlled s).preemptsQuiet :=
    preemptsQuiet_of (by rw [enterControlled, changeMode_pres]) (by rw [enterControlled, changeMode_arb]) k
  unfold takeEntryRedEnd
  split
  · exact ⟨(changeMode_conveys q _ s).trans (settle_conveys fun e => quiet (h e)),
      fun e => settle_preemptsQuiet (quiet (h e))⟩
  · exact ⟨.refl q s, h⟩

theorem tickTail_conveys {q : Bool} (s : State) {u : State} (h : q = true → u.preemptsQuiet) : Conveys q u (tickTail s u) := by
  obtain ⟨ended, quiet⟩ := takeEntryRedEnd_conveys (q := q) (s.unit.mode == .entryRed && s.unit.entryRedTimer == 1)
    (s := settle s u) fun e => settle_preemptsQuiet (h e)
  have before := (settle_conveys (old := s) h).trans ended
  unfold tickTail
  simp only
  split
  · exact (before.trans (linkLoss_conveys q _)).trans (settle_conveys fun e => linkLoss_quiet (quiet e))
  · exact before

/-- What a moment outside the control modes leaves: only reduction clocks, requests and flags move. -/
structure Uncontrolled (s t : State) : Prop where
  mode : t.unit.mode = s.unit.mode
  chans : t.chans = s.chans
  seq : t.seq = s.seq
  arb : t.arb = s.arb
  green : ∀ c, t.green c = s.green c ∨
    (t.green c = { s.green c with clock := some 0 } ∧ (s.chan c).kind = .vehicle ∧ (s.chan c).ind = .green)
  pre : ∀ p, Relation.ReflTransGen (fun r q => Preempt.move r = some q) (s.pre p) (t.pre p)

theorem Requested.uncontrolled {s t : State} (h : Requested s t) : Uncontrolled s t := by
  obtain ⟨chans, -, -, seq, -, arb, -, unit, -⟩ := h.blocks
  exact ⟨by rw [unit], chans, seq, arb, h.green, h.pre⟩

theorem Uncontrolled.trans {s t u : State} (h : Uncontrolled s t) (k : Uncontrolled t u) : Uncontrolled s u where
  mode := k.mode.trans h.mode
  chans := k.chans.trans h.chans
  seq := k.seq.trans h.seq
  arb := k.arb.trans h.arb
  green c := by
    have chan : t.chan c = s.chan c := by rw [State.chan, h.chans]; rfl
    rcases k.green c with e | ⟨e, hk, hi⟩
    · rw [e]; exact h.green c
    · rw [chan] at hk hi
      refine .inr ⟨?_, hk, hi⟩
      rcases h.green c with f | ⟨f, -⟩ <;> rw [e, f]
  pre p := (h.pre p).trans (k.pre p)

theorem settle_uncontrolled (old : State) {new : State} (h : new.unit.mode.isControl = false) :
    Uncontrolled new (settle old new) :=
  (settle_requested (fun e => by rw [e] at h; cases h) (fun e => by rw [e] at h; cases h)).uncontrolled

theorem linkLoss_uncontrolled {s : State} (h : s.unit.mode.isControl = false) : Uncontrolled s (linkLoss s) := by
  unfold linkLoss
  split
  · next k => rcases k with k | k <;> rw [k] at h <;> cases h
  · split
    · exact ⟨rfl, rfl, rfl, rfl, fun _ => .inl rfl, fun _ => .refl⟩
    · exact ⟨rfl, rfl, rfl, rfl, fun _ => .inl rfl, fun _ => .refl⟩

theorem tickTail_uncontrolled (s : State) {u : State} (h : u.unit.mode.isControl = false) : Uncontrolled u (tickTail s u) := by
  have first := settle_uncontrolled s h
  have stays : takeEntryRedEnd (s.unit.mode == .entryRed && s.unit.entryRedTimer == 1) (settle s u) = settle s u := by
    have ne : (settle s u).unit.mode ≠ .entryRed := by
      rw [first.mode]
      intro e
      rw [e] at h
      cases h
    exact if_neg (by simp [ne])
  unfold tickTail
  simp only [stays]
  split
  · have out : (settle s u).unit.mode.isControl = false := by rw [first.mode]; exact h
    have lost := linkLoss_uncontrolled out
    exact (first.trans lost).trans (settle_uncontrolled _ (by rw [lost.mode]; exact out))
  · exact first

/-! ### The red fails of a tick (R126, R131) -/

/-- The red fails of a tick leave the channels, the greens, the preempts, the step and the unit as the tick drove them. -/
def Faultless (s : State) : Prop :=
  (tickNoticed s).chans = (driveTick s).1.chans ∧ (tickNoticed s).greens = (driveTick s).1.greens ∧
    (tickNoticed s).pres = (driveTick s).1.pres ∧ (tickNoticed s).arb = (driveTick s).1.arb ∧
    (tickNoticed s).seq = (driveTick s).1.seq ∧ (tickNoticed s).unit = (driveTick s).1.unit

/-- The red fails of a tick leave every block but the Monitor and the link, or lead to FAULT_FLASH. -/
theorem tickNoticed_cases (s : State) :
    Faultless s ∨
    (s.unit.mode.isControl = true ∧ (tickNoticed s).unit.mode = .faultFlash ∧
      ∀ c, ((tickNoticed s).chan c).ind = .dark) := by
  have watched : s.unit.mode.isControl = false → redFindings (driveTick s).2 = [] := fun h => by
    obtain ⟨-, -, unit, -⟩ := tickedInputs_blocks s
    have none : (driveTick s).2 = 0 := by
      have own : (tickPreempts (tickedInputs s)).unit.mode.isControl = false := by
        change (tickedInputs s).unit.mode.isControl = false
        rw [unit]; exact h
      change (tickMonitor (tickPreempts (tickedInputs s))).2 = 0
      unfold tickMonitor
      rw [if_neg (by rw [own]; nofun)]
    rw [none]
    decide
  obtain ⟨k, e, -⟩ := monitorNotice_eq (redFindings (driveTick s).2) (driveTick s).1
  obtain ⟨r, m, recorded⟩ := recordFindings_eq (redFindings (driveTick s).2) (driveTick s).1
  rcases faultNotice_cases (redFindings (driveTick s).2) (driveTick s).1 with ⟨-, h⟩ | ⟨-, -, h⟩ | ⟨some, -, -, h⟩
  · refine .inl ?_
    rw [Faultless, tickNoticed, e, h]
    exact ⟨rfl, rfl, rfl, rfl, rfl, rfl⟩
  · refine .inl ?_
    rw [Faultless, tickNoticed, e, h, recorded]
    exact ⟨rfl, rfl, rfl, rfl, rfl, rfl⟩
  · refine .inr ?_
    have black := enterFaultFlash_blacked (recordFindings (redFindings (driveTick s).2) (driveTick s).1)
    have control : s.unit.mode.isControl = true := by
      by_contra h
      exact some (watched (Bool.not_eq_true _ ▸ h))
    rw [tickNoticed, e, h]
    exact ⟨control, black.mode.1, fun c => (black.chans c).1.1⟩

/-- A tick that ends outside FAULT_FLASH, or begins outside the control modes, has taken no red fail. -/
theorem tick_faultless {s : State} (h : (tenthTick s).unit.mode ≠ .faultFlash ∨ s.unit.mode.isControl = false) :
    Faultless s := by
  rcases tickNoticed_cases s with k | ⟨control, mode, -⟩
  · exact k
  · rcases h with h | h
    · refine absurd ?_ h
      have expired : (expireAll s.expiring (tickNoticed s)).unit.mode = .faultFlash := by
        rw [(expireAll_clock _ _).1]; exact mode
      rw [tenthTick_eq, (tickTail_uncontrolled s (by rw [expired]; rfl)).mode, expired]
    · rw [control] at h; cases h

/-- A channel that a fault of the tick darkens stays dark. -/
theorem tick_dark {s : State} (h : (tickNoticed s).unit.mode = .faultFlash) {c : Chan}
    (hc : ((tickNoticed s).chan c).ind = .dark) : ((tenthTick s).chan c).ind = .dark := by
  have expired : (expireAll s.expiring (tickNoticed s)).unit.mode = .faultFlash := by
    rw [(expireAll_clock _ _).1]; exact h
  have dark : ((expireAll s.expiring (tickNoticed s)).chan c).ind = .dark := by
    cases some : has s.expiring c with
    | false => rw [(expireAll_touches _ _).chan c (by rw [some]; nofun)]; exact hc
    | true =>
      obtain ⟨u, before, after⟩ := expireAll_one some (tickNoticed s)
      have own : u.chan c = (tickNoticed s).chan c := before.chan c (fun k => k rfl)
      have same : expireChannel c u = u := by simp only [expireChannel, own, hc]
      rw [after.chan c (fun k => k rfl), same, own]
      exact hc
  rw [tenthTick_eq, State.chan, (tickTail_uncontrolled s (by rw [expired]; rfl)).chans]
  exact dark

/-! ### The driven channels and preempts -/

theorem driveTick_chan (s : State) (c : Chan) : (driveTick s).1.chan c =
    if s.unit.mode.isControl = true ∧ (s.chan c).timed = true then { s.chan c with timer := (s.chan c).timer - 1 } else s.chan c := by
  obtain ⟨-, -, -, -, -, -, -, -, -, chans, -⟩ := tickedInputs_blocks s
  obtain ⟨m, l, driven, -⟩ := driveTick_blocks s
  have counter : (tickCounter s).chans = s.chans ∧ (tickCounter s).unit = s.unit := by
    rw [(tickCounter_blocks s).2.1]
    exact ⟨rfl, rfl⟩
  have own : (driveTick s).1.chans = (tickOnce s).chans := by rw [driven]; exact chans
  rw [State.chan, own]
  unfold tickOnce tickChannels
  rw [counter.1, counter.2]
  by_cases h : s.unit.mode.isControl = true
  · simp only [h, if_true, true_and]
    exact vmap_get _ _ _
  · rw [if_neg h, if_neg (fun e => h e.1), counter.1]
    rfl

theorem driveTick_arbiter (s : State) : (driveTick s).1.arb = s.arb ∧ (driveTick s).1.unit = s.unit.tick ∧
    ∀ p, (driveTick s).1.pre p = (s.pre p).tick s.unit.mode := by
  obtain ⟨-, -, -, -, arb, -⟩ := tickedInputs_blocks s
  obtain ⟨m, l, driven, -⟩ := driveTick_blocks s
  refine ⟨by rw [driven]; exact arb, by rw [driven], fun p => ?_⟩
  rw [driven]
  exact vmap_get _ _ _

end Sys2Proof.Machine

/-! PROOFS. The expiries of the intervals, and every interval timer at a tenth tick (O27). -/

namespace Sys2Proof.Machine

/-! ### One expiry (R7 to R9) -/

theorem enterClearance_eq (c : Chan) (s : State) : enterClearance c s =
    enter c (if (s.chan c).pendingSet.redClear = 0 then .red else .redClear) (s.setChan c { s.chan c with
      activeSet := copyRedClear (s.chan c).pendingSet (s.chan c).activeSet, timer := (s.chan c).pendingSet.redClear }) := by
  simp only [enterClearance, loaded_eq]
  split <;> rfl

/-- An amber or a pedestrian clearance that ends goes to RED_CLEAR or to RED (R7, R9). -/
theorem expireChannel_clears {c : Chan} {s : State} (h : (s.chan c).ind = .amber ∨ (s.chan c).ind = .pedClear) :
    expireChannel c s = enterClearance c s := by
  unfold expireChannel
  simp only
  rcases h with h | h <;> rw [h]

theorem clearance_chan {c : Chan} {s : State} (h : 0 < (s.chan c).pendingSet.redClear) : (enterClearance c s).chan c =
    { s.chan c with
      ind := .redClear, timer := (s.chan c).pendingSet.redClear, staged := ⟨.steady, .unlit, .unlit⟩
      activeSet := { (s.chan c).activeSet with redClear := (s.chan c).pendingSet.redClear } } := by
  rw [enterClearance_eq, if_neg (Nat.ne_of_gt h), enter_chan, if_pos rfl, setChan_chan]
  rfl

theorem pedClear_chan (c : Chan) (s : State) : (enterPedClear c s).chan c =
    { s.chan c with
      ind := .pedClear, timer := (s.chan c).pendingSet.pedClear, staged := ⟨.flashA, .unlit, .unlit⟩
      activeSet := { (s.chan c).activeSet with pedClear := (s.chan c).pendingSet.pedClear } } := by
  rw [enterPedClear, loaded_eq, enter_chan, if_pos rfl, setChan_chan]
  rfl

/-! ### The intervals through the judgments (R5 to R10) -/

/-- No order touches a used channel in AMBER or RED_CLEAR. -/
theorem Item.interval {q : Bool} {r r' : Channel} {g g' : Green} (h : Item q r g r' g') (hu : r.used = true)
    (hi : r.ind = .amber ∨ r.ind = .redClear) : r' = r := by
  have no {i : Indication} (e : r.ind = i) (h1 : i ≠ .amber) (h2 : i ≠ .redClear) : False := by
    rcases hi with k | k
    · exact h1 (e ▸ k)
    · exact h2 (e ▸ k)
  cases h with
  | same => rfl
  | clock => rfl
  | initial => rfl
  | amber _ _ _ e => exact (no e nofun nofun).elim
  | pedClear _ _ e => exact (no e nofun nofun).elim
  | green _ _ _ e => exact (no e nofun nofun).elim
  | clearance _ _ e => exact (no e nofun nofun).elim
  | flash _ _ e =>
    rcases e with e | e
    · rw [hu] at e; cases e
    · exact (no e nofun nofun).elim

/-- A used channel in RED_CLEAR stands through the judgments of a moment. -/
theorem settle_interval {old new : State} {c : Chan} (hu : (new.chan c).used = true)
    (hi : (new.chan c).ind = .amber ∨ (new.chan c).ind = .redClear) : (settle old new).chan c = new.chan c := by
  refine orders_keep (settle_orders (q := false) nofun) (fun r _ => r = new.chan c) c (fun r g r' g' e step => ?_) rfl
  subst e
  exact step.interval hu hi

/-- A pedestrian clearance goes on, cut by a preempt alone (R9, R109). -/
theorem Item.clears {q : Bool} {r r' : Channel} {g g' : Green} (h : Item q r g r' g') (hu : r.used = true)
    (hi : r.ind = .pedClear) : ∃ n, r' = { r with timer := n } ∧ n ≤ r.timer ∧ (q = true → n = r.timer) := by
  have no {i : Indication} (e : r.ind = i) (h1 : i ≠ .pedClear) : False := h1 (e ▸ hi)
  cases h with
  | same => exact ⟨r.timer, rfl, Nat.le_refl _, fun _ => rfl⟩
  | clock => exact ⟨r.timer, rfl, Nat.le_refl _, fun _ => rfl⟩
  | initial => exact ⟨r.timer, rfl, Nat.le_refl _, fun _ => rfl⟩
  | amber _ _ _ e => exact (no e nofun).elim
  | pedClear _ _ e => exact (no e nofun).elim
  | green _ _ _ e => exact (no e nofun).elim
  | clearance n _ _ hn hq => exact ⟨n, rfl, hn, fun e => by rw [e] at hq; cases hq⟩
  | flash _ _ e =>
    rcases e with e | e
    · rw [hu] at e; cases e
    · exact (no e nofun).elim

theorem settle_clears {q : Bool} {old new : State} (hq : q = true → new.preemptsQuiet) {c : Chan}
    (hu : (new.chan c).used = true) (hi : (new.chan c).ind = .pedClear) : ∃ n, (settle old new).chan c = { new.chan c with timer := n } ∧
      n ≤ (new.chan c).timer ∧ (q = true → n = (new.chan c).timer) := by
  refine orders_keep (settle_orders hq)
    (fun r _ => ∃ n, r = { new.chan c with timer := n } ∧ n ≤ (new.chan c).timer ∧ (q = true → n = (new.chan c).timer)) c
    (fun r g r' g' ⟨n, e, hn, k⟩ step => ?_) ⟨_, rfl, Nat.le_refl _, fun _ => rfl⟩
  subst e
  obtain ⟨m, e, hm, l⟩ := step.clears hu hi
  exact ⟨m, e, hm.trans hn, fun y => (l y).trans (k y)⟩

/-! ### A tick outside and inside the control modes (R4) -/

theorem driveTick_seq (s : State) : (driveTick s).1.seq =
    if s.unit.mode = .controlled then { s.seq with stepTimer := s.seq.stepTimer - 1 } else s.seq := by
  obtain ⟨-, -, -, -, -, -, -, -, -, -, seq, -⟩ := tickedInputs_blocks s
  obtain ⟨m, l, driven, -⟩ := driveTick_blocks s
  have own : (driveTick s).1.seq = (tickStep (tickOnce s)).seq := by rw [driven]; exact seq
  have same : (tickOnce s).unit = s.unit ∧ (tickOnce s).seq = s.seq := by rw [tickOnce_blocks]; exact ⟨rfl, rfl⟩
  rw [own, tickStep, same.1]
  split
  · rw [← same.2]
  · exact same.2

theorem expireAll_none {m : ChanSet} (h : ∀ c, has m c = false) (s : State) : expireAll m s = s := by
  unfold expireAll
  induction List.finRange 16 generalizing s with
  | nil => rfl
  | cons c l ih =>
    rw [List.foldl_cons, if_neg (by rw [h c]; nofun)]
    exact ih s

theorem not_expiring {s : State} (h : s.unit.mode.isControl = false) (c : Chan) : has s.expiring c = false := by
  unfold State.expiring
  rw [if_neg (by rw [h]; nofun)]
  exact has_zero c

theorem unitTick_control (s : State) : (driveTick s).1.unit.mode = s.unit.mode := by
  rw [(driveTick_arbiter s).2.1, unitTick_mode]

/-- Outside the control modes a tick moves no channel and no step. -/
theorem tick_uncontrolled {s : State} (h : s.unit.mode.isControl = false) :
    (tenthTick s).chans = s.chans ∧ (tenthTick s).seq = s.seq := by
  obtain ⟨chans, -, -, -, seq, unit⟩ := tick_faultless (.inr h)
  have out : (tickNoticed s).unit.mode.isControl = false := by rw [unit, unitTick_control]; exact h
  have tail := tickTail_uncontrolled s out
  have same : (driveTick s).1.chans = s.chans := bank_ext fun c => by
    change (driveTick s).1.chan c = s.chan c
    rw [driveTick_chan, if_neg (by rw [h]; nofun)]
  rw [tenthTick_eq, expireAll_none (not_expiring h), tail.chans, tail.seq, chans, seq, same, driveTick_seq,
    if_neg (fun e => by rw [e] at h; cases h)]
  exact ⟨rfl, rfl⟩

theorem tick_quiet {r : Preempt} (h : r.state = .idle ∧ r.active = false) (m : Mode) :
    (r.tick m).state = .idle ∧ (r.tick m).active = false := by
  refine ⟨h.1, ?_⟩
  have off := h.2
  unfold Preempt.active Preempt.tick at *
  simp only
  cases hl : r.level
  · rfl
  · rw [hl] at off
    have stuck : r.stuck = true := by simpa using off
    simp [stuck]

/-- The expiries of a tick begin with no preempt about where the tick did. -/
theorem tick_begins_quiet {s : State} (hf : Faultless s) (h : s.preemptsQuiet) : (expireAll s.expiring (tickNoticed s)).preemptsQuiet := by
  obtain ⟨-, -, pres, arb, -⟩ := hf
  obtain ⟨-, -, -, same, held, -⟩ := (expireAll_touches s.expiring (tickNoticed s)).calm
  obtain ⟨slot, -, ticked⟩ := driveTick_arbiter s
  refine ⟨by rw [held, arb, slot]; exact h.1, fun p => ?_⟩
  rw [pre_of_pres same, pre_of_pres pres, ticked]
  exact tick_quiet (h.2 p) _

/-- A channel that does not expire at a tick enters the tick's consequences as its timer was driven. -/
theorem tick_channel {s : State} (hf : Faultless s) {c : Chan} (hc : has s.expiring c = false) : (expireAll s.expiring (tickNoticed s)).chan c = (driveTick s).1.chan c ∧
    (expireAll s.expiring (tickNoticed s)).green c = (driveTick s).1.green c := by
  obtain ⟨chans, greens, -⟩ := hf
  have touched := expireAll_touches s.expiring (tickNoticed s)
  have out : ¬ has s.expiring c = true := by rw [hc]; nofun
  rw [touched.chan c out, touched.green c out, State.chan, State.green, chans, greens]
  exact ⟨rfl, rfl⟩

theorem expiring_iff {s : State} (hm : s.unit.mode.isControl = true) (c : Chan) :
    has s.expiring c = ((s.chan c).timed && (s.chan c).timer == 0) := by
  rw [State.expiring, if_pos hm, has_maskOf]

/-- A running interval enters the consequences of a tick with one tenth less. -/
theorem tick_running {s : State} (hm : s.unit.mode.isControl = true) (ht : Faultless s) {c : Chan} {n : Nat}
    (timed : (s.chan c).timed = true) (hn : (s.chan c).timer = n + 1) :
    (expireAll s.expiring (tickNoticed s)).chan c = { s.chan c with timer := n } := by
  have running : has s.expiring c = false := by rw [expiring_iff hm, timed, hn]; rfl
  rw [(tick_channel ht running).1, driveTick_chan, if_pos ⟨hm, timed⟩, hn]
  rfl

/-! ### O27 -/

/-- What a whole tick makes of the intervals of a control mode that it does not end by a fault. -/
theorem tick_intervals {s : State} (hm : s.unit.mode.isControl = true) (ht : Faultless s) {c : Chan}
    {n : Nat} (hu : (s.chan c).used = true) :
    (((s.chan c).ind = .amber ∨ (s.chan c).ind = .redClear) → (s.chan c).timer = n + 1 →
      ((tenthTick s).chan c).ind = (s.chan c).ind ∧ ((tenthTick s).chan c).timer = n) ∧
    ((s.chan c).ind = .amber → (s.chan c).timer = 0 → 0 < (s.chan c).pendingSet.redClear →
      ((tenthTick s).chan c).ind = .redClear ∧ ((tenthTick s).chan c).timer = (s.chan c).pendingSet.redClear) ∧
    ((s.chan c).ind = .pedClear → (s.chan c).timer = n + 1 →
      ((tenthTick s).chan c).ind = .pedClear ∧ ((tenthTick s).chan c).timer ≤ n ∧
        (s.preemptsQuiet → ((tenthTick s).chan c).timer = n)) ∧
    ((s.chan c).ind = .green → (s.chan c).kind = .pedestrian → (s.chan c).timer = n + 1 → s.preemptsQuiet →
      ((tenthTick s).chan c).ind = .green ∧ ((tenthTick s).chan c).timer = n) := by
  have timed {i : Indication} (hi : (s.chan c).ind = i) (h : i = .amber ∨ i = .redClear ∨ i = .pedClear) :
      (s.chan c).timed = true := by
    unfold Channel.timed
    rcases h with rfl | rfl | rfl <;> rw [hi]
  have still {i : Indication} {k : Nat} (hi : i = .amber ∨ i = .redClear)
      (start : ((expireAll s.expiring (tickNoticed s)).chan c).used = true ∧
        ((expireAll s.expiring (tickNoticed s)).chan c).ind = i ∧ ((expireAll s.expiring (tickNoticed s)).chan c).timer = k) :
      ((tenthTick s).chan c).ind = i ∧ ((tenthTick s).chan c).timer = k := by
    refine (tickTail_conveys (q := false) s nofun (fun r _ => r.used = true ∧ r.ind = i ∧ r.timer = k)
      (fun r g r' g' ⟨h1, h2, h3⟩ step => ?_) (fun _ _ _ h => h) c start).2
    rw [step.interval h1 (h2 ▸ hi)]
    exact ⟨h1, h2, h3⟩
  refine ⟨fun hi hn => still hi ?_, fun hi h0 hr => ?_, fun hi hn => ?_, fun hi hk hn quiet => ?_⟩
  · rw [tick_running hm ht (timed rfl (hi.imp_right .inl)) hn]
    exact ⟨hu, rfl, rfl⟩
  · have due : has s.expiring c = true := by rw [expiring_iff hm, timed hi (.inl rfl), h0]; rfl
    obtain ⟨u, before, after⟩ := expireAll_one due (tickNoticed s)
    have own : u.chan c = { s.chan c with timer := 0 } := by
      rw [before.chan c (fun k => k rfl), State.chan, ht.1]
      change (driveTick s).1.chan c = _
      rw [driveTick_chan, if_pos ⟨hm, timed hi (.inl rfl)⟩, h0]
    refine still (.inr rfl) ?_
    rw [after.chan c (fun k => k rfl), expireChannel_clears (.inl (by rw [own]; exact hi)),
      clearance_chan (by rw [own]; exact hr), own]
    exact ⟨hu, rfl, rfl⟩
  · have start := tick_running hm ht (timed hi (.inr (.inr rfl))) hn
    have run (q : Bool) (hq : q = true → s.preemptsQuiet) : ((tenthTick s).chan c).ind = .pedClear ∧
        ((tenthTick s).chan c).timer ≤ n ∧ (q = true → ((tenthTick s).chan c).timer = n) := by
      refine (tickTail_conveys s (fun e => tick_begins_quiet ht (hq e))
        (fun r _ => r.used = true ∧ r.ind = .pedClear ∧ r.timer ≤ n ∧ (q = true → r.timer = n))
        (fun r g r' g' ⟨h1, h2, h3, h4⟩ step => ?_) (fun _ _ _ h => h) c ?_).2
      · obtain ⟨m, rfl, hle, heq⟩ := step.clears h1 h2
        exact ⟨h1, h2, hle.trans h3, fun e => (heq e).trans (h4 e)⟩
      · rw [start]
        exact ⟨hu, hi, Nat.le_refl _, fun _ => rfl⟩
    obtain ⟨h1, h2, -⟩ := run false nofun
    exact ⟨h1, h2, fun quiet => (run true fun _ => quiet).2.2 rfl⟩
  · have walks : (s.chan c).timed = true := by
      unfold Channel.timed
      rw [hi, hk]
      rfl
    refine (tickTail_conveys (q := true) s (fun _ => tick_begins_quiet ht quiet)
      (fun r _ => r.kind = .pedestrian ∧ r.ind = .green ∧ r.timer = n)
      (fun r g r' g' ⟨h1, h2, h3⟩ step => ?_) (fun _ _ _ h => h) c ?_).2
    · cases step with
      | same => exact ⟨h1, h2, h3⟩
      | clock => exact ⟨h1, h2, h3⟩
      | initial => exact ⟨h1, h2, h3⟩
      | amber _ _ e => rw [h1] at e; cases e
      | pedClear _ _ _ e => cases e
      | green _ _ _ e => rw [h2] at e; cases e
      | clearance _ _ e => rw [h2] at e; cases e
      | flash _ _ e =>
        rcases e with e | e
        · simp [Channel.used, h1] at e
        · rw [h2] at e; cases e
    · rw [tick_running hm ht walks hn]
      exact ⟨hk, hi, rfl⟩

/-- Settles O27, from the orders of a moment, none of which touches an interval but a preempt's. -/
theorem intervalExpiry : Obligations.IntervalExpiry := by
  unfold Obligations.IntervalExpiry
  have due {c : Chan} {s : State} {i : Indication} (hm : s.unit.mode.isControl = true) (h0 : (s.chan c).timer = 0)
      (hi : (s.chan c).ind = i) : s.expires c i = true := by
    simp [State.expires, hm, h0, hi]
  refine ⟨fun e c s hm h0 hu he => ?_, fun c s hm h0 hi => ?_, fun c s hm h0 hk hi => ?_, fun e s t h k => ?_⟩
  · have ran : exec e s = .next (settle s (enterClearance c s)) := by
      rcases he with ⟨rfl, hi⟩ | ⟨rfl, hi⟩
      · rw [← expireChannel_clears (.inl hi)]
        exact if_pos (due hm h0 hi)
      · rw [← expireChannel_clears (.inr hi)]
        exact if_pos (due hm h0 hi)
    refine ⟨fun hr => ⟨_, ran, ?_⟩, fun hr => ?_⟩
    · have chan := clearance_chan hr
      rw [settle_interval (by rw [chan]; exact hu) (by rw [chan]; exact .inr rfl), chan]
      exact ⟨rfl, rfl, rfl, rfl, rfl⟩
    · rw [ran, enterClearance_eq, hr, if_pos rfl]
      simp only [copyRedClear, hr]
  · have red : expireChannel c s = enter c .red s := by simp only [expireChannel, hi]
    have ran : exec (.redClearanceExpiry c) s = .next (settle s (enter c .red s)) := by
      rw [← red]
      exact if_pos (due hm h0 hi)
    refine ⟨ran, fun entry => ⟨_, ran, ?_⟩⟩
    have mode : (enter c .red s).unit.mode = .entryRed := by rw [(enter_clock c .red s).1]; exact entry
    obtain ⟨chans, -⟩ := (settle_requested (old := s) (new := enter c .red s) (by rw [mode]; nofun) (by rw [mode]; nofun)).blocks
    rw [State.chan, chans]
    change ((enter c .red s).chan c).ind = _ ∧ ((enter c .red s).chan c).staged = _
    rw [enter_chan, if_pos rfl]
    exact ⟨rfl, rfl⟩
  · have ends : expireChannel c s = enterPedClear c s := by simp only [expireChannel, hi, hk, if_true]
    have ran : exec (.walkExpiry c) s = .next (settle s (enterPedClear c s)) := by
      rw [← ends]
      exact if_pos (by rw [due hm h0 hi, hk]; rfl)
    have chan := pedClear_chan c s
    have used : ((enterPedClear c s).chan c).used = true := by rw [chan]; simp [Channel.used, hk]
    have shows : ((enterPedClear c s).chan c).ind = .pedClear := by rw [chan]
    obtain ⟨n, e, hn, -⟩ := settle_clears (q := false) (old := s) nofun used shows
    refine ⟨_, ran, ?_, ?_, ?_, ?_, fun quiet => ?_⟩
    · rw [e, chan]
    · rw [e]
      rw [chan] at hn
      exact hn
    · rw [e, chan]
    · rw [e, chan]
    · have same : (enterPedClear c s).preemptsQuiet := by
        obtain ⟨-, -, -, pres, arb, -⟩ := (expireChannel_touches c s).calm
        rw [ends] at pres arb
        exact preemptsQuiet_of pres (by rw [arb]) quiet
      obtain ⟨m, e, -, hm⟩ := settle_clears (q := true) (old := s) (fun _ => same) used shows
      rw [e, hm rfl, chan]
  · obtain rfl := Host.Outcome.next.inj ((exec_takesTenth h).symm.trans k)
    generalize s.tickTime e = x
    exact ⟨fun hm => tick_uncontrolled (s := { s with time := x }) hm,
      fun hm ht c n hu => tick_intervals (s := { s with time := x }) hm (tick_faultless (.inl ht)) hu⟩

end Sys2Proof.Machine

/-! PROOFS. The step timer and the green timers, one by one and at a tenth tick (O28). -/

namespace Sys2Proof.Machine

/-! ### What the green timers are driven by (R65, R72) -/

/-- Calls and extensions read the kind and the indication of a channel, its recall, the latches, the detectors and the queue. -/
theorem serviceable_congr {s v : State} (hc : ∀ c, (v.chan c).kind = (s.chan c).kind ∧ (v.chan c).ind = (s.chan c).ind ∧
    (v.chan c).held = (s.chan c).held ∧ (v.chan c).recallKind = (s.chan c).recallKind) (hg : v.greens = s.greens)
    (hd : v.dets = s.dets) (hu : v.unit = s.unit)
    (hs : v.seq.queue = s.seq.queue ∧ v.seq.position = s.seq.position ∧ v.seq.current = s.seq.current) :
    v.serviceable = s.serviceable ∧ v.extended = s.extended := by
  have green : v.greenMask = s.greenMask := by
    refine mask_ext fun c => ?_
    obtain ⟨-, ind, held, -⟩ := hc c
    simp only [State.greenMask, has_maskOf, State.shown, hu, ind, held]
  have used : v.usedMask = s.usedMask := by
    refine mask_ext fun c => ?_
    simp only [State.usedMask, has_maskOf, Channel.used, (hc c).1]
  have recalls : v.recallCalls = s.recallCalls := by
    refine mask_ext fun c => ?_
    simp only [State.recallCalls, has_maskOf, (hc c).1, (hc c).2.2.2]
  have latches : v.latches = s.latches := by simp only [State.latches, State.green, hg]
  have det (d : Det) : v.det d = s.det d := by rw [State.det, hd]; rfl
  have occupied : v.detOccupied = s.detOccupied := by funext d; simp only [State.detOccupied, det]
  have faulted : v.detFaulted = s.detFaulted := by funext d; simp only [State.detFaulted, det]
  have conds : v.callConds = s.callConds := by funext d; simp only [State.callConds, det, occupied, faulted, green]
  have live : v.liveCalls = s.liveCalls := by simp only [State.liveCalls, det, conds]
  have faults : v.faultRecalls = s.faultRecalls := by funext d; simp only [State.faultRecalls, det, faulted]
  have queued : v.queuedSets = s.queuedSets := by
    obtain ⟨h1, h2, h3⟩ := hs
    simp only [State.queuedSets, State.isCurrent, h1, h2, h3]
    rfl
  refine ⟨by simp only [State.serviceable, State.calls, used, latches, live, faults, recalls, green, queued], ?_⟩
  have extends_ : v.extends = s.extends := by funext d; simp only [State.extends, det, occupied, faulted]
  rw [State.extended, State.extended, extends_]

theorem extended_iff (s : State) (c : Chan) : has s.extended c = true ↔ ∃ d, has (s.extends d) c = true := has_detUnion

/-! ### The green timers that a tick has driven (R69 to R73) -/

/-- A green record after the driven timers of a tick, its latch aside. -/
def State.greenTicked (s : State) (c : Chan) : Green :=
  if (s.chan c).kind = .vehicle ∧ (s.chan c).ind = .green ∧ s.unit.mode ≠ .powerOut then
    (s.green c).tick (s.chan c).activeSet ((s.serviceable &&& conflictsOf s.compat.inUse c) != 0) (has s.extended c)
  else s.green c

theorem setFault_greens (d : Det) (k : DetectorFault) (s : State) : (setFault d k s).greens = s.greens := by
  rw [setFault_blocks]

theorem tickDetectors_handed (s : State) : ∃ m w, tickDetectors s = requestLatches m w ∧ w.greens = s.greens ∧
    w.chans = s.chans ∧ w.unit = s.unit := by
  have folded (f : State → Det → State) (h : ∀ s a, DetFault s (f s a)) (g : ∀ s a, (f s a).greens = s.greens) (l : List Det)
      (s : State) : (l.foldl f s).greens = s.greens ∧ (l.foldl f s).chans = s.chans ∧ (l.foldl f s).unit = s.unit := by
    have frame := (DetFault.foldl f h l s).1
    refine ⟨?_, by rw [frame], by rw [frame]⟩
    clear frame
    induction l generalizing s with
    | nil => rfl
    | cons a l ih => rw [List.foldl_cons, ih, g]
  have timed (s : State) (d : Det) : (takeTimedFault s d).greens = s.greens := by
    unfold takeTimedFault
    split
    · exact setFault_greens _ _ s
    · rfl
  have ended (s : State) (d : Det) : (endWindow s d).greens = s.greens := by
    unfold endWindow
    simp only
    split
    · rfl
    · split
      · generalize (if (s.det d).window < (s.det d).chatterLimit then (s.det d).cleanRun + 1 else 0) = n
        split
        · exact setFault_greens _ _ _
        · rfl
      · rfl
  obtain ⟨f1, f2, f3⟩ := folded takeTimedFault takeTimedFault_fault timed (List.finRange 24)
    { s with dets := vmap (fun d r => r.tick (s.detOccupied d)) s.dets }
  unfold tickDetectors handBegun
  simp only
  split
  · obtain ⟨g1, g2, g3⟩ := folded endWindow endWindow_fault ended (List.finRange 24)
      ((List.finRange 24).foldl takeTimedFault { s with dets := vmap (fun d r => r.tick (s.detOccupied d)) s.dets })
    exact ⟨_, _, rfl, g1.trans f1, g2.trans f2, g3.trans f3⟩
  · exact ⟨_, _, rfl, f1, f2, f3⟩

/-- The driven green record of a channel: its timers by the rules, its latch set at most when it is not GREEN. -/
theorem driveTick_green (s : State) (c : Chan) : (driveTick s).1.green c = s.greenTicked c ∨
    ((driveTick s).1.green c = { s.greenTicked c with latch := true } ∧ s.shown c ≠ .green) := by
  obtain ⟨m, l, driven, -⟩ := driveTick_blocks s
  have once := tickOnce_blocks s
  have step := tickStep_blocks (tickOnce s)
  have seq : (tickStep (tickOnce s)).seq.queue = s.seq.queue ∧ (tickStep (tickOnce s)).seq.position = s.seq.position ∧
      (tickStep (tickOnce s)).seq.current = s.seq.current := by
    have same : (tickOnce s).seq = s.seq := by rw [once]
    unfold tickStep
    split <;> rw [← same] <;> exact ⟨rfl, rfl, rfl⟩
  have chans : (tickStep (tickOnce s)).chans = (driveTick s).1.chans := by
    obtain ⟨-, -, -, -, -, -, -, -, -, own, -⟩ := tickedInputs_blocks s
    rw [step, driven]
    exact own.symm
  have chan (d : Chan) : ∃ n, (tickStep (tickOnce s)).chan d = { s.chan d with timer := n } := by
    rw [State.chan, chans]
    change ∃ n, (driveTick s).1.chan d = _
    rw [driveTick_chan]
    split <;> exact ⟨_, rfl⟩
  have greens : (tickStep (tickOnce s)).greens = s.greens := by rw [step, once]
  have unit : (tickStep (tickOnce s)).unit = s.unit := by rw [step, once]
  have table : (tickStep (tickOnce s)).compat.inUse = s.compat.inUse := by
    rw [step, once]
    change (if _ then _ else _ : Compat).inUse = _
    split <;> rfl
  obtain ⟨serviceable, extended⟩ := serviceable_congr (s := s) (v := tickStep (tickOnce s))
    (fun d => by obtain ⟨n, e⟩ := chan d; rw [e]; exact ⟨rfl, rfl, rfl, rfl⟩) greens (by rw [step, once]) unit seq
  have own : (driveTick s).1.green c = (tickedInputs s).green c := by rw [driven]; rfl
  have ticked : (tickGreens (tickStep (tickOnce s))).green c = s.greenTicked c := by
    obtain ⟨n, e⟩ := chan c
    have same : (tickStep (tickOnce s)).greens.get c = s.green c := by rw [greens]; rfl
    simp only [tickGreens, State.green, vmap_get]
    rw [same, e, unit, serviceable, extended, table]
    rfl
  have shown : (tickGreens (tickStep (tickOnce s))).shown c = s.shown c := by
    obtain ⟨n, e⟩ := chan c
    change (if (tickStep (tickOnce s)).unit.mode = .powerOut then ((tickStep (tickOnce s)).chan c).held.getD .dark
      else ((tickStep (tickOnce s)).chan c).ind) = _
    rw [e, unit]
    rfl
  obtain ⟨k, w, handed, wg, wc, wu⟩ := tickDetectors_handed (tickGreens (tickStep (tickOnce s)))
  have wgreen : w.green c = s.greenTicked c := by rw [← ticked, State.green, wg]; rfl
  have wshown : w.shown c = s.shown c := by rw [← shown]; simp only [State.shown, State.chan, wc, wu]
  rw [own, tickedInputs, handed, requestLatches_green, wgreen, wshown]
  split
  · next h => exact .inr ⟨rfl, h.2.2⟩
  · exact .inl rfl

/-! ### A green that runs on through the moment (R70, R109) -/

/-- A green record but for its reduction clock, which may start, and its initial green, which a preempt may cut. -/
def GreenRuns (q : Bool) (g g' : Green) : Prop :=
  g' = { g with initial := g'.initial, clock := g'.clock } ∧ g'.initial ≤ g.initial ∧ (q = true → g'.initial = g.initial) ∧
    (g.clock ≠ none → g'.clock = g.clock) ∧ (g.clock = none → g'.clock = none ∨ g'.clock = some 0)

theorem GreenRuns.refl (q : Bool) (g : Green) : GreenRuns q g g := ⟨rfl, Nat.le_refl _, fun _ => rfl, fun _ => rfl, .inl⟩

/-- A vehicle channel is GREEN with its record running on, or has left GREEN for the moment. -/
def GreenOrLeft (q : Bool) (g : Green) (r : Channel) (g' : Green) : Prop :=
  r.kind = .vehicle ∧ ((r.ind = .green ∧ GreenRuns q g g') ∨ (r.ind ≠ .green ∧ r.ind ≠ .red))

theorem Item.greenOrLeft {q : Bool} {g : Green} {r r' : Channel} {x x' : Green} (h : Item q r x r' x')
    (hg : GreenOrLeft q g r x) : GreenOrLeft q g r' x' := by
  obtain ⟨kind, state⟩ := hg
  have notRed : r.ind ≠ .red := by
    rcases state with ⟨e, -⟩ | ⟨-, e⟩
    · rw [e]; nofun
    · exact e
  have used : r.used ≠ false := by simp [Channel.used, kind]
  cases h with
  | same => exact ⟨kind, state⟩
  | clock _ hi hn =>
    obtain ⟨-, e, hle, heq, k1, k2⟩ | ⟨e, -⟩ := state
    · refine ⟨kind, .inl ⟨hi, ?_, hle, heq, fun some => ?_, fun _ => .inr rfl⟩⟩
      · rw [e]
      · exact absurd ((k1 some).symm.trans hn) some
    · exact absurd hi e
  | initial n hq hn =>
    obtain ⟨hi, e, hle, heq, k1, k2⟩ | e := state
    · refine ⟨kind, .inl ⟨hi, ?_, hn.trans hle, fun y => ?_, k1, k2⟩⟩
      · rw [e]
      · rw [hq] at y; cases y
    · exact ⟨kind, .inr e⟩
  | amber => exact ⟨kind, .inr ⟨nofun, nofun⟩⟩
  | pedClear _ hk => rw [kind] at hk; cases hk
  | green _ _ _ hi => exact absurd hi notRed
  | clearance _ hk => rw [kind] at hk; cases hk
  | flash i _ h hi =>
    rcases h with h | h
    · exact absurd h used
    · exact absurd h notRed

/-- A vehicle channel GREEN before and after a tick carries its driven timers on. -/
theorem tick_green {q : Bool} {s : State} (hq : q = true → s.preemptsQuiet) {c : Chan} (hk : (s.chan c).kind = .vehicle)
    (hi : (s.chan c).ind = .green) (ht : ((tenthTick s).chan c).ind = .green) (hp : s.unit.mode ≠ .powerOut) :
    GreenRuns q ((s.green c).tick (s.chan c).activeSet ((s.serviceable &&& conflictsOf s.compat.inUse c) != 0)
      (has s.extended c)) ((tenthTick s).green c) := by
  have timed : (s.chan c).timed = false := by
    unfold Channel.timed
    rw [hi, hk]
    rfl
  have running : has s.expiring c = false := by
    unfold State.expiring
    split
    · rw [has_maskOf, timed]; rfl
    · exact has_zero c
  have hm : Faultless s := by
    rcases tickNoticed_cases s with k | ⟨-, mode, dark⟩
    · exact k
    · rw [tick_dark mode (dark c)] at ht
      cases ht
  obtain ⟨chan, green⟩ := tick_channel hm running
  have drivenChan : (driveTick s).1.chan c = s.chan c := by
    rw [driveTick_chan, if_neg (by rw [timed]; exact fun e => absurd e.2 nofun)]
  have shown : s.shown c = .green := by rw [State.shown, if_neg hp]; exact hi
  have drivenGreen : (driveTick s).1.green c = s.greenTicked c :=
    (driveTick_green s c).resolve_right fun e => e.2 shown
  have own : s.greenTicked c = (s.green c).tick (s.chan c).activeSet
      ((s.serviceable &&& conflictsOf s.compat.inUse c) != 0) (has s.extended c) := if_pos ⟨hk, hi, hp⟩
  have after := tickTail_conveys (q := q) s (fun e => tick_begins_quiet hm (hq e)) (GreenOrLeft q (s.greenTicked c))
    (fun r g r' g' h step => step.greenOrLeft h) (fun _ _ _ h => h) c
    (by rw [chan, green, drivenChan, drivenGreen]; exact ⟨hk, .inl ⟨hi, .refl q _⟩⟩)
  rw [← own]
  rcases after.2 with ⟨-, k⟩ | ⟨k, -⟩
  · exact k
  · exact absurd ht k

end Sys2Proof.Machine

/-! PROOFS. The running FIXED step through a moment and a tick, and O28. -/

namespace Sys2Proof.Machine

/-! ### A FIXED step with time left (R49) -/

/-- A current FIXED step at full green or at rest in CONTROLLED, with time left, not forced, no preempt about and no
transition running: the Sequencer of `s` with the same step in `t`. -/
structure StepGoesOn (s t : State) : Prop where
  mode : t.unit.mode = .controlled
  quiet : t.preemptsQuiet
  step : t.seq.current = true ∧ t.seq.queue = s.seq.queue ∧ t.seq.position = s.seq.position ∧
    t.seq.stepTimer = s.seq.stepTimer
  still : t.seq.transition = none ∧ t.seq.force = false
  fixed : ∃ r, t.record = some r ∧ r.termination = .fixed
  left : 0 < s.seq.stepTimer

theorem StepGoesOn.of_seq {s t u : State} (h : StepGoesOn s t) (hm : u.unit = t.unit) (hq : u.preemptsQuiet)
    (hs : u.seq.current = t.seq.current ∧ u.seq.queue = t.seq.queue ∧ u.seq.position = t.seq.position ∧
      u.seq.stepTimer = t.seq.stepTimer ∧ u.seq.transition = t.seq.transition ∧ u.seq.force = t.seq.force) :
    StepGoesOn s u := by
  obtain ⟨k1, k2, k3, k4⟩ := h.step
  obtain ⟨l1, l2, l3, l4, l5, l6⟩ := hs
  refine ⟨by rw [hm]; exact h.mode, hq, ⟨l1.trans k1, l2.trans k2, l3.trans k3, l4.trans k4⟩,
    ⟨l5.trans h.still.1, l6.trans h.still.2⟩, ?_, h.left⟩
  rw [State.record, l2, l3]
  exact h.fixed

/-- No judgment ends such a step (R48, R49). -/
theorem judge_goesOn {s t u : State} (hj : judge t = some u) (h : StepGoesOn s t) : StepGoesOn s u := by
  have quiet := judge_quiet hj h.quiet
  have none {p : Pre} (e : t.arb.holder = some p) : False := by rw [h.quiet.1] at e; cases e
  have rest {v : State} (e : u = v) (hm : v.unit = t.unit) (hs : v.seq = t.seq) : StepGoesOn s u := by
    subst e
    exact h.of_seq hm quiet (by rw [hs]; exact ⟨rfl, rfl, rfl, rfl, rfl, rfl⟩)
  rcases judge_cases hj with k | k | ⟨-, k | k | k | k | k | k | k | k | k | k⟩ | ⟨hm, -⟩
  · obtain ⟨-, e⟩ := judgeClocks_some k
    exact rest e rfl rfl
  · obtain ⟨p, r, -, e⟩ := judgeRequests_some k
    exact rest e rfl rfl
  · obtain ⟨p, hp, -⟩ := judgeSlot_some k
    have := bestPending_pending hp
    rw [(h.quiet.2 p).1] at this
    cases this
  · obtain ⟨-, e⟩ := judgeOwed_some k
    have touched := terminateAll_touches (t.seq.owedEnds &&& t.runOut) t
    subst e
    exact h.of_seq touched.calm.1 quiet (by rw [touched.seq]; exact ⟨rfl, rfl, rfl, rfl, rfl, rfl⟩)
  · obtain ⟨p, hp, -⟩ := judgeStage_some k
    exact (none hp).elim
  · obtain ⟨tr, c, e, -⟩ := judgeStart_some k
    rw [h.still.1] at e
    cases e
  · obtain ⟨tr, e, -⟩ := judgeFull_some k
    rw [h.still.1] at e
    cases e
  · obtain ⟨p, hp, -⟩ := judgeTrack_some k
    exact (none hp).elim
  · obtain ⟨p, hp, -⟩ := judgeDwell_some k
    exact (none hp).elim
  · obtain ⟨p, i, drop, hp, -⟩ := judgeExit_some k
    exact (none hp).elim
  · obtain ⟨r, -, hr, ends⟩ := judgeTermination_some k
    have stays : t.mayTerminate r = false := by
      obtain ⟨r', hr', fixed⟩ := h.fixed
      rw [hr] at hr'
      obtain rfl := Option.some.inj hr'
      have left : t.seq.stepTimer ≠ 0 := by
        rw [h.step.2.2.2]
        exact Nat.ne_of_gt h.left
      simp [State.mayTerminate, fixed, h.still.2, left]
    rcases ends with ⟨e, -⟩ | ⟨e, -⟩ | ⟨-, -, e⟩
    · rw [stays] at e; cases e
    · rw [stays] at e; cases e
    · subst e
      exact h.of_seq rfl quiet ⟨rfl, rfl, rfl, rfl, rfl, rfl⟩
  · obtain ⟨e, -⟩ := judgeFirst_some k
    rw [h.step.1] at e
    cases e
  · rw [h.mode] at hm
    cases hm

theorem settle_goesOn {s old new : State} (h : StepGoesOn s new) : StepGoesOn s (settle old new) := by
  have noted (o t : State) (k : StepGoesOn s t) : StepGoesOn s (noting o t) :=
    k.of_seq (noting_unit o t) (preemptsQuiet_of (noting_pres o t) (by rw [noting_arb]) k.quiet)
      (by rw [noting_seq]; exact ⟨rfl, rfl, rfl, rfl, rfl, rfl⟩)
  exact settle_induction (StepGoesOn s) (fun t u hj k => noted t u (judge_goesOn hj k)) old new (noted old new h)

/-- A tick of CONTROLLED that stays there ends with the settling of its expiries. -/
theorem tick_settled {s : State} (hm : s.unit.mode = .controlled)
    (settled : (settle s (expireAll s.expiring (tickNoticed s))).unit.mode = .controlled)
    (stays : (tenthTick s).unit.mode = .controlled) : tenthTick s = settle s (expireAll s.expiring (tickNoticed s)) := by
  have controlled : takeEntryRedEnd (s.unit.mode == .entryRed && s.unit.entryRedTimer == 1)
      (settle s (expireAll s.expiring (tickNoticed s))) = settle s (expireAll s.expiring (tickNoticed s)) :=
    if_neg (by rw [hm]; nofun)
  rw [tenthTick_eq, tickTail] at stays ⊢
  simp only [controlled] at stays ⊢
  split at stays
  · have lost : linkLoss (settle s (expireAll s.expiring (tickNoticed s))) =
        enterClearing .linkLost (settle s (expireAll s.expiring (tickNoticed s))) := if_pos (.inr settled)
    obtain ⟨-, -, mode⟩ := enterClearing_settled (settle s (expireAll s.expiring (tickNoticed s))) .linkLost
      (settle s (expireAll s.expiring (tickNoticed s)))
    rw [← lost] at mode
    rcases mode with e | e <;> rw [e] at stays <;> cases stays
  · next h => exact if_neg h

/-- A FIXED step with more than one tenth left goes on through a tick that leaves the unit in CONTROLLED. -/
theorem tick_step {s : State} {r : StepRecord} (hm : s.unit.mode = .controlled) (hc : s.seq.current = true)
    (ht : s.seq.transition = none) (hr : s.record = some r) (hf : r.termination = .fixed) (force : s.seq.force = false)
    (left : 1 < s.seq.stepTimer) (quiet : s.preemptsQuiet) (stays : (tenthTick s).unit.mode = .controlled) :
    (tenthTick s).seq.current = true ∧ (tenthTick s).seq.queue = s.seq.queue ∧
      (tenthTick s).seq.position = s.seq.position ∧ (tenthTick s).seq.stepTimer = s.seq.stepTimer - 1 := by
  have faultless : Faultless s := tick_faultless (.inl (by rw [stays]; nofun))
  have begins := tick_begins_quiet faultless quiet
  obtain ⟨-, -, -, -, seq, unit⟩ := faultless
  have touched := expireAll_touches s.expiring (tickNoticed s)
  have driven : (tickNoticed s).seq = { s.seq with stepTimer := s.seq.stepTimer - 1 } := by
    rw [seq, driveTick_seq, if_pos hm]
  have start : StepGoesOn { s with seq := { s.seq with stepTimer := s.seq.stepTimer - 1 } }
      (expireAll s.expiring (tickNoticed s)) := by
    have same : (expireAll s.expiring (tickNoticed s)).seq =
        { s.seq with stepTimer := s.seq.stepTimer - 1, owedEnds := (expireAll s.expiring (tickNoticed s)).seq.owedEnds } := by
      rw [touched.seq, driven]
    refine ⟨?_, begins, ?_, ?_, ⟨r, ?_, hf⟩, ?_⟩
    · rw [touched.calm.1, unit, unitTick_control]; exact hm
    · rw [same]; exact ⟨hc, rfl, rfl, rfl⟩
    · rw [same]; exact ⟨ht, force⟩
    · rw [State.record, same]; exact hr
    · change 0 < s.seq.stepTimer - 1
      omega
  have settled := settle_goesOn (old := s) start
  rw [tick_settled hm settled.mode stays]
  exact settled.step

/-! ### The green timers in an outage (R81) -/

/-- In POWER_OUT the judgments of a moment leave every green record. -/
theorem settle_frozen {old new : State} (h : new.unit.mode = .powerOut) : (settle old new).greens = new.greens := by
  refine (settle_induction (fun t => t.unit.mode = .powerOut ∧ t.greens = new.greens) (fun t u hj ⟨hm, hg⟩ => ?_) old new
    ⟨by rw [noting_unit]; exact h, noting_greens old new⟩).2
  rw [noting_unit, noting_greens]
  rcases judge_cases hj with k | k | ⟨k, -⟩ | ⟨k, -⟩
  · obtain ⟨some, -⟩ := judgeClocks_some k
    exact absurd (if_pos (.inl hm)) some
  · obtain ⟨p, r, -, e⟩ := judgeRequests_some k
    rw [e]
    exact ⟨hm, hg⟩
  · rw [hm] at k; cases k
  · rw [hm] at k; cases k

theorem tickTail_frozen (s : State) {u : State} (h : u.unit.mode = .powerOut) : (tickTail s u).greens = u.greens := by
  have mode : (settle s u).unit.mode = .powerOut := by rw [(settle_uncontrolled s (by rw [h]; rfl)).mode, h]
  have stays : takeEntryRedEnd (s.unit.mode == .entryRed && s.unit.entryRedTimer == 1) (settle s u) = settle s u :=
    if_neg (by rw [mode]; simp)
  unfold tickTail
  simp only [stays]
  split
  · have lost : (linkLoss (settle s u)).unit.mode = .powerOut ∧ (linkLoss (settle s u)).greens = (settle s u).greens := by
      unfold linkLoss
      rw [if_neg (by rw [mode]; rintro (e | e) <;> cases e)]
      split <;> exact ⟨mode, rfl⟩
    rw [settle_frozen lost.1, lost.2, settle_frozen h]
  · exact settle_frozen h

/-- In POWER_OUT a tick leaves the green timers of every channel. -/
theorem tick_frozen {s : State} (h : s.unit.mode = .powerOut) (c : Chan) :
    (tenthTick s).green c = { s.green c with latch := ((tenthTick s).green c).latch } := by
  have out : s.unit.mode.isControl = false := by rw [h]; rfl
  obtain ⟨-, greens, -, -, -, unit⟩ := tick_faultless (.inr out)
  have mode : (tickNoticed s).unit.mode = .powerOut := by rw [unit, unitTick_control]; exact h
  have last : (tenthTick s).green c = (driveTick s).1.green c := by
    rw [tenthTick_eq, expireAll_none (not_expiring out), State.green, tickTail_frozen s mode, greens]
    rfl
  have frozen : s.greenTicked c = s.green c := if_neg (fun e => e.2.2 h)
  rcases driveTick_green s c with e | ⟨e, -⟩ <;> rw [last, e, frozen]

/-! ### O28 -/

theorem pressed_some (s : State) (c : Chan) : s.pressed c = true ↔
    ∃ d, has s.serviceable d = true ∧ compatible s.compat.inUse c d = false := by
  rw [pressed_iff, and_ne_zero]
  simp only [has_conflictsOf, Bool.not_eq_true']

/-- What a whole tick makes of the green record of a vehicle channel GREEN before and after it. -/
theorem tick_greenTimers {s : State} (hp : s.unit.mode ≠ .powerOut) {c : Chan} (hk : (s.chan c).kind = .vehicle)
    (hi : (s.chan c).ind = .green) (ht : ((tenthTick s).chan c).ind = .green) :
    let old := s.green c
    let new := (tenthTick s).green c
    let pressed := ∃ d, has s.serviceable d = true ∧ compatible s.compat.inUse c d = false
    let clock := old.clock.map (fun n => min 65535 (n + 1))
    let allowed := allowedGap (s.chan c).activeSet clock
    new.elapsed = min 65535 (old.elapsed + 1) ∧
    new.initial ≤ old.initial - 1 ∧ (s.preemptsQuiet → new.initial = old.initial - 1) ∧
    (old.clock ≠ none → new.clock = clock) ∧ (old.clock = none → new.clock = none ∨ new.clock = some 0) ∧
    ((∃ d, has (s.extends d) c = true) → new.gap = allowed) ∧
    ((∀ d, has (s.extends d) c = false) → new.gap = min (old.gap - 1) allowed) ∧
    (pressed → new.maxTimer = old.maxTimer - 1 ∧ new.maxOut = (old.maxOut || old.maxTimer - 1 == 0)) ∧
    (¬ pressed → new.maxTimer = old.maxTimer ∧ new.maxOut = old.maxOut) ∧
    new.latch = old.latch ∧ new.actCount = old.actCount := by
  have cut := tick_green (q := false) nofun hk hi ht hp
  have uncut (quiet : s.preemptsQuiet) := (tick_green (q := true) (fun _ => quiet) hk hi ht hp).2.2.1 rfl
  generalize (tenthTick s).green c = new at *
  obtain ⟨e, initial, -, clock, noClock⟩ := cut
  have timers : new.elapsed = min 65535 ((s.green c).elapsed + 1) ∧
      new.gap = gapTick (allowedGap (s.chan c).activeSet ((s.green c).clock.map (fun n => min 65535 (n + 1)))) (has s.extended c)
        (s.green c).gap ∧ new.latch = (s.green c).latch ∧ new.actCount = (s.green c).actCount := by
    rw [e]
    exact ⟨rfl, rfl, rfl, rfl⟩
  have max : new.maxTimer = (if (s.serviceable &&& conflictsOf s.compat.inUse c) != 0 then (s.green c).maxTimer - 1
        else (s.green c).maxTimer) ∧
      new.maxOut = ((s.green c).maxOut || ((s.serviceable &&& conflictsOf s.compat.inUse c) != 0 &&
        (if (s.serviceable &&& conflictsOf s.compat.inUse c) != 0 then (s.green c).maxTimer - 1
          else (s.green c).maxTimer) == 0)) := by
    rw [e]
    exact ⟨rfl, rfl⟩
  have pressing : ((s.serviceable &&& conflictsOf s.compat.inUse c) != 0) = true ↔
      ∃ d, has s.serviceable d = true ∧ compatible s.compat.inUse c d = false := pressed_some s c
  obtain ⟨t1, t2, t3, t4⟩ := timers
  obtain ⟨m1, m2⟩ := max
  generalize ((s.serviceable &&& conflictsOf s.compat.inUse c) != 0) = b at *
  refine ⟨t1, initial, uncut, fun h => clock ?_, fun h => noClock ?_, fun h => ?_, fun h => ?_, fun h => ?_, fun h => ?_, t3, t4⟩
  · change Option.map _ _ ≠ none
    simpa using h
  · change Option.map _ _ = none
    rw [h]; rfl
  · rw [t2, (extended_iff s c).mpr h]
    rfl
  · have none : has s.extended c = false := by
      rw [← Bool.not_eq_true, extended_iff]
      rintro ⟨d, hd⟩
      rw [h d] at hd
      cases hd
    rw [t2, none]
    rfl
  · rw [m1, m2, pressing.mpr h]
    exact ⟨rfl, rfl⟩
  · have off : b = false := Bool.not_eq_true _ ▸ fun k => h (pressing.mp k)
    rw [m1, m2, off]
    exact ⟨rfl, Bool.or_false _⟩

/-- Settles O28, each row by its guard and the tick by what it drives. -/
theorem greenTimerEvents : Obligations.GreenTimerEvents := by
  unfold Obligations.GreenTimerEvents
  refine ⟨fun s r hm hc hp hr hf h1 => ?_, fun c s hp hk hi => ?_, fun e s t h k => ?_⟩
  · refine if_pos ⟨hm, ?_, h1⟩
    rcases hp with hp | hp <;> simp [State.fixedRuns, hc, hp, hr, hf]
  · have timed : s.timesGreen c = true := by simp [State.timesGreen, hp, hk, hi]
    refine ⟨fun h1 => if_pos ⟨timed, h1⟩, fun none h1 => if_pos ?_,
      fun pressed h1 => if_pos ⟨timed, (pressed_some s c).mpr pressed, h1⟩⟩
    have off : has s.extended c = false := by
      rw [← Bool.not_eq_true, extended_iff]
      rintro ⟨d, hd⟩
      rw [none d] at hd
      cases hd
    simp [State.gapEnds, timed, off, h1, gapTick]
  · obtain rfl := Host.Outcome.next.inj ((exec_takesTenth h).symm.trans k)
    generalize s.tickTime e = x
    exact ⟨fun hm c => tick_frozen (s := { s with time := x }) hm c,
      fun hp c hk hi ht => tick_greenTimers (s := { s with time := x }) hp hk hi ht,
      fun r hm hc _ ht hr hf force left quiet stays =>
        tick_step (s := { s with time := x }) hm hc ht hr hf force left quiet stays⟩

end Sys2Proof.Machine

/-! PROOFS. The events of a preempt, and its timers at a tenth tick (O32). -/

namespace Sys2Proof.Machine

/-! ### A request that waits (R105) -/

/-- The request `p` waits as `v` out of the slot. -/
def Waits (p : Pre) (v : Preempt) (t : State) : Prop := t.pre p = v ∧ t.arb.holder ≠ some p

/-- A request that cannot move and is not PENDING waits through the judgments of a moment. -/
theorem settle_waiting {old new : State} {p : Pre} {v : Preempt} (hv : v.move = none) (hs : v.state ≠ .pending)
    (h : Waits p v new) : Waits p v (settle old new) := by
  refine settle_induction (Waits p v) (fun t u hj ⟨e, k⟩ => ?_) old new
    ⟨(pre_of_pres (noting_pres old new) p).trans h.1, by rw [noting_arb]; exact h.2⟩
  obtain ⟨pre, hold⟩ := judge_pre hj
  refine ⟨?_, ?_⟩
  · rw [pre_of_pres (noting_pres t u)]
    rcases (pre p).unserved k (by rw [e]; exact hs) with x | x
    · rw [x, e]
    · rw [e, hv] at x; cases x
  · rw [noting_arb]
    rcases hold with x | x | ⟨q, x, hb, -⟩
    · rw [x]; exact k
    · rw [x]; nofun
    · rw [x]
      rintro same
      obtain rfl := Option.some.inj same
      exact hs (by rw [← e]; exact bestPending_pending hb)

theorem Waits.of_slot {p : Pre} {v : Preempt} {s t : State} (h : Waits p v s) (hp : t.pres = s.pres)
    (ha : t.arb.holder = s.arb.holder) : Waits p v t :=
  ⟨(pre_of_pres hp p).trans h.1, by rw [ha]; exact h.2⟩

theorem leaveService_waits {p : Pre} {v : Preempt} {s : State} (h : Waits p v s) : Waits p v (leaveService s) := by
  unfold leaveService
  cases hs : s.arb.holder with
  | none => exact ⟨h.1, nofun⟩
  | some q =>
    have ne : p ≠ q := fun e => h.2 (e ▸ hs)
    refine ⟨?_, nofun⟩
    change (s.setPre q (s.pre q).putOut).pre p = v
    rw [setPre_get, if_neg ne]
    exact h.1

theorem linkLoss_waits {p : Pre} {v : Preempt} {s : State} (h : Waits p v s) : Waits p v (linkLoss s) := by
  unfold linkLoss
  split
  · have left : Waits p v (leaveService (stopExecution s)) := leaveService_waits (h.of_slot rfl rfl)
    exact left.of_slot (by rw [enterClearing, changeMode_pres]; rfl) (by rw [enterClearing, changeMode_arb]; rfl)
  · split <;> exact h.of_slot rfl rfl

theorem tickTail_waits (s : State) {u : State} {p : Pre} {v : Preempt} (hv : v.move = none) (hs : v.state ≠ .pending)
    (h : Waits p v u) : Waits p v (tickTail s u) := by
  have ended : Waits p v (takeEntryRedEnd (s.unit.mode == .entryRed && s.unit.entryRedTimer == 1) (settle s u)) := by
    have settled := settle_waiting (old := s) hv hs h
    unfold takeEntryRedEnd
    split
    · refine settle_waiting hv hs (settled.of_slot ?_ ?_)
      · rw [enterControlled, changeMode_pres]
      · rw [enterControlled, changeMode_arb]
    · exact settled
  unfold tickTail
  simp only
  split
  · exact settle_waiting hv hs (linkLoss_waits ended)
  · exact ended

/-- The preempts as a tick without a fault hands them to its consequences. -/
theorem tick_pre {s : State} (hf : Faultless s) : let u := expireAll s.expiring (tickNoticed s)
    (∀ p, u.pre p = (s.pre p).tick s.unit.mode) ∧ u.arb = s.arb ∧ u.unit.mode = s.unit.mode ∧
      u.seq.transition = s.seq.transition := by
  obtain ⟨-, -, pres, arb, seq, unit⟩ := hf
  have touched := expireAll_touches s.expiring (tickNoticed s)
  obtain ⟨hu, -, -, hp, ha, -⟩ := touched.calm
  obtain ⟨slot, -, ticked⟩ := driveTick_arbiter s
  refine ⟨fun p => ?_, by rw [ha, arb, slot], by rw [hu, unit, unitTick_control], ?_⟩
  · rw [pre_of_pres hp, pre_of_pres pres, ticked]
  · rw [touched.seq]
    change (tickNoticed s).seq.transition = _
    rw [seq, driveTick_seq]
    split <;> rfl

/-- A DELAYING request that stays wanted delays on through a tick, its timer frozen in POWER_OUT (R105, R115). -/
theorem tick_delaying {s : State} (hm : (tenthTick s).unit.mode ≠ .faultFlash ∨ s.unit.mode = .faultFlash) {p : Pre}
    (hh : s.arb.holder ≠ some p) (hd : (s.pre p).state = .delaying) (he : (s.pre p).cfg.enable = true)
    (ht : 1 < (s.pre p).delayTimer) (ha : ((tenthTick s).pre p).active = true) :
    ((tenthTick s).pre p).state = .delaying ∧ ((tenthTick s).pre p).delayTimer =
      if s.unit.mode = .powerOut then (s.pre p).delayTimer else (s.pre p).delayTimer - 1 := by
  have faultless : Faultless s := tick_faultless (hm.imp_right fun e => by rw [e]; rfl)
  obtain ⟨pre, arb, -⟩ := tick_pre faultless
  have timer : ((s.pre p).tick s.unit.mode).delayTimer =
      if s.unit.mode = .powerOut then (s.pre p).delayTimer else (s.pre p).delayTimer - 1 := by
    by_cases h : s.unit.mode = .powerOut <;> simp [Preempt.tick, hd, h]
  have active : ((s.pre p).tick s.unit.mode).active = true := by
    obtain ⟨level, -, -, stuck, -⟩ := (tenthTick_after s).levels p
    rw [(driveTick_arbiter s).2.2] at level stuck
    rw [Preempt.active, level, stuck] at ha
    exact ha
  have still : ((s.pre p).tick s.unit.mode).move = none := by
    have wants : ((s.pre p).tick s.unit.mode).wants = true := by
      rw [Preempt.wants, active, Bool.and_true]
      exact he
    rw [delaying_move (r := (s.pre p).tick s.unit.mode) hd, if_pos wants, if_neg]
    rw [timer]
    split <;> omega
  have waits := tickTail_waits s (p := p) still (by change (s.pre p).state ≠ _; rw [hd]; nofun)
    (u := expireAll s.expiring (tickNoticed s)) ⟨pre p, by rw [arb]; exact hh⟩
  rw [← tenthTick_eq] at waits
  rw [waits.1]
  exact ⟨hd, timer⟩

theorem moves_serviceTimer {r v : Preempt} (h : Relation.ReflTransGen (fun r q => Preempt.move r = some q) r v) :
    v.serviceTimer = r.serviceTimer := by
  have one {x y : Preempt} (k : x.move = some y) : y.serviceTimer = x.serviceTimer := by
    unfold Preempt.move at k
    split at k
    · split at k <;> cases k; rfl
    · split at k
      · cases k; rfl
      · split at k <;> cases k; rfl
    · split at k <;> cases k; rfl
    · split at k
      · cases k; rfl
      · split at k <;> cases k; rfl
    all_goals cases k
  induction h with
  | refl => rfl
  | tail _ k ih => exact (one k).trans ih

/-- Outside the control modes a tick moves no service timer (R110, R111). -/
theorem tick_serviceTimer {s : State} (h : s.unit.mode.isControl = false) (p : Pre) :
    ((tenthTick s).pre p).serviceTimer = (s.pre p).serviceTimer := by
  obtain ⟨pre, -, mode, -⟩ := tick_pre (tick_faultless (.inr h))
  have tail := tickTail_uncontrolled s (u := expireAll s.expiring (tickNoticed s)) (by rw [mode]; exact h)
  rw [tenthTick_eq, moves_serviceTimer (tail.pre p), pre]
  exact if_neg (fun e => by rw [e] at h; cases h)

/-! ### A track or a dwell that goes on (R110, R111) -/

/-- Every transition that runs belongs to a step. -/
def StepOwned (s : State) : Prop := ∀ tr, s.seq.transition = some tr → tr.owner = .step

theorem StepOwned.of_transition {s t : State} (h : StepOwned s) (k : t.seq.transition = s.seq.transition) : StepOwned t :=
  fun tr e => h tr (k ▸ e)

theorem Touches.transition {m : Chan → Prop} {s t : State} (h : Touches m s t) : t.seq.transition = s.seq.transition := by
  rw [h.seq]

theorem makeCurrent_owned (i : Nat) (drop : Bool) (s : State) : StepOwned (makeCurrent i drop s) := by
  intro tr e
  unfold makeCurrent beginStepTransition at e
  rw [(terminateAll_touches _ _).transition] at e
  obtain rfl := Option.some.inj e
  rfl

theorem startMoment_owned {c : Chan} {s : State} (h : StepOwned s) : StepOwned (startMoment c s) := by
  have classed (k : TransitionClass) : StepOwned (setClass c k s) := by
    cases ht : s.seq.transition with
    | none =>
      rw [show setClass c k s = s by simp only [setClass, ht]]
      exact h
    | some x =>
      rw [setClass_eq ht]
      intro tr e
      obtain rfl := Option.some.inj e
      exact h x ht
  unfold startMoment
  split
  · exact classed _
  · exact (classed _).of_transition (startChannel_touches c _).transition

/-- The holder `p` is in TRACK or in DWELL as `r` with time left, no other preempt about, and a DWELL has no transition of its
own running. -/
structure ServiceGoesOn (p : Pre) (r : Preempt) (t : State) : Prop where
  mode : t.unit.mode = .controlled
  holder : t.arb.holder = some p
  own : t.pre p = r
  serves : r.state = .track ∨ r.state = .dwell
  left : r.serviceTimer ≠ 0
  others : ∀ q, q ≠ p → (t.pre q).state = .idle ∧ (t.pre q).active = false
  owned : r.state = .dwell → StepOwned t

theorem ServiceGoesOn.of_slot {p : Pre} {r : Preempt} {t u : State} (h : ServiceGoesOn p r t) (hm : u.unit = t.unit)
    (hp : u.pres = t.pres) (ha : u.arb = t.arb) (ho : r.state = .dwell → StepOwned t → StepOwned u) : ServiceGoesOn p r u :=
  ⟨by rw [hm]; exact h.mode, by rw [ha]; exact h.holder, (pre_of_pres hp p).trans h.own, h.serves, h.left,
    fun q hq => by rw [pre_of_pres hp]; exact h.others q hq, fun e => ho e (h.owned e)⟩

theorem judge_serves {p : Pre} {r : Preempt} {t u : State} (hj : judge t = some u) (h : ServiceGoesOn p r t) :
    ServiceGoesOn p r u := by
  have holder {q : Pre} (e : t.arb.holder = some q) : q = p := Option.some.inj (e.symm.trans h.holder)
  have busy {q : Pre} (e : t.arb.holder = some q) {k : PreemptState} (hq : (t.pre q).state = k) (h1 : k ≠ .track)
      (h2 : k ≠ .dwell) : False := by
    rw [holder e, h.own] at hq
    rcases h.serves with x | x <;> rw [x] at hq
    · exact h1 hq.symm
    · exact h2 hq.symm
  have running {q : Pre} (e : t.arb.holder = some q) (hq : (t.pre q).serviceTimer = 0) : False := by
    rw [holder e, h.own] at hq
    exact h.left hq
  rcases judge_cases hj with k | k | ⟨-, k | k | k | k | k | k | k | k | k | k⟩ | ⟨hm, -⟩
  · obtain ⟨-, rfl⟩ := judgeClocks_some k
    exact h.of_slot rfl rfl rfl fun _ => id
  · obtain ⟨q, v, moved, -⟩ := judgeRequests_some k
    by_cases e : q = p
    · rw [e, h.own] at moved
      rcases h.serves with x | x <;> simp [Preempt.move, x] at moved
    · obtain ⟨idle, off⟩ := h.others q e
      rw [idle_move idle, Preempt.wants, off, Bool.and_false] at moved
      cases moved
  · obtain ⟨q, hq, -⟩ := judgeSlot_some k
    have pending := bestPending_pending hq
    by_cases e : q = p
    · rw [e, h.own] at pending
      rcases h.serves with x | x <;> rw [x] at pending <;> cases pending
    · rw [(h.others q e).1] at pending
      cases pending
  · obtain ⟨-, rfl⟩ := judgeOwed_some k
    have touched := terminateAll_touches (t.seq.owedEnds &&& t.runOut) t
    obtain ⟨unit, -, -, pres, arb, -⟩ := touched.calm
    exact h.of_slot unit pres arb fun _ o => o.of_transition touched.transition
  · obtain ⟨q, hq, entry, -⟩ := judgeStage_some k
    exact (busy hq entry nofun nofun).elim
  · obtain ⟨tr, c, -, -, rfl⟩ := judgeStart_some k
    have slot := startMoment_slot c t
    have unit : (startMoment c t).unit = t.unit := by
      unfold startMoment
      split
      · unfold setClass; split <;> rfl
      · rw [(startChannel_touches c _).calm.1]
        unfold setClass; split <;> rfl
    exact h.of_slot unit slot.1 slot.2 fun _ o => startMoment_owned o
  · obtain ⟨tr, htr, -, ⟨-, rfl⟩ | ⟨owner, ⟨none, -⟩ | ⟨q, hq, rfl⟩⟩⟩ := judgeFull_some k
    · exact h.of_slot rfl rfl rfl fun _ _ => nofun
    · rw [h.holder] at none; cases none
    · have track : r.state = .track := by
        refine h.serves.resolve_right fun dwell => ?_
        rw [h.owned dwell tr htr] at owner
        cases owner
      have same : (t.pre q).atFullGreen = t.pre q := by
        rw [holder hq, h.own, Preempt.atFullGreen, track]
      have pre (x : Pre) : (({ t with seq := { t.seq with transition := none } } : State).setPre q
          (t.pre q).atFullGreen).pre x = t.pre x := by
        rw [setPre_get, same]
        split
        · next e => rw [e]
        · rfl
      exact ⟨h.mode, h.holder, (pre p).trans h.own, h.serves, h.left, fun x hx => by rw [pre]; exact h.others x hx,
        fun _ _ e => nomatch e⟩
  · obtain ⟨q, hq, -, zero, -⟩ := judgeTrack_some k
    exact (running hq zero).elim
  · obtain ⟨q, hq, -, -, zero, -⟩ := judgeDwell_some k
    exact (running hq zero).elim
  · obtain ⟨q, i, drop, hq, exit, -⟩ := judgeExit_some k
    exact (busy hq exit nofun nofun).elim
  · have current (i : Nat) : ServiceGoesOn p r (makeCurrent i true t) := by
      have slot := makeCurrent_slot i true t
      have unit : (makeCurrent i true t).unit = t.unit := by
        unfold makeCurrent beginStepTransition
        rw [(terminateAll_touches _ _).calm.1]
        rfl
      exact h.of_slot unit slot.1 slot.2 fun _ _ => makeCurrent_owned i true t
    obtain ⟨x, -, -, ⟨-, i, -, rfl⟩ | ⟨-, -, -, rfl⟩ | ⟨-, -, rfl⟩⟩ := judgeTermination_some k
    · exact current i
    · exact h.of_slot rfl rfl rfl fun _ o => o
    · exact h.of_slot rfl rfl rfl fun _ o => o
  · obtain ⟨-, none, -⟩ := judgeFirst_some k
    rw [h.holder] at none
    cases none
  · rw [h.mode] at hm
    cases hm

theorem settle_serves {p : Pre} {r : Preempt} {old new : State} (h : ServiceGoesOn p r new) :
    ServiceGoesOn p r (settle old new) := by
  have noted (o t : State) (k : ServiceGoesOn p r t) : ServiceGoesOn p r (noting o t) :=
    k.of_slot (noting_unit o t) (noting_pres o t) (noting_arb o t) fun _ x => x.of_transition (by rw [noting_seq])
  exact settle_induction (ServiceGoesOn p r) (fun t u hj k => noted t u (judge_serves hj k)) old new (noted old new h)

/-- A TRACK, and a DWELL out of transition, goes on through a tick of CONTROLLED while no other preempt asks. -/
theorem tick_serves {s : State} (hm : s.unit.mode = .controlled) (stays : (tenthTick s).unit.mode = .controlled) {p : Pre}
    (hh : s.arb.holder = some p) (hs : (s.pre p).state = .track ∨ ((s.pre p).state = .dwell ∧ s.seq.transition = none))
    (ht : 1 < (s.pre p).serviceTimer) (others : ∀ q, q ≠ p → (s.pre q).state = .idle ∧ (s.pre q).active = false) :
    (tenthTick s).arb.holder = some p ∧ ((tenthTick s).pre p).state = (s.pre p).state ∧
      ((tenthTick s).pre p).serviceTimer = (s.pre p).serviceTimer - 1 := by
  obtain ⟨pre, arb, mode, transition⟩ := tick_pre (tick_faultless (s := s) (.inl (by rw [stays]; nofun)))
  have timer : ((s.pre p).tick s.unit.mode).serviceTimer = (s.pre p).serviceTimer - 1 := if_pos hm
  have start : ServiceGoesOn p ((s.pre p).tick s.unit.mode) (expireAll s.expiring (tickNoticed s)) := by
    refine ⟨mode.trans hm, by rw [arb]; exact hh, pre p, hs.imp_right And.left, by rw [timer]; omega, fun q hq => ?_,
      fun dwell tr e => ?_⟩
    · rw [pre]
      exact tick_quiet (others q hq) _
    · have none : s.seq.transition = none := (hs.resolve_left fun k => by
        rw [show (s.pre p).state = .dwell from dwell] at k; cases k).2
      rw [transition, none] at e
      cases e
  have settled := settle_serves (old := s) start
  rw [tick_settled hm settled.mode stays, settled.own]
  exact ⟨settled.holder, rfl, timer⟩

/-! ### O32 -/

/-- What the judgments of a moment leave of a preempt that a row has just changed. -/
theorem settle_levels (old : State) (p : Pre) (s : State) (r : Preempt) : let t := settle old (s.setPre p r)
    (t.pre p).level = r.level ∧ (t.pre p).run = r.run ∧ (t.pre p).presence = r.presence ∧ (t.pre p).stuck = r.stuck ∧
      (t.pre p).cfg = r.cfg := by
  have k := (settle_after old (s.setPre p r)).levels p
  rwa [setPre_get, if_pos rfl] at k

/-- Where the request of a changed preempt comes to wait. -/
theorem settle_moved {old s : State} {p : Pre} {r v : Preempt} (hh : s.arb.holder ≠ some p) (hv : v.move = none)
    (hs : v.state ≠ .pending)
    (reach : ∀ w, Relation.ReflTransGen (fun r q => Preempt.move r = some q) r w → w.move = none → w = v) :
    (settle old (s.setPre p r)).pre p = v := by
  refine settle_waits hv hs (fun t ht hn => reach _ ?_ hn) hh
  have k := ht.pre p
  rwa [setPre_get, if_pos rfl] at k

/-- The end of the moves of a DELAYING request that is not wanted (R105). -/
theorem moves_falling {r w : Preempt} (hd : r.state = .delaying) (hw : r.wants = false)
    (k : Relation.ReflTransGen (fun r q => Preempt.move r = some q) r w) (hn : w.move = none) :
    w = { r with state := .idle, delayTimer := 0 } := by
  have first : r.move = some { r with state := .idle, delayTimer := 0 } := by
    rw [delaying_move hd, if_neg (by rw [hw]; nofun)]
  have off : Preempt.wants { r with state := .idle, delayTimer := 0 } = false := hw
  have last : Preempt.move { r with state := .idle, delayTimer := 0 } = none := by
    rw [idle_move rfl, if_neg (by rw [off]; nofun)]
  rcases Relation.ReflTransGen.cases_head k with e | ⟨q, hq, k⟩
  · rw [← e, first] at hn; cases hn
  · obtain rfl := Option.some.inj (first.symm.trans hq)
    exact moves_none last k

/-- A DELAYING request that is no longer wanted falls back to IDLE (R105). -/
theorem settle_falls {old s : State} {p : Pre} {r : Preempt} (hh : s.arb.holder ≠ some p) (hd : r.state = .delaying)
    (hw : r.wants = false) : (settle old (s.setPre p r)).pre p = { r with state := .idle, delayTimer := 0 } := by
  have off : Preempt.wants { r with state := .idle, delayTimer := 0 } = false := hw
  exact settle_moved hh (by rw [idle_move rfl, if_neg (by rw [off]; nofun)]) nofun
    fun w k hn => moves_falling hd hw k hn

theorem preemptKey_stuck {s : State} {p : Pre} {r : Preempt} (h : (s.pre p).stuck ≠ r.stuck) :
    preemptKey s ≠ preemptKey (s.setPre p r) := by
  intro e
  have lists := congrArg Prod.fst e
  simp only [preemptKey] at lists
  have own := List.map_inj_left.mp lists p (List.mem_finRange p)
  have stuck := congrArg (fun k => k.2.2.2) own
  have get : (s.setPre p r).pres.get p = r := by
    have k := setPre_get s p p r
    rwa [if_pos rfl] at k
  rw [get] at stuck
  exact h stuck

/-- Settles O32, each row by where the request comes to wait and the tick by what it drives. -/
theorem preemptEvents : Obligations.PreemptEvents := by
  unfold Obligations.PreemptEvents
  refine ⟨fun p s h => ?_, fun p s h1 h2 h3 h4 => ?_, fun p s h1 h2 h3 h4 h5 => ?_, fun p s h1 h2 h3 => ?_,
    fun e s t h k => ?_⟩
  · obtain ⟨k1, k2, k3, k4, k5⟩ := settle_levels s p s (s.pre p).turn
    refine ⟨_, if_pos h, k1, k2, k3, ?_, k5, fun hh idle low enable free delay => ?_, fun hh delaying high => ?_⟩
    · rw [k4]
      change (if (s.pre p).level then false else (s.pre p).stuck) = _
      cases (s.pre p).level <;> simp
    · have wants : (s.pre p).turn.wants = true := by
        simp [Preempt.wants, Preempt.turn, Preempt.active, low, enable, free]
      have moved : (settle s (s.setPre p (s.pre p).turn)).pre p =
          { (s.pre p).turn with state := .delaying, delayTimer := (s.pre p).cfg.delay } := by
        refine settle_moved hh ?_ nofun fun w k hn => ?_
        · have own : Preempt.wants { (s.pre p).turn with state := .delaying, delayTimer := (s.pre p).cfg.delay } = true := wants
          rw [delaying_move rfl, if_pos own]
          exact if_neg (Nat.ne_of_gt delay)
        · have waits := moves_idle (r := (s.pre p).turn) idle wants hn k
          rwa [if_neg (show ¬ (s.pre p).turn.cfg.delay = 0 from Nat.ne_of_gt delay)] at waits
      rw [moved]
      exact ⟨rfl, rfl⟩
    · have off : (s.pre p).turn.wants = false := by simp [Preempt.wants, Preempt.turn, Preempt.active, high]
      rw [settle_falls hh (r := (s.pre p).turn) delaying off]
      exact ⟨rfl, rfl⟩
  · have top : min Config.presenceTop ((s.pre p).presence + 1) = (s.pre p).presence + 1 := by
      simp only [Config.presenceTop]
      omega
    have sticks : (s.pre p).sticks = true := by
      rw [Preempt.sticks, h1, h2, top, h4]
      simp [Config.minute]
    have ran : exec (.preemptStuck p) s = .next (settle s (s.setPre p
        { s.pre p with presence := (s.pre p).presence + 1, stuck := true })) := by
      rw [← top]
      exact if_pos sticks
    obtain ⟨k1, -, k3, k4, -⟩ := settle_levels s p s { s.pre p with presence := (s.pre p).presence + 1, stuck := true }
    refine ⟨_, ran, k4, k1.trans h1, k3, settle_noted _ _ _ (noting_preempt (preemptKey_stuck ?_)), fun hh delaying => ?_⟩
    · rw [h2]; nofun
    · rw [settle_falls hh (r := { s.pre p with presence := (s.pre p).presence + 1, stuck := true }) delaying
        (by simp [Preempt.wants, Preempt.active])]
  · have ran : exec (.preemptDelayExpiry p) s = .next (settle s (s.setPre p { s.pre p with delayTimer := 0 })) :=
      if_pos ⟨h1, h2, h3, h5⟩
    have wants : (s.pre p).wants = true := by rw [Preempt.wants, h4, h3]; rfl
    have zero : Preempt.wants { s.pre p with delayTimer := 0 } = true := wants
    have pending : Preempt.wants { s.pre p with delayTimer := 0, state := .pending } = true := wants
    have first : Preempt.move { s.pre p with delayTimer := 0 } = some { s.pre p with delayTimer := 0, state := .pending } := by
      rw [delaying_move (r := { s.pre p with delayTimer := 0 }) h2, if_pos zero]
      exact if_pos rfl
    have last : Preempt.move { s.pre p with delayTimer := 0, state := .pending } = none :=
      (pending_move rfl).resolve_right fun e => by rw [pending] at e; cases e.1
    obtain ⟨⟨-, timer, states⟩, out⟩ := settle_coming (old := s) (new := s.setPre p { s.pre p with delayTimer := 0 })
      (p := p) last ⟨pending, rfl, by simp⟩ rfl fun t ht hn => by
        have k := ht.pre p
        rw [setPre_get, if_pos rfl] at k
        rcases Relation.ReflTransGen.cases_head k with e | ⟨q, hq, k⟩
        · rw [← e, first] at hn; cases hn
        · obtain rfl := Option.some.inj (first.symm.trans hq)
          exact moves_none last k
    refine ⟨_, ran, timer, ?_, ?_, fun hm => ?_⟩
    · intro e; rw [e] at states; simp at states
    · intro e; rw [e] at states; simp at states
    · rw [out hm]
  · have ends : endService s = { s with pres := vset s.pres p { s.pre p with serviceTimer := 0 } } := by
      unfold endService
      rw [h2]
      rfl
    rw [← ends]
    refine ⟨fun track => if_pos ?_, fun dwell none off => if_pos ⟨?_, ?_, ?_⟩⟩
    · simp [State.serviceEnds, h1, h2, track, h3]
    · simp [State.serviceEnds, h1, h2, dwell, h3]
    · rw [none]; rfl
    · simp [State.holderInactive, h2, off]
  · obtain rfl := Host.Outcome.next.inj ((exec_takesTenth h).symm.trans k)
    generalize s.tickTime e = x
    exact ⟨fun p hh hd he ht ha hm => tick_delaying (s := { s with time := x }) hm hh hd he ht ha,
      fun hm p => tick_serviceTimer (s := { s with time := x }) hm p,
      fun p hm stays hh hs ht others => tick_serves (s := { s with time := x }) hm stays hh hs ht others⟩

end Sys2Proof.Machine

/-! PROOFS. The eligible next step and the handover (R38 to R43). -/

namespace Sys2Proof.Machine

/-! ### The first of an ordered list -/

/-- The first element of a list in the order of a key is the one of least key that passes the test. -/
theorem find_ordered {α : Type} {p : α → Bool} {key : α → Nat} {l : List α} (h : l.Pairwise fun a b => key a < key b) (i : α) :
    l.find? p = some i ↔ i ∈ l ∧ p i = true ∧ ∀ j ∈ l, key j < key i → p j = false := by
  induction l with
  | nil => simp
  | cons a l ih =>
    obtain ⟨least, ordered⟩ := List.pairwise_cons.mp h
    by_cases pa : p a = true
    · rw [List.find?_cons_of_pos pa]
      refine ⟨fun e => ?_, fun ⟨mem, pi, first⟩ => ?_⟩
      · obtain rfl := Option.some.inj e
        refine ⟨List.mem_cons_self, pa, fun j hj lt => ?_⟩
        rcases List.mem_cons.mp hj with e | k
        · rw [e] at lt; exact absurd lt (lt_irrefl _)
        · exact absurd lt (Nat.lt_asymm (least j k))
      · rcases List.mem_cons.mp mem with e | k
        · rw [e]
        · rw [first a List.mem_cons_self (least i k)] at pa; cases pa
    · rw [List.find?_cons_of_neg pa, ih ordered]
      refine ⟨fun ⟨mem, pi, first⟩ => ⟨List.mem_cons_of_mem a mem, pi, fun j hj lt => ?_⟩, fun ⟨mem, pi, first⟩ => ?_⟩
      · rcases List.mem_cons.mp hj with e | k
        · rw [e]; exact Bool.not_eq_true _ ▸ pa
        · exact first j k lt
      · rcases List.mem_cons.mp mem with e | k
        · rw [e] at pi; exact absurd pi pa
        · exact ⟨k, pi, fun j hj lt => first j (List.mem_cons_of_mem a hj) lt⟩

/-! ### The records that are examined (R38 to R40) -/

/-- Whether an index holds a record that is not skipped (R38). -/
def examined (calls : ChanSet) (queue : List StepRecord) (j : Nat) : Bool :=
  match queue[j]? with
  | some r => !skipped calls r
  | none => false

theorem firstUnskipped_eq (calls : ChanSet) (queue : List StepRecord) (l : List Nat) :
    firstUnskipped calls queue l = l.find? (examined calls queue) := by
  induction l with
  | nil => rfl
  | cons i l ih =>
    cases hq : queue[i]? with
    | none =>
      rw [List.find?_cons_of_neg (by simp [examined, hq]), ← ih]
      simp only [firstUnskipped, hq]
    | some r =>
      cases hs : skipped calls r
      · rw [List.find?_cons_of_pos (by simp [examined, hq, hs])]
        simp [firstUnskipped, hq, hs]
      · rw [List.find?_cons_of_neg (by simp [examined, hq, hs]), ← ih]
        simp only [firstUnskipped, hq, hs, if_true]

theorem skipped_iff (calls : ChanSet) (r : StepRecord) :
    skipped calls r = true ↔ r.skip = true ∧ ∀ c, has r.greenSet c = true → has calls c = false := by
  simp only [skipped, Bool.and_eq_true, beq_iff_eq, mask_eq_zero, has_and, Bool.and_eq_false_iff]
  refine and_congr_right fun _ => forall_congr' fun c => ?_
  cases has r.greenSet c <;> simp

/-- A record is examined exactly when it is not skipped in the words of R38. -/
theorem examined_iff (calls : ChanSet) (queue : List StepRecord) (j : Nat) : examined calls queue j = true ↔
    ¬ ∀ r, queue[j]? = some r → r.skip = true ∧ ∀ c, has r.greenSet c = true → has calls c = false := by
  unfold examined
  cases hq : queue[j]? with
  | none => simp
  | some r =>
    simp only [Option.some.injEq, forall_eq', ← skipped_iff, Bool.not_eq_true', Bool.not_eq_true]

theorem examined_false (calls : ChanSet) (queue : List StepRecord) (j : Nat) : examined calls queue j = false ↔
    ∀ r, queue[j]? = some r → r.skip = true ∧ ∀ c, has r.greenSet c = true → has calls c = false := by
  rw [← Bool.not_eq_true, examined_iff, not_not]

/-- The place of an index in the circle that starts at a position (R39). -/
def circleKey (n p j : Nat) : Nat := (j + n - p) % n

theorem circleKey_after {n p j : Nat} (h : p ≤ j) (hj : j < n) : circleKey n p j = j - p := by
  have e : j + n - p = (j - p) + n := by omega
  rw [circleKey, e, Nat.add_mod_right, Nat.mod_eq_of_lt (by omega)]

theorem circleKey_before {n p j : Nat} (h : j < p) (hp : p < n) : circleKey n p j = j + n - p := by
  rw [circleKey, Nat.mod_eq_of_lt (by omega)]

/-- The circle of a CYCLE queue, without the position and with it. -/
theorem circle_ordered {n p : Nat} (hp : p < n) :
    (List.range' (p + 1) (n - (p + 1)) ++ List.range' 0 (min p n)).Pairwise (fun a b => circleKey n p a < circleKey n p b) ∧
    (∀ j, j ∈ List.range' (p + 1) (n - (p + 1)) ++ List.range' 0 (min p n) ↔ j < n ∧ j ≠ p) := by
  have mem (j : Nat) : j ∈ List.range' (p + 1) (n - (p + 1)) ++ List.range' 0 (min p n) ↔ j < n ∧ j ≠ p := by
    simp only [List.mem_append, List.mem_range'_1]
    omega
  refine ⟨List.pairwise_append.mpr ⟨?_, ?_, fun a ha b hb => ?_⟩, mem⟩
  · refine List.Pairwise.imp_of_mem (fun {a b} ha hb lt => ?_) List.pairwise_lt_range'
    simp only [List.mem_range'_1] at ha hb
    rw [circleKey_after (by omega) (by omega), circleKey_after (by omega) (by omega)]
    omega
  · refine List.Pairwise.imp_of_mem (fun {a b} ha hb lt => ?_) List.pairwise_lt_range'
    simp only [List.mem_range'_1] at ha hb
    rw [circleKey_before (by omega) hp, circleKey_before (by omega) hp]
    omega
  · simp only [List.mem_range'_1] at ha hb
    rw [circleKey_after (by omega) (by omega), circleKey_before (by omega) hp]
    omega

/-- An interval of indices in its order. -/
theorem range_ordered (a k : Nat) : (List.range' a k).Pairwise (fun i j => i < j) :=
  List.pairwise_lt_range'

theorem eligible_single {s : State} (hm : s.seq.mode = .single) (hp : s.seq.position = 0) (i : Nat) :
    s.eligible = some i ↔ 1 ≤ i ∧ i < s.seq.queue.length ∧ examined s.calls s.seq.queue i = true ∧
      ∀ j, 1 ≤ j → j < i → examined s.calls s.seq.queue j = false := by
  simp only [State.eligible, firstUnskipped_eq, State.handoverOrder, hm, hp]
  rw [find_ordered (key := id) (range_ordered _ _)]
  simp only [List.mem_range'_1, id_eq]
  refine ⟨fun ⟨mem, pi, first⟩ => ⟨by omega, by omega, pi, fun j h1 h2 => first j (by omega) h2⟩,
    fun ⟨h1, h2, pi, first⟩ => ⟨by omega, pi, fun j mem lt => first j (by omega) lt⟩⟩

theorem eligible_cycle {s : State} (hm : s.seq.mode = .cycle) (hp : s.seq.position < s.seq.queue.length) (i : Nat) :
    s.eligible = some i ↔ i < s.seq.queue.length ∧ i ≠ s.seq.position ∧ examined s.calls s.seq.queue i = true ∧
      ∀ j, j < s.seq.queue.length → j ≠ s.seq.position →
        circleKey s.seq.queue.length s.seq.position j < circleKey s.seq.queue.length s.seq.position i →
          examined s.calls s.seq.queue j = false := by
  obtain ⟨ordered, mem⟩ := circle_ordered hp
  simp only [State.eligible, firstUnskipped_eq, State.handoverOrder, hm]
  rw [find_ordered ordered]
  simp only [mem, and_imp, and_assoc]

theorem firstChoice_single {s : State} (hm : s.seq.mode = .single) (i : Nat) :
    s.firstChoice = some i ↔ i < s.seq.queue.length ∧ examined s.calls s.seq.queue i = true ∧
      ∀ j, j < i → examined s.calls s.seq.queue j = false := by
  simp only [State.firstChoice, firstUnskipped_eq, hm]
  rw [find_ordered (key := id) (range_ordered _ _)]
  simp only [List.mem_range'_1, id_eq, Nat.zero_le, true_and, Nat.zero_add]
  refine ⟨fun ⟨mem, pi, first⟩ => ⟨mem, pi, fun j lt => first j (by omega) lt⟩,
    fun ⟨h, pi, first⟩ => ⟨h, pi, fun j _ lt => first j lt⟩⟩

theorem firstChoice_cycle {s : State} (hm : s.seq.mode = .cycle) (hp : s.seq.position < s.seq.queue.length) (i : Nat) :
    s.firstChoice = some i ↔ i < s.seq.queue.length ∧ examined s.calls s.seq.queue i = true ∧
      ∀ j, j < s.seq.queue.length →
        circleKey s.seq.queue.length s.seq.position j < circleKey s.seq.queue.length s.seq.position i →
          examined s.calls s.seq.queue j = false := by
  obtain ⟨ordered, mem⟩ := circle_ordered hp
  have first : circleKey s.seq.queue.length s.seq.position s.seq.position = 0 := by
    rw [circleKey_after (Nat.le_refl _) hp, Nat.sub_self]
  simp only [State.firstChoice, firstUnskipped_eq, State.handoverOrder, hm]
  rw [find_ordered (key := circleKey s.seq.queue.length s.seq.position) (List.pairwise_cons.mpr ⟨fun j hj => ?_, ordered⟩)]
  · simp only [List.mem_cons, mem]
    have member (j : Nat) : (j = s.seq.position ∨ j < s.seq.queue.length ∧ j ≠ s.seq.position) ↔ j < s.seq.queue.length := by
      omega
    simp only [member]
  · obtain ⟨hj, ne⟩ := (mem j).mp hj
    rw [first]
    rcases Nat.lt_or_gt_of_ne ne with lt | gt
    · rw [circleKey_before lt hp]; omega
    · rw [circleKey_after (Nat.le_of_lt gt) hj]; omega

/-- Whatever is eligible in SINGLE mode stands behind the current position (R39). -/
theorem eligible_behind {s : State} (hm : s.seq.mode = .single) {i : Nat} (h : s.eligible = some i) : s.seq.position < i := by
  simp only [State.eligible, firstUnskipped_eq, State.handoverOrder, hm] at h
  have mem := List.mem_of_find?_eq_some h
  simp only [List.mem_range'_1] at mem
  omega

/-! ### The handover (R41 to R43) -/

/-- The queue with a record at the head, without the outgoing head when that is dropped. -/
theorem toHead_take {queue : List StepRecord} {i : Nat} {n : StepRecord} (h : queue[i]? = some n) (drop : Bool)
    (hi : drop = true → 1 ≤ i) : (if drop then (toHead queue i).eraseIdx 1 else toHead queue i) =
      n :: ((queue.take i).drop (if drop then 1 else 0) ++ queue.drop (i + 1)) := by
  have head : toHead queue i = n :: (queue.take i ++ queue.drop (i + 1)) := by
    simp only [toHead, h, List.eraseIdx_eq_take_drop_succ]
  rw [head]
  cases drop
  · rfl
  · have len : i < queue.length := by
      by_contra k
      rw [List.getElem?_eq_none (by omega)] at h
      cases h
    obtain ⟨x, l, e⟩ : ∃ x l, queue.take i = x :: l := by
      refine List.exists_cons_of_ne_nil fun e => ?_
      have := congrArg List.length e
      rw [List.length_take, List.length_nil] at this
      have := hi rfl
      omega
    rw [e]
    rfl

theorem ofFn_class (s : State) (target : ChanSet) (owner : Owner) (c : Chan) :
    (Vector.ofFn (fun c => classOf owner (has target c) (s.chan c))).get c = classOf owner (has target c) (s.chan c) :=
  Vector.get_ofFn _ _

/-- The classes of a transition of a step (Table 3-3). -/
theorem classOf_step (r : Channel) :
    classOf .step true r = (if r.ind = .green then .continuing else .waiting) ∧
    (r.ind ≠ .green → classOf .step false r = .outside) ∧
    (r.ind = .green → r.kind = .vehicle → classOf .step false r = .terminated) ∧
    (r.ind = .green → r.kind = .pedestrian → classOf .step false r = .runningOut) := by
  refine ⟨by simp [classOf], fun h => by simp [classOf, h], fun h k => by simp [classOf, h, k], fun h k => by simp [classOf, h, k]⟩

/-- A vehicle channel ended by a set of termination orders (R6). -/
theorem terminateAll_vehicle {m : ChanSet} {s : State} {c : Chan} (h : has m c = true) (hk : (s.chan c).kind = .vehicle)
    (hi : (s.chan c).ind = .green) : ((terminateAll m s).chan c).ind = .amber ∧
      ((terminateAll m s).chan c).timer = (s.chan c).pendingSet.amber := by
  obtain ⟨u, before, after⟩ := terminateAll_one h s
  have own : u.chan c = s.chan c := before.chan c fun k => k rfl
  rw [after.chan c fun k => k rfl, terminateChannel_vehicle (by rw [own]; exact hi) (by rw [own]; exact hk), loaded_eq, enter_chan,
    if_pos rfl, setChan_chan, own]
  exact ⟨rfl, rfl⟩

/-- The Sequencer with a record made current, before its transition. -/
def selected (i : Nat) (drop : Bool) (s : State) : State :=
  { s with seq := { (match s.seq.mode with
      | .cycle => { s.seq with position := i }
      | .single =>
        { s.seq with
          queue := if drop then (toHead s.seq.queue i).eraseIdx 1 else toHead s.seq.queue i
          position := 0 } : Sequencer) with current := true, phase := .transition, stepTimer := 0, force := false } }

theorem makeCurrent_eq (i : Nat) (drop : Bool) (s : State) :
    makeCurrent i drop s = beginStepTransition (selected i drop s).currentSet (selected i drop s) := rfl

/-- The named record stands current where the mode puts it (R40 to R42). -/
theorem selected_seq {i : Nat} {n : StepRecord} {drop : Bool} {s : State} (h : s.seq.queue[i]? = some n)
    (hi : s.seq.mode = .single → drop = true → 1 ≤ i) : let t := selected i drop s
    (t.seq.current = true ∧ t.record = some n ∧ t.seq.phase = .transition ∧ t.seq.stepTimer = 0 ∧ t.seq.force = false ∧
      t.seq.hold = s.seq.hold ∧ t.seq.mode = s.seq.mode) ∧
    (s.seq.mode = .cycle → t.seq.queue = s.seq.queue ∧ t.seq.position = i) ∧
    (s.seq.mode = .single → t.seq.position = 0 ∧
      t.seq.queue = n :: ((s.seq.queue.take i).drop (if drop then 1 else 0) ++ s.seq.queue.drop (i + 1))) := by
  unfold selected State.record
  cases hm : s.seq.mode with
  | cycle => exact ⟨⟨rfl, h, rfl, rfl, rfl, rfl, hm⟩, fun _ => ⟨rfl, rfl⟩, nofun⟩
  | single =>
    have queue := toHead_take h drop (hi hm)
    simp only [queue]
    exact ⟨⟨trivial, rfl, trivial, trivial, trivial, trivial, hm⟩, nofun, fun _ => ⟨trivial, trivial⟩⟩

/-- A record named with its index hands over (R41 to R43). -/
theorem makeCurrent_handsOver {i : Nat} {n : StepRecord} {drop : Bool} {s : State} (h : s.seq.queue[i]? = some n)
    (hi : s.seq.mode = .single → drop = true → 1 ≤ i) : s.HandsOver (makeCurrent i drop s) i n drop := by
  obtain ⟨step, cycle, single⟩ := selected_seq h hi
  have set : (selected i drop s).currentSet = n.greenSet := by
    simp only [State.currentSet, step.1, if_true, step.2.1, Option.map_some, Option.getD_some]
  have touched := terminateAll_touches ((selected i drop s).greenOf .vehicle &&& ~~~ n.greenSet)
    (beginTransition n.greenSet .step (selected i drop s))
  have chan (c : Chan) : (selected i drop s).chan c = s.chan c := rfl
  have ended (c : Chan) : has ((selected i drop s).greenOf .vehicle &&& ~~~ n.greenSet) c = true ↔
      has n.greenSet c = false ∧ (s.chan c).kind = .vehicle ∧ (s.chan c).ind = .green := by
    simp only [State.greenOf, has_and, has_not, has_maskOf, Bool.and_eq_true, beq_iff_eq, chan, Bool.not_eq_true']
    tauto
  have made : makeCurrent i drop s = terminateAll ((selected i drop s).greenOf .vehicle &&& ~~~ n.greenSet)
      (beginTransition n.greenSet .step (selected i drop s)) := by
    rw [makeCurrent_eq, set]
    rfl
  rw [made]
  refine ⟨?_, fun hm => ?_, fun hm => ?_, ?_, fun c h1 h2 h3 => ?_, fun c hc => ?_⟩
  · rw [State.record, touched.seq]
    exact step
  · rw [touched.seq]; exact cycle hm
  · rw [touched.seq]; exact single hm
  · refine ⟨_, by rw [touched.transition]; rfl, rfl, rfl, fun c => ?_⟩
    obtain ⟨k1, k2, k3, k4⟩ := classOf_step (s.chan c)
    rw [ofFn_class, chan]
    refine ⟨fun h => by rw [h]; exact k1, fun h g => by rw [h]; exact k2 g, fun h g v => by rw [h]; exact k3 g v,
      fun h g v => by rw [h]; exact k4 g v⟩
  · exact terminateAll_vehicle (s := beginTransition n.greenSet .step (selected i drop s)) ((ended c).mpr ⟨h1, h2, h3⟩) h2 h3
  · have out : ¬ has ((selected i drop s).greenOf .vehicle &&& ~~~ n.greenSet) c = true := by
      rw [ended]
      rintro ⟨e1, e2, e3⟩
      rcases hc with k | k | k
      · rw [k] at e1; cases e1
      · exact k e2
      · exact k e3
    exact ⟨touched.chan c out, touched.green c out⟩

end Sys2Proof.Machine

/-! PROOFS. The termination of the current step, the handover, the rest and the first selection (O58). -/

namespace Sys2Proof.Machine

/-! ### The conditions of a termination (R49, R74, R76) -/

/-- What a step asks of each channel of its green set, with the condition on a vehicle channel. -/
def State.EveryChannel (s : State) (r : StepRecord) (vehicle : Chan → Prop) : Prop := ∀ c, has r.greenSet c = true →
  ((s.chan c).kind = .vehicle → (s.chan c).ind = .green ∧ vehicle c) ∧
  ((s.chan c).kind = .pedestrian → has s.seq.served c = true → (s.chan c).ind = .redClear ∨ (s.chan c).ind = .red)

section
variable {s : State} {r : StepRecord}

theorem everyGreen_iff {p : Chan → Bool} {vehicle : Chan → Prop} [DecidablePred vehicle] (hc : s.seq.current = true) (hr : s.record = some r)
    (ht : s.seq.transition = none)
    (hp : ∀ c, p c = match (s.chan c).kind with
      | .vehicle => (s.chan c).ind == .green && decide (vehicle c)
      | .pedestrian => !has s.servedMask c || pedCleared (s.chan c)
      | .unused => true) : s.everyGreen p = true ↔ s.EveryChannel r vehicle := by
  have set : s.currentSet = r.greenSet := by
    simp only [State.currentSet, hc, if_true, hr, Option.map_some, Option.getD_some]
  have served : s.servedMask = s.seq.served := by simp only [State.servedMask, hc, if_true, ht]
  simp only [State.everyGreen, List.all_eq_true, List.mem_finRange, true_imp_iff, set, State.EveryChannel]
  refine forall_congr' fun c => ?_
  rw [hp c, served]
  cases hk : (s.chan c).kind <;> cases has r.greenSet c <;> simp [pedCleared] <;> cases has s.seq.served c <;> simp

theorem fixedReady_iff (hc : s.seq.current = true) (hr : s.record = some r) (ht : s.seq.transition = none) :
    s.everyGreen s.fixedReady = true ↔ s.EveryChannel r fun c => (s.chan c).activeSet.minGreen ≤ (s.green c).elapsed :=
  everyGreen_iff hc hr ht fun _ => rfl

theorem forcedReady_iff (hc : s.seq.current = true) (hr : s.record = some r) (ht : s.seq.transition = none) :
    s.everyGreen s.forcedReady = true ↔ s.EveryChannel r fun c => (s.green c).initial = 0 :=
  everyGreen_iff hc hr ht fun _ => rfl

theorem ready_iff (hc : s.seq.current = true) (hr : s.record = some r) (ht : s.seq.transition = none) :
    s.everyGreen s.ready = true ↔ s.EveryChannel r fun c => (s.green c).initial = 0 ∧ ((s.green c).maxOut = true ∨
      ((s.chan c).recallKind ≠ .max ∧ (s.green c).gap = 0 ∧ ∀ d, has (s.extends d) c = false)) := by
  have gapped (c : Chan) : s.gappedOut c = true ↔ (s.green c).gap = 0 ∧ ∀ d, has (s.extends d) c = false := by
    rw [State.gappedOut, Bool.and_eq_true, beq_iff_eq, Bool.not_eq_true', ← Bool.not_eq_true, extended_iff]
    simp only [not_exists, Bool.not_eq_true]
  classical
  refine everyGreen_iff hc hr ht fun c => ?_
  cases hk : (s.chan c).kind with
  | vehicle =>
    simp only [State.ready, hk]
    rw [Bool.and_assoc]
    congr 1
    rw [Bool.eq_iff_iff]
    simp only [Bool.and_eq_true, beq_iff_eq, decide_eq_true_eq]
    refine and_congr_right fun _ => ?_
    by_cases hm : (s.chan c).recallKind = .max
    · simp [hm]
    · simp [hm, gapped]
  | pedestrian => simp only [State.ready, hk]
  | unused => simp only [State.ready, hk]

/-- What ends the current step (R49, R76). -/
def State.StepEnds (s : State) (r : StepRecord) : Prop := s.seq.hold = false ∧ match r.termination with
  | .fixed => (s.seq.force = true ∨ s.seq.stepTimer = 0) ∧
      s.EveryChannel r fun c => (s.chan c).activeSet.minGreen ≤ (s.green c).elapsed
  | .actuated => if s.seq.force = true then s.EveryChannel r fun c => (s.green c).initial = 0 else
      (∃ c, has s.serviceable c = true) ∧ s.EveryChannel r fun c => (s.green c).initial = 0 ∧
        ((s.green c).maxOut = true ∨ ((s.chan c).recallKind ≠ .max ∧ (s.green c).gap = 0 ∧
          ∀ d, has (s.extends d) c = false))

theorem mayTerminate_iff (hc : s.seq.current = true) (hr : s.record = some r) (ht : s.seq.transition = none) :
    s.mayTerminate r = true ↔ s.StepEnds r := by
  have called : (s.serviceable != 0) = true ↔ ∃ c, has s.serviceable c = true := by
    rw [bne_iff_ne, Ne, mask_eq_zero]
    simp
  unfold State.mayTerminate State.StepEnds
  rw [Bool.and_eq_true, Bool.not_eq_true']
  refine and_congr_right fun _ => ?_
  cases r.termination with
  | fixed =>
    simp only
    rw [Bool.and_eq_true, Bool.or_eq_true, beq_iff_eq, fixedReady_iff hc hr ht]
  | actuated =>
    simp only
    by_cases hf : s.seq.force = true
    · rw [if_pos hf, if_pos hf, forcedReady_iff hc hr ht]
    · rw [if_neg hf, if_neg hf, Bool.and_eq_true, ready_iff hc hr ht, called, and_comm]

/-! ### The judgments of the step (R48, R40, R51) -/

theorem judgeTermination_eq (hc : s.seq.current = true) (hp : s.seq.phase = .fullGreen ∨ s.seq.phase = .resting)
    (hr : s.record = some r) : judgeTermination s =
      if s.mayTerminate r = true then
        match s.eligible with
        | some i => some (makeCurrent i true s)
        | none => if s.seq.phase = .resting then none else some { s with seq := { s.seq with phase := .resting } }
      else if s.seq.phase = .resting then some { s with seq := { s.seq with phase := .fullGreen } } else none := by
  unfold judgeTermination
  rw [if_pos ⟨hc, hp⟩, hr]
  rfl

/-- With no preempt, transition, owed order or clock due, the termination is the next judgment in CONTROLLED. -/
theorem judge_termination (hm : s.unit.mode = .controlled) (quiet : s.preemptsQuiet) (hc : s.seq.current = true)
    (ht : s.seq.transition = none) (owed : s.seq.owedEnds = 0) (clocks : s.clockStarts = 0) : judge s = judgeTermination s := by
  have free := quiet.1
  have noClock : judgeClocks s = none := if_pos clocks
  have noRequest : judgeRequests s = none := by
    unfold judgeRequests
    rw [List.find?_eq_none.mpr fun p _ => by rw [quiet_move quiet p]; nofun]
  have noSlot : judgeSlot s = none := by
    unfold judgeSlot
    cases hb : s.bestPending with
    | none => rfl
    | some p =>
      have pending := bestPending_pending hb
      rw [(quiet.2 p).1] at pending
      cases pending
  have noOwed : judgeOwed s = none := if_pos (by rw [owed]; exact BitVec.zero_and)
  have noFirst : judgeFirst s = none := if_pos (.inl hc)
  simp only [judge, noClock, noRequest, noSlot, noOwed, hm, noFirst, judgeStage, judgeStart, judgeFull, judgeTrack, judgeDwell,
    judgeExit, free, ht, Option.none_or, Option.or_none]

end

/-- Settles O58, from the orders in which the queue is examined and the conditions of a termination. -/
theorem eligibleNextStep : Obligations.EligibleNextStep := by
  unfold Obligations.EligibleNextStep
  refine ⟨fun s i => ⟨fun hm hp => ?_, fun hm hp => ?_, fun hm => ?_, fun hm hp => ?_⟩, fun s r hc hp ht hr => ?_,
    fun s hc hh => ⟨fun i n h hn => ?_, fun h => ?_⟩⟩
  · rw [eligible_single hm hp]
    simp only [examined_iff, examined_false]
  · rw [eligible_cycle hm hp]
    simp only [examined_iff, examined_false]
    rfl
  · rw [firstChoice_single hm]
    simp only [examined_iff, examined_false]
  · rw [firstChoice_cycle hm hp]
    simp only [examined_iff, examined_false]
    rfl
  · have ends : s.mayTerminate r = true ↔ s.StepEnds r := mayTerminate_iff hc hr ht
    have judged := judgeTermination_eq hc hp hr
    refine ⟨fun (e : s.StepEnds r) i n hi hn => ?_, fun (e : s.StepEnds r) hi => ?_, fun (e : ¬ s.StepEnds r) => ?_,
      fun hm quiet owed clocks => judge_termination hm quiet hc ht owed clocks⟩
    · rw [if_pos (ends.mpr e), hi] at judged
      have slot := makeCurrent_slot i true s
      have behind : s.seq.mode = .single → true = true → 1 ≤ i := fun hm _ => Nat.one_le_of_lt (eligible_behind hm hi)
      exact ⟨_, judged, makeCurrent_handsOver hn behind, slot.2, slot.1⟩
    · rw [if_pos (ends.mpr e), hi] at judged
      exact judged
    · rw [if_neg (fun k => e (ends.mp k))] at judged
      exact judged
  · have judged : judgeFirst s = some (makeCurrent i false s) := by
      simp only [judgeFirst, hc, hh, Option.isSome_none, Bool.false_eq_true, or_self, if_false, h]
    have slot := makeCurrent_slot i false s
    exact ⟨_, judged, makeCurrent_handsOver hn fun _ => nofun, slot.2, slot.1⟩
  · simp only [judgeFirst, hc, hh, Option.isSome_none, Bool.false_eq_true, or_self, if_false, h]

end Sys2Proof.Machine

/-! PROOFS. The service slot: who takes it, and what an entry into service ends (R106 to R109). -/

namespace Sys2Proof.Machine

/-! ### The request that is taken (R106) -/

/-- The best of the PENDING requests seen so far: none where none is PENDING, else one of highest priority with the lowest
number among equals. -/
def BestOf (s : State) (seen : Pre → Prop) (best : Option Pre) : Prop :=
  (best = none → ∀ x, seen x → (s.pre x).state ≠ .pending) ∧
  ∀ p, best = some p → seen p ∧ (s.pre p).state = .pending ∧ ∀ x, seen x → (s.pre x).state = .pending →
    (s.pre x).cfg.priority < (s.pre p).cfg.priority ∨ ((s.pre x).cfg.priority = (s.pre p).cfg.priority ∧ p ≤ x)

/-- One preempt compared with the best so far. -/
def better (s : State) (best : Option Pre) (p : Pre) : Option Pre :=
  if (s.pre p).state = .pending then
    match best with
    | none => some p
    | some q => if (s.pre q).cfg.priority < (s.pre p).cfg.priority then some p else best
  else best

theorem better_best {s : State} {seen : Pre → Prop} {best : Option Pre} (h : BestOf s seen best) {a : Pre}
    (later : ∀ x, seen x → x < a) : BestOf s (fun x => seen x ∨ x = a) (better s best a) := by
  obtain ⟨none, some⟩ := h
  unfold better
  by_cases pending : (s.pre a).state = .pending
  · rw [if_pos pending]
    cases hb : best with
    | none =>
      refine ⟨nofun, fun p e => ?_⟩
      obtain rfl := Option.some.inj e
      refine ⟨.inr rfl, pending, fun x hx px => ?_⟩
      rcases hx with k | k
      · exact absurd px (none hb x k)
      · exact .inr ⟨by rw [k], by rw [k]⟩
    | some q =>
      obtain ⟨seenQ, pendingQ, bestQ⟩ := some q hb
      simp only
      by_cases lt : (s.pre q).cfg.priority < (s.pre a).cfg.priority
      · rw [if_pos lt]
        refine ⟨nofun, fun p e => ?_⟩
        obtain rfl := Option.some.inj e
        refine ⟨.inr rfl, pending, fun x hx px => ?_⟩
        rcases hx with k | k
        · rcases bestQ x k px with y | ⟨y, -⟩ <;> exact .inl (by omega)
        · exact .inr ⟨by rw [k], by rw [k]⟩
      · rw [if_neg lt]
        refine ⟨nofun, fun p e => ?_⟩
        obtain rfl := Option.some.inj e
        refine ⟨.inl seenQ, pendingQ, fun x hx px => ?_⟩
        rcases hx with k | k
        · exact bestQ x k px
        · subst k
          rcases Nat.lt_or_ge (s.pre x).cfg.priority (s.pre q).cfg.priority with y | y
          · exact .inl y
          · exact .inr ⟨by omega, (later q seenQ).le⟩
  · rw [if_neg pending]
    refine ⟨fun e x hx => ?_, fun p e => ?_⟩
    · rcases hx with k | k
      · exact none e x k
      · rw [k]; exact pending
    · obtain ⟨seenP, pendingP, bestP⟩ := some p e
      refine ⟨.inl seenP, pendingP, fun x hx px => ?_⟩
      rcases hx with k | k
      · exact bestP x k px
      · rw [k] at px; exact absurd px pending

theorem fold_best {s : State} {l : List Pre} (sorted : l.Pairwise (· < ·)) {seen : Pre → Prop} {best : Option Pre}
    (h : BestOf s seen best) (later : ∀ x, seen x → ∀ a ∈ l, x < a) :
    BestOf s (fun x => seen x ∨ x ∈ l) (l.foldl (better s) best) := by
  induction l generalizing seen best with
  | nil => simpa using h
  | cons a l ih =>
    obtain ⟨least, sorted⟩ := List.pairwise_cons.mp sorted
    have next := ih sorted (better_best h fun x hx => later x hx a List.mem_cons_self) fun x hx b hb => by
      rcases hx with k | k
      · exact later x k b (List.mem_cons_of_mem a hb)
      · rw [k]; exact least b hb
    have same : (fun x => (seen x ∨ x = a) ∨ x ∈ l) = fun x => seen x ∨ x ∈ a :: l := by
      funext x
      rw [List.mem_cons, or_assoc]
    rw [← same]
    exact next

/-- The request that a free slot takes: the highest priority, the lowest number among equals (R106). -/
theorem bestPending_best (s : State) : BestOf s (fun _ => True) s.bestPending := by
  have all := fold_best (s := s) (l := List.finRange 4) (List.pairwise_lt_finRange 4) (seen := fun _ => False) (best := none)
    ⟨fun _ _ => False.elim, nofun⟩ (fun _ => False.elim)
  have every : (fun x : Pre => False ∨ x ∈ List.finRange 4) = fun _ => True := by
    funext x
    simp
  rw [every] at all
  exact all

/-! ### Termination and cut orders, channel by channel (R6, R9, R79, R109) -/

/-- A channel after a termination order. -/
def Channel.ended (r : Channel) : Channel :=
  if r.ind = .green then
    match r.kind with
    | .unused => r
    | .vehicle => { r with
        ind := .amber, timer := r.pendingSet.amber, staged := patternOf r .amber
        activeSet := copyAmber r.pendingSet r.activeSet }
    | .pedestrian => { r with
        ind := .pedClear, timer := r.pendingSet.pedClear, staged := patternOf r .pedClear
        activeSet := copyPedClear r.pendingSet r.activeSet }
  else r

theorem ended_vehicle {r : Channel} (hi : r.ind = .green) (hk : r.kind = .vehicle) : r.ended = { r with
    ind := .amber, timer := r.pendingSet.amber, staged := patternOf r .amber
    activeSet := copyAmber r.pendingSet r.activeSet } := by
  rw [Channel.ended, if_pos hi]
  simp only [hk]

theorem ended_pedestrian {r : Channel} (hi : r.ind = .green) (hk : r.kind = .pedestrian) : r.ended = { r with
    ind := .pedClear, timer := r.pendingSet.pedClear, staged := patternOf r .pedClear
    activeSet := copyPedClear r.pendingSet r.activeSet } := by
  rw [Channel.ended, if_pos hi]
  simp only [hk]

theorem ended_unused {r : Channel} (hk : r.kind = .unused) : r.ended = r := by
  rw [Channel.ended]
  simp only [hk, ite_self]

theorem ended_same {r : Channel} (h : r.ind ≠ .green) : r.ended = r := if_neg h

theorem terminateChannel_own (c : Chan) (s : State) : (terminateChannel c s).chan c = (s.chan c).ended := by
  by_cases hi : (s.chan c).ind = .green
  · rcases hk : (s.chan c).kind with _ | _ | _
    · rw [terminateChannel_none (.inr hk), ended_unused hk]
    · rw [terminateChannel_vehicle hi hk, loaded_eq, enter_chan, if_pos rfl, setChan_chan, ended_vehicle hi hk]
      rfl
    · rw [terminateChannel_pedestrian hi hk, enterPedClear, loaded_eq, enter_chan, if_pos rfl, setChan_chan,
        ended_pedestrian hi hk]
      rfl
  · rw [ended_same hi, terminateChannel_none (.inl hi)]

theorem terminateAll_chan (m : ChanSet) (s : State) (c : Chan) :
    (terminateAll m s).chan c = if has m c = true then (s.chan c).ended else s.chan c := by
  by_cases h : has m c = true
  · obtain ⟨u, before, after⟩ := terminateAll_one h s
    rw [if_pos h, after.chan c fun k => k rfl, terminateChannel_own, before.chan c fun k => k rfl]
  · rw [if_neg h, (terminateAll_touches m s).chan c h]

/-- A channel after a clearance cut order (R9). -/
def Channel.cut (n : Nat) (r : Channel) : Channel :=
  if r.kind = .pedestrian ∧ r.ind = .pedClear ∧ n < r.timer then { r with timer := n } else r

theorem cutClearances_chan (n : Nat) (m : ChanSet) (s : State) (c : Chan) :
    (cutClearances n m s).chan c = if has m c = true then s.chan c else (s.chan c).cut n := by
  have own (u : State) : (cutClearance n c u).chan c = (u.chan c).cut n := by
    unfold cutClearance Channel.cut
    simp only
    split
    · rw [loadTimer, setChan_chan]
    · rfl
  by_cases h : has m c = true
  · rw [if_pos h, (cutClearances_touches n m s).chan c (by rw [h]; nofun)]
  · have off : has m c = false := Bool.not_eq_true _ ▸ h
    obtain ⟨u, before, after⟩ := cutClearances_one n off s
    rw [if_neg h, after.chan c fun k => k rfl, own, before.chan c fun k => k rfl]

theorem cutClearances_leaves (n : Nat) (m : ChanSet) (s : State) :
    (cutClearances n m s).seq = s.seq ∧ (cutClearances n m s).greens = s.greens := by
  have one (c : Chan) (u : State) : (cutClearance n c u).seq = u.seq ∧ (cutClearance n c u).greens = u.greens := by
    unfold cutClearance
    simp only
    split <;> exact ⟨rfl, rfl⟩
  unfold cutClearances
  induction List.finRange 16 generalizing s with
  | nil => exact ⟨rfl, rfl⟩
  | cons c l ih =>
    rw [List.foldl_cons, (ih _).1, (ih _).2]
    split
    · exact ⟨rfl, rfl⟩
    · exact one c s

theorem cutGreens_green (n : Nat) (m : ChanSet) (s : State) (c : Chan) : (cutGreens n m s).green c =
    if has m c = false ∧ (s.chan c).kind = .vehicle ∧ (s.chan c).ind = .green then cutInitial n (s.green c)
    else s.green c := by
  have own : (cutGreens n m s).green c =
      if has (s.greenOf .vehicle &&& ~~~ m) c = true then cutInitial n (s.green c) else s.green c := vmap_get _ _ _
  rw [own]
  refine if_congr ?_ rfl rfl
  simp only [State.greenOf, has_and, has_not, has_maskOf, Bool.and_eq_true, beq_iff_eq, Bool.not_eq_true']
  tauto

/-! ### The truncation of an entry (R79, R109) -/

/-- The vehicle greens outside a target whose initial green the cut leaves running, owed their order. -/
def heldOutside (target : ChanSet) (s : State) : ChanSet := s.greenOf .vehicle &&& ~~~ target &&& ~~~ s.runOut

/-- The vehicle greens outside a target that end at once. -/
def endedOutside (target : ChanSet) (s : State) : ChanSet := s.greenOf .vehicle &&& ~~~ target &&& ~~~ heldOutside target s

theorem outside_iff (target : ChanSet) (s : State) (c : Chan) :
    (has (heldOutside target s) c = true ↔ has target c = false ∧ (s.chan c).kind = .vehicle ∧ (s.chan c).ind = .green ∧
      (s.green c).initial ≠ 0) ∧
    (has (endedOutside target s) c = true ↔ has target c = false ∧ (s.chan c).kind = .vehicle ∧ (s.chan c).ind = .green ∧
      (s.green c).initial = 0) := by
  simp only [heldOutside, endedOutside, State.runOut, State.greenOf, has_and, has_not, has_maskOf, Bool.and_eq_true, beq_iff_eq,
    Bool.not_eq_true', Bool.and_eq_false_iff, beq_eq_false_iff_ne, ne_eq, Bool.not_eq_false', Bool.not_eq_false]
  constructor
  · tauto
  · cases has target c <;> simp <;> tauto

/-- The stages of a truncation: the cut, the ends of vehicle greens with the owed orders, the ends of walks, the cut
clearances. -/
theorem truncate_eq (cfg : PreemptConfig) (target : ChanSet) (s : State) : ∃ a b : State,
    a = cutGreens cfg.minGreen target s ∧
    b = { terminateAll (endedOutside target a) a with
      seq := { (terminateAll (endedOutside target a) a).seq with owedEnds := heldOutside target a } } ∧
    truncate cfg target s =
      if cfg.pedTruncate then cutClearances cfg.pedClear target (terminateAll (b.greenOf .pedestrian &&& ~~~ target) b)
      else terminateAll (b.greenOf .pedestrian &&& ~~~ target) b := ⟨_, _, rfl, rfl, rfl⟩

theorem ended_kind (r : Channel) : r.ended.kind = r.kind := by
  unfold Channel.ended
  split
  · split <;> rfl
  · rfl

/-- What a truncation does to the channels, the owed orders and the initial greens. -/
structure Truncated (cfg : PreemptConfig) (target : ChanSet) (s t : State) : Prop where
  seq : t.seq = { s.seq with owedEnds := t.seq.owedEnds }
  kept : ∀ c, has target c = true → t.chan c = s.chan c ∧ has t.seq.owedEnds c = false
  still : ∀ c, (s.chan c).ind ≠ .green → (s.chan c).ind ≠ .pedClear → t.chan c = s.chan c
  ends : ∀ c, has target c = false → (s.chan c).kind = .vehicle → (s.chan c).ind = .green →
    (cutInitial cfg.minGreen (s.green c)).initial = 0 → t.chan c = (s.chan c).ended
  held : ∀ c, has target c = false → (s.chan c).kind = .vehicle → (s.chan c).ind = .green →
    (cutInitial cfg.minGreen (s.green c)).initial ≠ 0 → t.chan c = s.chan c ∧
      t.green c = cutInitial cfg.minGreen (s.green c) ∧ has t.seq.owedEnds c = true
  walks : ∀ c, has target c = false → (s.chan c).kind = .pedestrian → ((s.chan c).ind = .green ∨ (s.chan c).ind = .pedClear) →
    t.chan c = if cfg.pedTruncate then (s.chan c).ended.cut cfg.pedClear else (s.chan c).ended

theorem truncate_truncated (cfg : PreemptConfig) (target : ChanSet) (s : State) :
    Truncated cfg target s (truncate cfg target s) := by
  obtain ⟨a, b, ha, hb, e⟩ := truncate_eq cfg target s
  have aChan (c : Chan) : a.chan c = s.chan c := by rw [ha]; rfl
  have aSeq : a.seq = s.seq := by rw [ha]; rfl
  have aGreen (c : Chan) : has target c = false → (s.chan c).kind = .vehicle → (s.chan c).ind = .green →
      a.green c = cutInitial cfg.minGreen (s.green c) := fun h1 h2 h3 => by
    rw [ha, cutGreens_green, if_pos ⟨h1, h2, h3⟩]
  have first := terminateAll_touches (endedOutside target a) a
  have bChan (c : Chan) : b.chan c = if has (endedOutside target a) c = true then (s.chan c).ended else s.chan c := by
    rw [hb, ← aChan c]
    exact terminateAll_chan _ _ c
  have bSeq : b.seq = { s.seq with owedEnds := heldOutside target a } := by
    rw [hb]
    change ({ (terminateAll (endedOutside target a) a).seq with owedEnds := heldOutside target a } : Sequencer) = _
    rw [first.seq, aSeq]
  have bGreen (c : Chan) (h : ¬ has (endedOutside target a) c = true) : b.green c = a.green c := by
    rw [hb]
    exact first.green c h
  have second := terminateAll_touches (b.greenOf .pedestrian &&& ~~~ target) b
  have walking (c : Chan) : has (b.greenOf .pedestrian &&& ~~~ target) c = true ↔
      has target c = false ∧ (s.chan c).kind = .pedestrian ∧ (s.chan c).ind = .green := by
    simp only [State.greenOf, has_and, has_not, has_maskOf, Bool.and_eq_true, beq_iff_eq, Bool.not_eq_true', bChan]
    by_cases h : has (endedOutside target a) c = true
    · obtain ⟨-, kind, -⟩ := (outside_iff target a c).2.mp h
      rw [aChan] at kind
      rw [if_pos h, ended_kind, kind]
      simp
    · rw [if_neg h]
      tauto
  generalize hd : terminateAll (b.greenOf .pedestrian &&& ~~~ target) b = d at *
  have dChan (c : Chan) : d.chan c = if has (b.greenOf .pedestrian &&& ~~~ target) c = true then (b.chan c).ended
      else b.chan c := by rw [← hd]; exact terminateAll_chan _ _ c
  have tChan (c : Chan) : (truncate cfg target s).chan c =
      if cfg.pedTruncate = true ∧ has target c = false then (d.chan c).cut cfg.pedClear else d.chan c := by
    rw [e]
    cases cfg.pedTruncate
    · simp
    · simp only [if_true, true_and]
      rw [cutClearances_chan]
      cases has target c <;> simp
  have leaves : (truncate cfg target s).seq = d.seq ∧ (truncate cfg target s).greens = d.greens := by
    rw [e]
    split
    · exact cutClearances_leaves _ _ d
    · exact ⟨rfl, rfl⟩
  have seq : (truncate cfg target s).seq = { s.seq with owedEnds := (truncate cfg target s).seq.owedEnds } := by
    rw [leaves.1, second.seq, bSeq]
  have owed (c : Chan) (h : ¬ has (b.greenOf .pedestrian &&& ~~~ target) c = true) :
      has (truncate cfg target s).seq.owedEnds c = has (heldOutside target a) c := by
    rw [leaves.1, second.owed c h, bSeq]
  -- The cut of a clearance leaves every channel that is not a pedestrian one in PED_CLEAR.
  have uncut {r : Channel} (h : r.kind ≠ .pedestrian ∨ r.ind ≠ .pedClear) : r.cut cfg.pedClear = r := by
    refine if_neg ?_
    rintro ⟨k1, k2, -⟩
    exact h.elim (fun k => k k1) (fun k => k k2)
  have settled {c : Chan} (h : (d.chan c).kind ≠ .pedestrian ∨ (d.chan c).ind ≠ .pedClear) :
      (truncate cfg target s).chan c = d.chan c := by
    rw [tChan, uncut h, ite_self]
  have untouched {c : Chan} (h1 : ¬ has (endedOutside target a) c = true)
      (h2 : ¬ has (b.greenOf .pedestrian &&& ~~~ target) c = true) : d.chan c = s.chan c := by
    rw [dChan, if_neg h2, bChan, if_neg h1]
  refine ⟨seq, fun c h => ?_, fun c h1 h2 => ?_, fun c h1 h2 h3 h4 => ?_, fun c h1 h2 h3 h4 => ?_, fun c h1 h2 h3 => ?_⟩
  · have out1 : ¬ has (endedOutside target a) c = true := by rw [(outside_iff target a c).2, h]; simp
    have out2 : ¬ has (b.greenOf .pedestrian &&& ~~~ target) c = true := by rw [walking, h]; simp
    have out3 : has (heldOutside target a) c = false := by
      rw [← Bool.not_eq_true, (outside_iff target a c).1, h]
      simp
    rw [tChan, if_neg (by rw [h]; simp), untouched out1 out2, owed c out2, out3]
    exact ⟨rfl, rfl⟩
  · have out1 : ¬ has (endedOutside target a) c = true := by rw [(outside_iff target a c).2, aChan]; simp [h1]
    have out2 : ¬ has (b.greenOf .pedestrian &&& ~~~ target) c = true := by rw [walking]; simp [h1]
    rw [settled (.inr (by rw [untouched out1 out2]; exact h2)), untouched out1 out2]
  · have in1 : has (endedOutside target a) c = true := by
      rw [(outside_iff target a c).2, aChan, aGreen c h1 h2 h3]
      exact ⟨h1, h2, h3, h4⟩
    have out2 : ¬ has (b.greenOf .pedestrian &&& ~~~ target) c = true := by rw [walking, h2]; simp
    have own : d.chan c = (s.chan c).ended := by rw [dChan, if_neg out2, bChan, if_pos in1]
    rw [settled (.inl (by rw [own, ended_kind, h2]; nofun)), own]
  · have out1 : ¬ has (endedOutside target a) c = true := by
      rw [(outside_iff target a c).2, aChan, aGreen c h1 h2 h3]
      exact fun k => h4 k.2.2.2
    have out2 : ¬ has (b.greenOf .pedestrian &&& ~~~ target) c = true := by rw [walking, h2]; simp
    have in3 : has (heldOutside target a) c = true := by
      rw [(outside_iff target a c).1, aChan, aGreen c h1 h2 h3]
      exact ⟨h1, h2, h3, h4⟩
    have green : (truncate cfg target s).green c = a.green c := by
      rw [State.green, leaves.2, ← bGreen c out1]
      exact second.green c out2
    rw [settled (.inl (by rw [untouched out1 out2, h2]; nofun)), untouched out1 out2, owed c out2, in3, green, aGreen c h1 h2 h3]
    exact ⟨rfl, rfl, rfl⟩
  · have out1 : ¬ has (endedOutside target a) c = true := by rw [(outside_iff target a c).2, aChan, h2]; simp
    have own : d.chan c = (s.chan c).ended := by
      rw [dChan, bChan, if_neg out1]
      split
      · rfl
      · next k =>
        rw [walking] at k
        refine (ended_same fun hi => k ⟨h1, h2, hi⟩).symm
    rw [tChan, own]
    cases cfg.pedTruncate <;> simp [h1]

end Sys2Proof.Machine

/-! PROOFS. The service slot: entry, dwell end, exit and the return handover (O60). -/

namespace Sys2Proof.Machine

/-! ### The entry into service (R108, R109) -/

/-- The state whose channels an entry into service truncates: its step stopped, its transition begun. -/
def entering (p : Pre) (s : State) : State :=
  beginTransition (s.pre p).firstTarget .preempt
    { stopStep s with arb := { s.arb with holder := some p, interrupted := s.arb.interrupted || s.seq.current } }

theorem truncated_entering (p : Pre) (s : State) :
    Truncated (s.pre p).cfg (s.pre p).firstTarget (entering p s) (truncated p s) := truncate_truncated _ _ _

/-- What an entry into service does to the slot, the step and the preempts, with the truncation it makes. -/
structure State.Enters (s : State) (p : Pre) (r : Preempt) (t : State) : Prop where
  arb : t.arb = { s.arb with holder := some p, interrupted := s.arb.interrupted || s.seq.current }
  stopped : t.seq.current = false ∧ t.seq.queue = s.seq.queue ∧ t.seq.position = s.seq.position
  towards : ∃ x, t.seq.transition = some x ∧ x.target = r.firstTarget ∧ x.owner = .preempt
  pre : ∀ q, t.pre q = if q = p then { r with
      state := .entry, serviceTimer := 0, pendingAtExit := false
      stage := if t.seq.owedEnds = 0 then .clearing else .minimum } else s.pre q
  truncates : ∃ x : State, x.chans = s.chans ∧ x.greens = s.greens ∧ Truncated r.cfg r.firstTarget x t

theorem enterService_enters {p : Pre} {s : State} {r : Preempt} (hr : s.pre p = r) : s.Enters p r (enterService p s) := by
  subst hr
  have cut := truncated_entering p s
  obtain ⟨pres, arb⟩ := truncate_slot (s.pre p).cfg (s.pre p).firstTarget (entering p s)
  have seq : (truncated p s).seq = { (entering p s).seq with owedEnds := (truncated p s).seq.owedEnds } := cut.seq
  have pres : (truncated p s).pres = s.pres := pres
  rw [enterService_eq]
  refine ⟨arb, ?_, ?_, fun q => ?_, entering p s, rfl, rfl, cut.seq, cut.kept, cut.still, cut.ends, cut.held, cut.walks⟩
  · change (truncated p s).seq.current = false ∧ (truncated p s).seq.queue = _ ∧ (truncated p s).seq.position = _
    rw [seq]
    exact ⟨rfl, rfl, rfl⟩
  · change ∃ x, (truncated p s).seq.transition = some x ∧ _
    rw [seq]
    exact ⟨_, rfl, rfl, rfl⟩
  · rw [setPre_get, pre_of_pres pres]
    rfl

/-- A pedestrian clearance after the cut (R109). -/
theorem cut_pedClear {r : Channel} (hk : r.kind = .pedestrian) (hi : r.ind = .pedClear) (n : Nat) :
    (r.cut n).ind = .pedClear ∧ (r.cut n).timer = min n r.timer := by
  unfold Channel.cut
  by_cases lt : n < r.timer
  · rw [if_pos ⟨hk, hi, lt⟩]
    exact ⟨hi, (Nat.min_eq_left lt.le).symm⟩
  · rw [if_neg fun k => lt k.2.2]
    exact ⟨hi, (Nat.min_eq_right (Nat.le_of_not_lt lt)).symm⟩

/-- A walk or a pedestrian clearance that a truncation ends or cuts. -/
theorem Truncated.cleared {cfg : PreemptConfig} {target : ChanSet} {s t : State} (h : Truncated cfg target s t) {c : Chan}
    (out : has target c = false) (hk : (s.chan c).kind = .pedestrian) (hi : (s.chan c).ind = .green ∨ (s.chan c).ind = .pedClear)
    {n : Nat} (clears : (s.chan c).ended.ind = .pedClear ∧ (s.chan c).ended.timer = n) :
    (t.chan c).ind = .pedClear ∧ (t.chan c).timer = if cfg.pedTruncate then min cfg.pedClear n else n := by
  rw [h.walks c out hk hi]
  obtain ⟨ind, timer⟩ := cut_pedClear ((ended_kind _).trans hk) clears.1 cfg.pedClear
  rw [clears.2] at timer
  cases cfg.pedTruncate
  · exact clears
  · exact ⟨ind, timer⟩

/-! ### EXIT (R112, R113) -/

theorem somePending_iff (s : State) : s.somePending = true ↔ ∃ q, (s.pre q).state = .pending := by
  simp [State.somePending]

theorem bestPending_none {s : State} (h : ∀ q, (s.pre q).state ≠ .pending) : s.bestPending = none := by
  cases hb : s.bestPending with
  | none => rfl
  | some p => exact absurd (bestPending_pending hb) (h p)

theorem calmRequests_of {s : State} (clocks : s.clockStarts = 0) (still : ∀ p, (s.pre p).move = none) : s.calmRequests := by
  refine ⟨if_pos clocks, ?_⟩
  unfold judgeRequests
  rw [List.find?_eq_none.mpr fun p _ => by rw [still p]; nofun]

/-- With a holder in EXIT, no other request, and no transition, owed order or clock due, the return is the next judgment. -/
theorem judge_exit {s : State} {h : Pre} (calm : s.calmRequests) (hm : s.unit.mode = .controlled) (hh : s.arb.holder = some h)
    (he : (s.pre h).state = .exit) (hc : s.seq.current = false) (ht : s.seq.transition = none) (owed : s.seq.owedEnds = 0)
    (others : ∀ q, (s.pre q).state ≠ .pending) : judge s = judgeExit s := by
  have noSlot : judgeSlot s = none := by simp only [judgeSlot, bestPending_none others]
  have noOwed : judgeOwed s = none := if_pos (by rw [owed]; exact BitVec.zero_and)
  have noFirst : judgeFirst s = none := if_pos (.inr (by rw [hh]; rfl))
  have noTermination : judgeTermination s = none := if_neg fun k => by rw [hc] at k; cases k.1
  simp only [judge, calm.1, calm.2, noSlot, noOwed, hm, noFirst, noTermination, judgeStage, judgeStart, judgeFull, judgeTrack,
    judgeDwell, hh, he, ht, Option.none_or, Option.or_none, reduceCtorEq, false_and, if_false]

/-- A preempt in EXIT with its PENDING-at-exit mark brought up to its input (R113). -/
def Preempt.marked (r : Preempt) : Preempt :=
  { r with pendingAtExit := if r.active then true else r.pendingAtExit && r.cfg.locking }

theorem exit_moves {r : Preempt} (h : r.state = .exit) : r.move = none ∧ r.marked = r ∨ r.move = some r.marked := by
  have own : r.move = if r.active && !r.pendingAtExit then some { r with pendingAtExit := true }
      else if !r.active && r.pendingAtExit && !r.cfg.locking then some { r with pendingAtExit := false } else none := by
    simp only [Preempt.move, h]
  rw [own]
  unfold Preempt.marked
  have same (b : Bool) (e : r.pendingAtExit = b) : { r with pendingAtExit := b } = r := by rw [← e]
  by_cases ha : r.active = true
  · by_cases hp : r.pendingAtExit = true
    · exact .inl ⟨by simp [ha, hp], by rw [if_pos ha]; exact same _ hp⟩
    · exact .inr (by simp [ha, hp])
  · by_cases hp : r.pendingAtExit = true
    · by_cases hl : r.cfg.locking = true
      · exact .inl ⟨by simp [ha, hl], by rw [if_neg ha, hl, Bool.and_true]⟩
      · exact .inr (by simp [ha, hp, hl])
    · have off : r.pendingAtExit = false := Bool.not_eq_true _ ▸ hp
      exact .inl ⟨by simp [off, ha], by rw [if_neg ha, off, Bool.false_and]; exact same _ off⟩

/-- Where the moves of a preempt in EXIT end (R113). -/
theorem moves_exit {r v : Preempt} (he : r.state = .exit) (hv : v.move = none)
    (k : Relation.ReflTransGen (fun r q => Preempt.move r = some q) r v) : v = r.marked := by
  rcases exit_moves he with ⟨still, e⟩ | moves
  · rw [e]; exact moves_none still k
  · rcases Relation.ReflTransGen.cases_head k with e | ⟨q, hq, k⟩
    · rw [← e, moves] at hv; cases hv
    · obtain rfl := Option.some.inj (moves.symm.trans hq)
      exact moves_none (exit_move he moves) k

/-- The clocks and the requests of a moment change no call, so no choice of a record (R40, R64). -/
theorem Requested.firstChoice {s t : State} (h : Requested s t) : t.firstChoice = s.firstChoice := by
  have latches : t.latches = s.latches := by
    refine congrArg maskOf (funext fun c => ?_)
    rcases h.green c with e | ⟨e, -⟩ <;> rw [e]
  have calls : t.calls = s.calls := by
    unfold State.calls
    rw [latches, h.frame]
    rfl
  unfold State.firstChoice
  rw [calls, h.frame]
  rfl

theorem judgeExit_eq {s : State} {h : Pre} (hh : s.arb.holder = some h) (he : (s.pre h).state = .exit) : judgeExit s =
    match s.exitRecord (s.pre h).cfg.exitKind with
    | none => none
    | some (i, drop) => some (makeCurrent i drop { s.setPre h { s.pre h with
        state := if (s.pre h).pendingAtExit then .pending else .idle, pendingAtExit := false } with
      arb := { s.arb with holder := none, interrupted := false } }) := by
  simp only [judgeExit, hh, he, if_true]
  rfl

/-- The return handover of a record that EXIT names (R112). -/
theorem judgeExit_returns {s : State} {h : Pre} (hh : s.arb.holder = some h) (he : (s.pre h).state = .exit) {i : Nat}
    {n : StepRecord} {drop : Bool} (names : s.exitRecord (s.pre h).cfg.exitKind = some (i, drop))
    (hn : s.seq.queue[i]? = some n) (hi : s.seq.mode = .single → drop = true → 1 ≤ i) :
    ∃ t, judgeExit s = some t ∧ s.HandsOver t i n drop ∧ t.arb = { s.arb with holder := none, interrupted := false } ∧
      t.pres = vset s.pres h
        { s.pre h with state := if (s.pre h).pendingAtExit then .pending else .idle, pendingAtExit := false } := by
  rw [judgeExit_eq hh he, names]
  have hands := makeCurrent_handsOver (s := { s.setPre h { s.pre h with
        state := if (s.pre h).pendingAtExit then .pending else .idle, pendingAtExit := false } with
      arb := { s.arb with holder := none, interrupted := false } }) hn hi
  obtain ⟨pres, arb⟩ := makeCurrent_slot i drop { s.setPre h { s.pre h with
        state := if (s.pre h).pendingAtExit then .pending else .idle, pendingAtExit := false } with
      arb := { s.arb with holder := none, interrupted := false } }
  exact ⟨_, rfl, ⟨hands.step, hands.cycle, hands.single, hands.classes, hands.ended, hands.kept⟩, arb, pres⟩

end Sys2Proof.Machine

/-! PROOFS. The service slot (O60). -/

namespace Sys2Proof.Machine

/-- Whether a PENDING request may take the slot (R106, R107). -/
def State.Asks (s : State) (p : Pre) : Prop := (s.pre p).state = .pending ∧
  ∀ h, s.arb.holder = some h → (s.pre h).cfg.priority < (s.pre p).cfg.priority

/-- The slot is taken by the best PENDING request, from a holder of strictly lower priority when there is one. -/
inductive State.Takes (s t : State) (p : Pre) : Prop where
  | free (hh : s.arb.holder = none) (h : s.Enters p (s.pre p) t)
  | held (h : Pre) (hh : s.arb.holder = some h) (ne : h ≠ p) (e : (s.setPre h (s.pre h).putOut).Enters p (s.pre p) t)

theorem judgeSlot_takes {s t : State} (h : judgeSlot s = some t) : ∃ p, s.bestPending = some p ∧ s.Asks p ∧ s.Takes t p := by
  obtain ⟨p, hp, ⟨hh, rfl⟩ | ⟨q, hq, lt, rfl⟩⟩ := judgeSlot_some h
  · exact ⟨p, hp, ⟨bestPending_pending hp, fun x e => by rw [hh] at e; cases e⟩, .free hh (enterService_enters rfl)⟩
  · have ne : q ≠ p := by rintro rfl; exact lt_irrefl _ lt
    refine ⟨p, hp, ⟨bestPending_pending hp, fun x e => ?_⟩, .held q hq ne (enterService_enters ?_)⟩
    · rw [hq] at e
      rw [← Option.some.inj e]
      exact lt
    · rw [setPre_get, if_neg ne.symm]

theorem judgeSlot_none_iff (s : State) : judgeSlot s = none ↔ ∀ p, ¬ s.Asks p := by
  obtain ⟨empty, best⟩ := bestPending_best s
  refine ⟨fun e p ⟨pending, lower⟩ => ?_, fun k => ?_⟩
  · cases hb : s.bestPending with
    | none => exact empty hb p trivial pending
    | some q =>
      cases hh : s.arb.holder with
      | none => simp [judgeSlot, hb, hh] at e
      | some h =>
        have lt := lower h hh
        have least : (s.pre h).cfg.priority < (s.pre q).cfg.priority := by
          rcases (best q hb).2.2 p trivial pending with y | ⟨y, -⟩ <;> omega
        simp [judgeSlot, hb, hh, least] at e
  · cases e : judgeSlot s with
    | none => rfl
    | some t =>
      obtain ⟨p, -, asks, -⟩ := judgeSlot_takes e
      exact absurd asks (k p)

/-- What the slot's new holder and its old one become, and what is truncated. -/
theorem State.Takes.shares {s t : State} {p : Pre} (k : s.Takes t p) :
    t.arb = { s.arb with holder := some p, interrupted := s.arb.interrupted || s.seq.current } ∧
    (t.seq.current = false ∧ t.seq.queue = s.seq.queue ∧ t.seq.position = s.seq.position) ∧
    (∃ x, t.seq.transition = some x ∧ x.target = (s.pre p).firstTarget ∧ x.owner = .preempt) ∧
    t.pre p = { s.pre p with
      state := .entry, serviceTimer := 0, pendingAtExit := false
      stage := if t.seq.owedEnds = 0 then .clearing else .minimum } ∧
    (∀ h, s.arb.holder = some h → t.pre h = (s.pre h).putOut) ∧
    ∃ x : State, x.chans = s.chans ∧ x.greens = s.greens ∧ Truncated (s.pre p).cfg (s.pre p).firstTarget x t := by
  cases k with
  | free hh e =>
    refine ⟨e.arb, e.stopped, e.towards, (e.pre p).trans (if_pos rfl), fun h k => ?_, e.truncates⟩
    rw [hh] at k
    cases k
  | held q hq ne e =>
    refine ⟨e.arb, e.stopped, e.towards, (e.pre p).trans (if_pos rfl), fun h k => ?_, e.truncates⟩
    obtain rfl := Option.some.inj (hq.symm.trans k)
    rw [e.pre, if_neg ne, setPre_get, if_pos rfl]

/-- The channels and greens after a truncation, by their indication and their place in the target (R79, R109). -/
theorem Truncated.channel {cfg : PreemptConfig} {target : ChanSet} {s t : State} (h : Truncated cfg target s t) (c : Chan) :
    (has target c = true → (t.chan c).ind = (s.chan c).ind ∧ (t.chan c).timer = (s.chan c).timer ∧
      has t.seq.owedEnds c = false) ∧
    (has target c = false → (s.chan c).kind = .vehicle → (s.chan c).ind = .green →
      min (s.green c).initial (cfg.minGreen - (s.green c).elapsed) = 0 →
      (t.chan c).ind = .amber ∧ (t.chan c).timer = (s.chan c).pendingSet.amber) ∧
    (has target c = false → (s.chan c).kind = .vehicle → (s.chan c).ind = .green →
      0 < min (s.green c).initial (cfg.minGreen - (s.green c).elapsed) →
      (t.chan c).ind = .green ∧ (t.green c).initial = min (s.green c).initial (cfg.minGreen - (s.green c).elapsed) ∧
        has t.seq.owedEnds c = true) ∧
    (has target c = false → (s.chan c).kind = .pedestrian → (s.chan c).ind = .green →
      (t.chan c).ind = .pedClear ∧ (t.chan c).timer =
        if cfg.pedTruncate then min cfg.pedClear (s.chan c).pendingSet.pedClear else (s.chan c).pendingSet.pedClear) ∧
    (has target c = false → (s.chan c).kind = .pedestrian → (s.chan c).ind = .pedClear →
      (t.chan c).ind = .pedClear ∧ (t.chan c).timer =
        if cfg.pedTruncate then min cfg.pedClear (s.chan c).timer else (s.chan c).timer) ∧
    ((s.chan c).ind ≠ .green → (s.chan c).ind ≠ .pedClear →
      (t.chan c).ind = (s.chan c).ind ∧ (t.chan c).timer = (s.chan c).timer) := by
  refine ⟨fun k => ?_, fun out hk hi zero => ?_, fun out hk hi pos => ?_, fun out hk hi => ?_, fun out hk hi => ?_,
    fun g p => by rw [h.still c g p]; exact ⟨rfl, rfl⟩⟩
  · obtain ⟨chan, owed⟩ := h.kept c k
    rw [chan]
    exact ⟨rfl, rfl, owed⟩
  · rw [h.ends c out hk hi zero, ended_vehicle hi hk]
    exact ⟨rfl, rfl⟩
  · obtain ⟨chan, green, owed⟩ := h.held c out hk hi (Nat.ne_of_gt pos)
    rw [chan, green]
    exact ⟨hi, rfl, owed⟩
  · refine h.cleared out hk (.inl hi) ?_
    rw [ended_pedestrian hi hk]
    exact ⟨rfl, rfl⟩
  · refine h.cleared out hk (.inr hi) ?_
    rw [ended_same (by rw [hi]; nofun)]
    exact ⟨hi, rfl⟩

/-- A preempt at rest in EXIT stays in the slot at an edge of its input, its mark brought up to the new level (R113). -/
theorem settle_exit {old new : State} {h : Pre} (hm : new.unit.mode = .controlled) (hh : new.arb.holder = some h)
    (he : (new.pre h).state = .exit) (hc : new.seq.current = false) (htr : new.seq.transition = none)
    (owed : new.seq.owedEnds = 0) (hi : new.arb.interrupted = false) (hf : new.firstChoice = none)
    (others : ∀ q, q ≠ h → (new.pre q).state = .idle ∧ (new.pre q).active = false) :
    (settle old new).pre h = (new.pre h).marked ∧ (settle old new).arb = new.arb := by
  refine (settle_phases (fun t => (t.pre h = (new.pre h).marked ∧ t.arb = new.arb) ∧ judge t = none) old new
    (fun t ht calm => ?_) fun t u hj ⟨_, last⟩ => ?_).1
  · have own : t.pre h = (new.pre h).marked := moves_exit he (calmRequests_move calm h) (ht.pre h)
    have state : (t.pre h).state = .exit := by rw [own]; exact he
    have rest (q : Pre) (ne : q ≠ h) : t.pre q = new.pre q := by
      obtain ⟨idle, off⟩ := others q ne
      refine moves_none ?_ (ht.pre q)
      rw [idle_move idle, if_neg (by rw [Preempt.wants, off, Bool.and_false]; nofun)]
    have unit : t.unit = new.unit := by rw [ht.frame]
    have arb : t.arb = new.arb := by rw [ht.frame]
    have seq : t.seq = new.seq := by rw [ht.frame]
    refine ⟨⟨own, arb⟩, ?_⟩
    rw [judge_exit calm (by rw [unit]; exact hm) (by rw [arb]; exact hh) state (by rw [seq]; exact hc) (by rw [seq]; exact htr)
      (by rw [seq]; exact owed) fun q => ?_, judgeExit_eq (by rw [arb]; exact hh) state]
    · simp only [State.exitRecord, arb, hi, Bool.false_eq_true, if_false, ht.firstChoice, hf, Option.map_none]
    · by_cases e : q = h
      · rw [e, state]; nofun
      · rw [rest q e, (others q e).1]; nofun
  · rw [last] at hj
    cases hj

/-- A mark that agrees with the input and the locking does not move (R113). -/
theorem exit_still {r : Preempt} (he : r.state = .exit) (marks : r.active = true → r.pendingAtExit = true)
    (stays : r.pendingAtExit = true → r.active = true ∨ r.cfg.locking = true) : r.move = none := by
  have own : r.move = if r.active && !r.pendingAtExit then some { r with pendingAtExit := true }
      else if !r.active && r.pendingAtExit && !r.cfg.locking then some { r with pendingAtExit := false } else none := by
    simp only [Preempt.move, he]
  rw [own]
  cases ha : r.active with
  | true => simp [marks ha]
  | false =>
    cases hp : r.pendingAtExit with
    | false => rfl
    | true => simp [(stays hp).resolve_left (by rw [ha]; nofun)]

/-- Settles O60: the entry by the channels it truncates, the exit by the record it names, the rest in EXIT by the moves of its
mark. -/
theorem preemptSelection : Obligations.PreemptSelection := by
  unfold Obligations.PreemptSelection
  refine ⟨fun s => ⟨judgeSlot_none_iff s, fun t ht => ?_⟩, fun s h hh he => ⟨fun out => ?_, fun ends asked => ?_, fun ends unasked => ?_⟩,
    fun s h hh he => ⟨fun hi n hn => ⟨fun k => ?_, fun kind i r hr hq => ?_⟩, fun hi => ⟨fun i n hf hn => ?_, fun hf => ?_⟩,
      fun hm hc htr owed clocks others marks stays => ?_⟩,
    fun s h hm hh he hc htr owed hi hf others run stuck => ?_⟩
  · obtain ⟨p, hp, asks, takes⟩ := judgeSlot_takes ht
    obtain ⟨arb, stopped, towards, own, old, x, chans, greens, cut⟩ := takes.shares
    have best := ((bestPending_best s).2 p hp).2.2
    refine ⟨p, asks, fun q => best q trivial, by rw [arb], by rw [arb], stopped.1, stopped.2.1, stopped.2.2, by rw [own],
      by rw [own], by rw [own], by rw [own], fun h k => ?_, towards, fun c => ?_⟩
    · rw [old h k]
      refine ⟨rfl, rfl, if_congr ?_ rfl rfl⟩
      rw [Bool.or_eq_true]
    · have k := cut.channel c
      have chan : x.chan c = s.chan c := congrArg (fun v => v.get c) chans
      have green : x.green c = s.green c := congrArg (fun v => v.get c) greens
      rw [chan, green] at k
      exact k
  · simp only [judgeDwell, hh]
    refine if_neg fun ⟨_, k1, k2, k3⟩ => out ⟨?_, k2, k3⟩
    exact Option.isNone_iff_eq_none.mp k1
  · obtain ⟨k1, k2, k3⟩ := ends
    simp only [judgeDwell, hh, he, k1, k2, k3, (somePending_iff s).mpr asked, Option.isNone_none, and_self, if_true]
    rfl
  · obtain ⟨k1, k2, k3⟩ := ends
    have quiet : s.somePending = false := Bool.not_eq_true _ ▸ fun k => by
      obtain ⟨q, hq⟩ := (somePending_iff s).mp k
      exact unasked q hq
    simp only [judgeDwell, hh, he, k1, k2, k3, quiet, Option.isNone_none, and_self, if_true, Bool.false_eq_true, if_false]
    rfl
  · refine judgeExit_returns hh he ?_ hn fun _ => nofun
    unfold State.exitRecord
    rw [if_pos hi]
    rcases k with k | k
    · rw [k]
    · rw [k]; split <;> rfl
  · refine judgeExit_returns hh he ?_ hq fun hm _ => Nat.one_le_of_lt (eligible_behind hm hr)
    simp only [State.exitRecord, if_pos hi, kind, hr]
  · refine judgeExit_returns hh he ?_ hn fun _ => nofun
    simp only [State.exitRecord, hi, Bool.false_eq_true, if_false, hf, Option.map_some]
  · rw [judgeExit_eq hh he]
    simp only [State.exitRecord, hi, Bool.false_eq_true, if_false, hf, Option.map_none]
  · refine judge_exit (calmRequests_of clocks fun p => ?_) hm hh he hc htr owed fun q => ?_
    · by_cases e : p = h
      · subst e
        exact exit_still he marks stays
      · rw [idle_move (others p e).1, if_neg (by rw [Preempt.wants, (others p e).2, Bool.and_false]; nofun)]
    · by_cases e : q = h
      · rw [e, he]; nofun
      · rw [(others q e).1]; nofun
  · have turned (q : Pre) : (s.setPre h (s.pre h).turn).pre q = if q = h then (s.pre h).turn else s.pre q := setPre_get ..
    have own := (turned h).trans (if_pos rfl)
    obtain ⟨pre, arb⟩ := settle_exit (old := s) (new := s.setPre h (s.pre h).turn) hm hh (by rw [own]; exact he) hc htr owed hi hf
      fun q ne => by rw [turned, if_neg ne]; exact others q ne
    refine ⟨_, if_pos run, arb, ?_⟩
    rw [pre, own]
    have active : (s.pre h).turn.active = !(s.pre h).level := by
      simp [Preempt.active, Preempt.turn, stuck]
    refine ⟨he, rfl, fun low => ?_, fun high => ?_⟩
    · simp [Preempt.marked, active, low]
    · simp only [Preempt.marked, active, high]
      rfl

end Sys2Proof.Machine

/-! PROOFS. The entry into POWER_OUT and the tick that may follow it (R147, R157). -/

namespace Sys2Proof.Machine

/-! ### What stands outside the control modes -/

/-- The lamps, the Monitor, the signs and the unit mode stand, but for a link loss that becomes owed. -/
structure Dormant (s t : State) : Prop where
  lamps : t.lamps = s.lamps
  mon : t.mon = s.mon
  signs : t.signs = s.signs
  unit : t.unit = { s.unit with owedLinkLoss := t.unit.owedLinkLoss }

theorem Dormant.trans {s t u : State} (h : Dormant s t) (k : Dormant t u) : Dormant s u :=
  ⟨k.lamps.trans h.lamps, k.mon.trans h.mon, k.signs.trans h.signs, by rw [k.unit, h.unit]⟩

theorem settle_dormant (old : State) {new : State} (h : new.unit.mode.isControl = false) : Dormant new (settle old new) := by
  obtain ⟨-, lamps, -, -, -, -, mon, unit, -, -, signs⟩ := (settle_requested (old := old) (new := new)
    (fun e => by rw [e] at h; cases h) (fun e => by rw [e] at h; cases h)).blocks
  exact ⟨lamps, mon, signs, by rw [unit]⟩

theorem linkLoss_dormant {s : State} (h : s.unit.mode.isControl = false) : Dormant s (linkLoss s) := by
  unfold linkLoss
  split
  · next k => rcases k with k | k <;> rw [k] at h <;> cases h
  · split <;> exact ⟨rfl, rfl, rfl, rfl⟩

theorem tickTail_dormant (s : State) {u : State} (h : u.unit.mode.isControl = false) : Dormant u (tickTail s u) := by
  have first := settle_dormant s h
  have mode : (settle s u).unit.mode.isControl = false := by rw [first.unit]; exact h
  have stays : takeEntryRedEnd (s.unit.mode == .entryRed && s.unit.entryRedTimer == 1) (settle s u) = settle s u := by
    have ne : (settle s u).unit.mode ≠ .entryRed := fun e => by rw [e] at mode; cases mode
    exact if_neg (by simp [ne])
  unfold tickTail
  simp only [stays]
  split
  · have lost := linkLoss_dormant mode
    exact (first.trans lost).trans (settle_dormant _ (by rw [lost.unit]; exact mode))
  · exact first

/-- Outside the control modes a tick finds no red fail and leaves the Monitor and the lamps (R126). -/
theorem tickNoticed_uncontrolled {s : State} (h : s.unit.mode.isControl = false) :
    tickNoticed s = (driveTick s).1 ∧ (driveTick s).1.mon = s.mon ∧ (driveTick s).1.lamps = s.lamps := by
  obtain ⟨-, -, unit, -, -, -, mon, lamps, -⟩ := tickedInputs_blocks s
  obtain ⟨m, l, driven, -⟩ := driveTick_blocks s
  have own : (tickPreempts (tickedInputs s)).unit.mode.isControl = false := by
    change (tickedInputs s).unit.mode.isControl = false
    rw [unit]; exact h
  have watched : tickMonitor (tickPreempts (tickedInputs s)) = (tickPreempts (tickedInputs s), 0) :=
    if_neg (by rw [own]; nofun)
  have none : (driveTick s).2 = 0 := congrArg Prod.snd watched
  have signs (u : State) : (tickSigns u).mon = u.mon := by unfold tickSigns; split <;> rfl
  have status (u : State) : (tickStatus u).mon = u.mon := by
    unfold tickStatus
    split
    · rfl
    · split <;> rfl
  have supervised (u : State) : (tickSupervision u).mon = u.mon := by
    unfold tickSupervision loseLink
    split
    · exact flagIf_mon _ _ _
    · rfl
  refine ⟨?_, ?_, by rw [driven]; exact lamps⟩
  · rw [tickNoticed, none]
    rfl
  · have last : (driveTick s).1.mon = (tickMonitor (tickPreempts (tickedInputs s))).1.mon := by
      change (tickSupervision (tickStatus (tickSigns _))).mon = _
      rw [supervised, status, signs]
      rfl
    rw [last, watched]
    exact mon

/-- A tick in POWER_OUT (R148, R81). -/
theorem tick_powerOut {s : State} (h : s.unit.mode = .powerOut) : let t := tenthTick s
    t.chans = s.chans ∧ t.lamps = s.lamps ∧ t.mon = s.mon ∧ t.signs = s.signs ∧ t.unit.mode = .powerOut ∧
      t.unit.ftr = s.unit.ftr ∧ t.unit.remembered = s.unit.remembered := by
  have out : s.unit.mode.isControl = false := by rw [h]; rfl
  obtain ⟨noticed, mon, lamps⟩ := tickNoticed_uncontrolled out
  obtain ⟨m, l, driven, -⟩ := driveTick_blocks s
  have unit : (driveTick s).1.unit = { s.unit with outageTimer := min 65535 (s.unit.outageTimer + 1) } := by
    rw [driven]
    simp only [UnitState.tick, h]
  have signs : (driveTick s).1.signs = s.signs := by
    rw [driven]
    exact if_neg fun k => k.2 h
  have tail := tickTail_dormant s (u := (driveTick s).1) (by rw [unit]; exact out)
  simp only
  refine ⟨(tick_uncontrolled out).1, ?_⟩
  rw [tenthTick_eq, expireAll_none (not_expiring out), noticed, tail.lamps, tail.mon, tail.signs, tail.unit, mon, lamps, unit, signs]
  exact ⟨rfl, rfl, rfl, h, rfl, rfl⟩

/-! ### The entry (R147) -/

/-- What the entry into POWER_OUT does before its change of unit mode. -/
def blackout (s : State) : State := abandonExchange (leaveUnjudged (drivesOff { s with
  chans := vmap (fun _ ch => { ch with ind := .dark, held := if ch.used then some ch.ind else none }) s.chans
  unit := { s.unit with remembered := some s.unit.mode, outageTimer := 0 } }))

theorem enterPowerOut_eq (s : State) : enterPowerOut s = changeMode .powerOut (blackout s) := rfl

theorem abandonExchange_signs (s : State) : (abandonExchange s).signs.shifting = false ∧
    (s.signs.shifting = true → (abandonExchange s).signs.sck = false ∧ (abandonExchange s).signs.sdo = false ∧
      (abandonExchange s).signs.slat = false) := by
  unfold abandonExchange
  split
  · exact ⟨rfl, fun _ => ⟨rfl, rfl, rfl⟩⟩
  · next h => exact ⟨Bool.not_eq_true _ ▸ h, fun k => absurd k h⟩

theorem changeMode_timer (m : Mode) (s : State) (c : Chan) : ((changeMode m s).chan c).timer = (s.chan c).timer := by
  rw [changeMode_chan]
  split <;> rfl

/-- What else the entry into POWER_OUT leaves: the frozen timers, the Sequencer and the greens, and no exchange or half-cycle
waiting (R20, R120, R134, R178). -/
theorem enterPowerOut_freezes (s : State) : let t := enterPowerOut s
    (∀ c, (t.chan c).timer = (s.chan c).timer) ∧ t.seq = s.seq ∧ t.greens = s.greens ∧ t.mon.awaiting = none ∧
      t.unit.outageTimer = 0 ∧ t.signs.shifting = false ∧
      (s.signs.shifting = true → t.signs.sck = false ∧ t.signs.sdo = false ∧ t.signs.slat = false) := by
  obtain ⟨g, e⟩ := abandonExchange_eq (leaveUnjudged (drivesOff { s with
    chans := vmap (fun _ ch => { ch with ind := .dark, held := if ch.used then some ch.ind else none }) s.chans
    unit := { s.unit with remembered := some s.unit.mode, outageTimer := 0 } }))
  obtain ⟨idle, low⟩ := abandonExchange_signs (leaveUnjudged (drivesOff { s with
    chans := vmap (fun _ ch => { ch with ind := .dark, held := if ch.used then some ch.ind else none }) s.chans
    unit := { s.unit with remembered := some s.unit.mode, outageTimer := 0 } }))
  have asks := (changeMode_asks .powerOut (blackout s)).1
  simp only
  rw [enterPowerOut_eq, changeMode_seq, changeMode_greens, changeMode_mon, changeMode_unit, asks]
  refine ⟨fun c => ?_, ?_, ?_, ?_, ?_, idle, low⟩
  · rw [changeMode_timer, blackout, e]
    simp only [leaveUnjudged, drivesOff, State.chan, vmap_get]
  · rw [blackout, e]; rfl
  · rw [blackout, e]; rfl
  · rw [blackout, e]; rfl
  · rw [blackout, e]; rfl

/-- A category that falls to DROPOUT enters POWER_OUT (R147). -/
theorem changeCategory_dropout (s : State) : let t := changeCategory .dropout s
    t.unit.mode = .powerOut ∧ t.unit.remembered = some s.unit.mode ∧ t.unit.ftr = false ∧ t.lamps.drives = 0 ∧
      (∀ c, (t.chan c).ind = .dark ∧ (t.chan c).timer = (s.chan c).timer ∧
        (t.chan c).held = if (s.chan c).used then some (s.chan c).ind else none) ∧
      t.signs.shifting = false ∧ t.mon.record = s.mon.record ∧ t.mon.awaiting = none ∧
      (s.signs.shifting = true → t.signs.sck = false ∧ t.signs.sdo = false ∧ t.signs.slat = false) ∧
      (s.time.lock ≠ .locked → t.unit.outageTimer = 0 ∧ t.seq = s.seq ∧ t.greens = s.greens) := by
  have changed : changeCategory .dropout s = fallbackTick (s.time.lock == .locked) s.time.clock
      (settle s (enterPowerOut (missLock (flag .supply { s with time := { s.time with category := .dropout } })))) := rfl
  obtain ⟨x, n, missed, -⟩ := missLock_eq (flag .supply { s with time := { s.time with category := .dropout } })
  generalize hu : missLock (flag .supply { s with time := { s.time with category := .dropout } }) = u at changed missed
  obtain ⟨chans, drives, mode, ftr, remembered, -, -, record⟩ := enterPowerOut_view u
  obtain ⟨timer, seq, greens, awaiting, outage, shifting, low⟩ := enterPowerOut_freezes u
  have out : (enterPowerOut u).unit.mode.isControl = false := by rw [mode]; rfl
  have settled := settle_uncontrolled s out
  have dormant := settle_dormant s out
  have frozen := settle_frozen (old := s) mode
  generalize settle s (enterPowerOut u) = v at changed settled dormant frozen
  have entered : v.unit.mode = .powerOut ∧ v.unit.remembered = some s.unit.mode ∧ v.unit.ftr = false ∧ v.lamps.drives = 0 ∧
      (∀ c, (v.chan c).ind = .dark ∧ (v.chan c).timer = (s.chan c).timer ∧
        (v.chan c).held = if (s.chan c).used then some (s.chan c).ind else none) ∧
      v.signs.shifting = false ∧ v.mon.record = s.mon.record ∧ v.mon.awaiting = none ∧
      (s.signs.shifting = true → v.signs.sck = false ∧ v.signs.sdo = false ∧ v.signs.slat = false) ∧
      v.unit.outageTimer = 0 ∧ v.seq = s.seq ∧ v.greens = s.greens := by
    have chan (c : Chan) : v.chan c = (enterPowerOut u).chan c := by rw [State.chan, settled.chans]; rfl
    rw [dormant.unit, dormant.lamps, dormant.signs, dormant.mon, settled.seq, frozen, record, seq, greens]
    have same (c : Chan) : u.chan c = s.chan c := by rw [missed]; rfl
    refine ⟨mode, remembered.trans ?_, ftr, drives, fun c => ?_, shifting, ?_, awaiting, fun k => low ?_, outage, ?_, ?_⟩
    · rw [missed]; rfl
    · rw [chan, timer, same, (chans c).2, same]
      exact ⟨(chans c).1.1, rfl, rfl⟩
    all_goals rw [missed]
    · rfl
    · exact k
    · rfl
    · rfl
  simp only
  rw [changed]
  obtain ⟨e1, e2, e3, e4, e5, e6, e7, e8, e9, e10, e11, e12⟩ := entered
  by_cases ticks : (s.time.lock == .locked && v.time.lastTenth + Config.tenthMicros ≤ s.time.clock) = true
  · have ticked : fallbackTick (s.time.lock == .locked) s.time.clock v =
        tenthTick { v with time := { v.time.seen s.time.clock with lastTenth := s.time.clock } } := if_pos ticks
    obtain ⟨k1, k2, k3, k4, k5, k6, k7⟩ := tick_powerOut
      (s := { v with time := { v.time.seen s.time.clock with lastTenth := s.time.clock } }) e1
    generalize tenthTick _ = w at *
    have chan (c : Chan) : w.chan c = v.chan c := congrArg (fun x => x.get c) k1
    simp only [ticked, chan, k2, k3, k4, k5, k6, k7]
    refine ⟨trivial, e2, e3, e4, e5, e6, e7, e8, e9, fun free => absurd ?_ free⟩
    exact beq_iff_eq.mp (Bool.and_eq_true_iff.mp ticks).1
  · have still : fallbackTick (s.time.lock == .locked) s.time.clock v = v := if_neg ticks
    rw [still]
    exact ⟨e1, e2, e3, e4, e5, e6, e7, e8, e9, fun _ => ⟨e10, e11, e12⟩⟩

end Sys2Proof.Machine

/-! PROOFS. A short outage resume: the acts of the Unit Mode Machine and the orders of the moment (R20, R148). -/

namespace Sys2Proof.Machine

/-! ### The orders of a moment outside CONTROLLED -/

/-- Outside CONTROLLED the judgments of a moment give no order of a preempt. -/
theorem settle_orders_uncontrolled {old new : State} (h : new.unit.mode ≠ .controlled) : Orders true new (settle old new) := by
  have noted (o s : State) : Orders true s (noting o s) := by
    obtain ⟨m, e⟩ := noting_eq o s
    rw [e]
    exact .single (.flags m)
  refine (settle_induction (fun t => Orders true new t ∧ t.unit.mode ≠ .controlled) (fun t u hj ⟨before, out⟩ => ?_) old new
    ⟨noted old new, by rw [noting_unit]; exact h⟩).1
  rw [noting_unit]
  have step : Orders true t u ∧ u.unit.mode ≠ .controlled := by
    rcases judge_cases hj with k | k | ⟨hm, -⟩ | ⟨hm, k⟩
    · obtain ⟨-, rfl⟩ := judgeClocks_some k
      exact ⟨.single .clocks, out⟩
    · obtain ⟨p, r, -, rfl⟩ := judgeRequests_some k
      exact ⟨.single (.plan _ _ _), out⟩
    · exact absurd hm out
    · obtain ⟨-, rfl⟩ | ⟨ha, rfl⟩ := judgeClearing_some k
      · refine ⟨terminateAll_orders fun _ c hc => by rw [greenOf_kind hc]; exact nofun, ?_⟩
        rw [(terminateAll_touches t.runOut t).calm.1]
        exact out
      · exact ⟨.single (.flashes hm ha), by simp [enterLocalFlash]⟩
  exact ⟨(before.trans step.1).trans (noted t u), step.2⟩

theorem settle_orders_free {q : Bool} {old new : State} (h : q = true → new.unit.mode ≠ .controlled ∨ new.preemptsQuiet) :
    Orders q new (settle old new) := by
  cases q with
  | false => exact settle_orders nofun
  | true =>
    rcases h rfl with k | k
    · exact settle_orders_uncontrolled k
    · exact settle_orders fun _ => k

/-! ### What the orders leave of a channel that shows an interval or a green -/

section
variable {q : Bool} {s t : State} {c : Chan}

theorem orders_interval (h : Orders q s t) (hu : (s.chan c).used = true)
    (hi : (s.chan c).ind = .amber ∨ (s.chan c).ind = .redClear) : t.chan c = s.chan c := by
  refine orders_keep h (fun r _ => r = s.chan c) c (fun r g r' g' e step => ?_) rfl
  subst e
  exact step.interval hu hi

theorem orders_clears (h : Orders q s t) (hu : (s.chan c).used = true) (hi : (s.chan c).ind = .pedClear) :
    ∃ n, t.chan c = { s.chan c with timer := n } ∧ n ≤ (s.chan c).timer ∧ (q = true → n = (s.chan c).timer) := by
  refine orders_keep h
    (fun r _ => ∃ n, r = { s.chan c with timer := n } ∧ n ≤ (s.chan c).timer ∧ (q = true → n = (s.chan c).timer)) c
    (fun r g r' g' ⟨n, e, hn, k⟩ step => ?_) ⟨_, rfl, Nat.le_refl _, fun _ => rfl⟩
  subst e
  obtain ⟨m, e, hm, l⟩ := step.clears hu hi
  exact ⟨m, e, hm.trans hn, fun y => (l y).trans (k y)⟩

/-- A walk goes on through the orders of a moment without a preempt. -/
theorem orders_walk (h : Orders true s t) (hk : (s.chan c).kind = .pedestrian) (hi : (s.chan c).ind = .green) :
    (t.chan c).ind = .green ∧ (t.chan c).timer = (s.chan c).timer := by
  refine (orders_keep h (fun r _ => r.kind = .pedestrian ∧ r.ind = .green ∧ r.timer = (s.chan c).timer) c
    (fun r g r' g' ⟨h1, h2, h3⟩ step => ?_) ⟨hk, hi, rfl⟩).2
  cases step with
  | same => exact ⟨h1, h2, h3⟩
  | clock => exact ⟨h1, h2, h3⟩
  | initial => exact ⟨h1, h2, h3⟩
  | amber _ _ e => rw [h1] at e; cases e
  | pedClear _ _ _ e => cases e
  | green _ _ _ e => rw [h2] at e; cases e
  | clearance _ _ e => rw [h2] at e; cases e
  | flash _ _ e =>
    rcases e with e | e
    · simp [Channel.used, h1] at e
    · rw [h2] at e; cases e

/-- A vehicle green goes on or is ended by the orders of a moment. -/
theorem orders_green (h : Orders q s t) (hk : (s.chan c).kind = .vehicle) (hi : (s.chan c).ind = .green) :
    ((t.chan c).ind = .green ∨ (t.chan c).ind = .amber) ∧ ((t.chan c).ind = .green → GreenRuns q (s.green c) (t.green c)) := by
  have ended := orders_keep h (fun r _ => r.kind = .vehicle ∧ (r.ind = .green ∨ r.ind = .amber)) c
    (fun r g r' g' ⟨kind, ind⟩ step => by
      have used : r.used = true := by simp [Channel.used, kind]
      have notRed : r.ind ≠ .red := by rcases ind with e | e <;> rw [e] <;> nofun
      cases step with
      | same => exact ⟨kind, ind⟩
      | clock => exact ⟨kind, ind⟩
      | initial => exact ⟨kind, ind⟩
      | amber => exact ⟨kind, .inr rfl⟩
      | pedClear _ e => rw [kind] at e; cases e
      | green _ _ _ e => exact absurd e notRed
      | clearance _ e => rw [kind] at e; cases e
      | flash _ _ e =>
        rcases e with e | e
        · rw [used] at e; cases e
        · exact absurd e notRed) ⟨hk, .inl hi⟩
  have runs := orders_keep h (fun r g => GreenOrLeft q (s.green c) r g) c (fun _ _ _ _ k step => step.greenOrLeft k)
    ⟨hk, .inl ⟨hi, .refl q _⟩⟩
  refine ⟨ended.2, fun green => ?_⟩
  rcases runs.2 with ⟨-, k⟩ | ⟨k, -⟩
  · exact k
  · exact absurd green k

end

/-! ### The slot through a moment -/

/-- The arbiter stands at a judgment that finds no PENDING request, no dwell at its end and no exit (R106, R111, R113). -/
theorem judge_arb {t u : State} (hj : judge t = some u) (asks : ∀ q, (t.pre q).state ≠ .pending)
    (busy : ∀ h, t.arb.holder = some h → (t.pre h).state ≠ .exit ∧ (t.pre h).serviceTimer ≠ 0) : u.arb = t.arb := by
  rcases judge_cases hj with h | h | ⟨hm, h | h | h | h | h | h | h | h | h | h⟩ | ⟨hm, h⟩
  · obtain ⟨-, rfl⟩ := judgeClocks_some h; rfl
  · obtain ⟨p, r, hr, rfl⟩ := judgeRequests_some h; rfl
  · obtain ⟨p, hp, -⟩ := judgeSlot_some h
    exact absurd (bestPending_pending hp) (asks p)
  · obtain ⟨-, rfl⟩ := judgeOwed_some h
    exact (terminateAll_slot _ t).2
  · obtain ⟨p, -, -, -, -, rfl⟩ := judgeStage_some h; rfl
  · obtain ⟨-, c, -, -, rfl⟩ := judgeStart_some h
    exact (startMoment_slot c t).2
  · obtain ⟨tr, -, -, ⟨-, rfl⟩ | ⟨-, ⟨-, rfl⟩ | ⟨p, -, rfl⟩⟩⟩ := judgeFull_some h <;> rfl
  · obtain ⟨p, hp, -, h0, -⟩ := judgeTrack_some h
    exact absurd h0 (busy p hp).2
  · obtain ⟨p, hp, -, -, h0, -⟩ := judgeDwell_some h
    exact absurd h0 (busy p hp).2
  · obtain ⟨p, i, drop, hp, he, -⟩ := judgeExit_some h
    exact absurd he (busy p hp).1
  · obtain ⟨r, -, -, ⟨-, i, -, rfl⟩ | ⟨-, -, -, rfl⟩ | ⟨-, -, rfl⟩⟩ := judgeTermination_some h
    · exact (makeCurrent_slot _ _ t).2
    · rfl
    · rfl
  · obtain ⟨-, -, i, -, rfl⟩ := judgeFirst_some h
    exact (makeCurrent_slot _ _ t).2
  · obtain ⟨-, rfl⟩ | ⟨-, rfl⟩ := judgeClearing_some h
    · exact (terminateAll_slot _ t).2
    · simp [enterLocalFlash]

/-- With no preempt about, the judgments of a moment leave the arbiter. -/
theorem settle_quiet_arb {old new : State} (h : new.preemptsQuiet) : (settle old new).arb = new.arb := by
  refine (settle_induction (fun t => t.preemptsQuiet ∧ t.arb = new.arb) (fun t u hj ⟨quiet, same⟩ => ?_) old new
    ⟨preemptsQuiet_of (noting_pres old new) (by rw [noting_arb]) h, noting_arb old new⟩).2
  refine ⟨preemptsQuiet_of (noting_pres t u) (by rw [noting_arb]) (judge_quiet hj quiet), ?_⟩
  rw [noting_arb, judge_arb hj (fun q => by rw [(quiet.2 q).1]; nofun) (fun p k => by rw [quiet.1] at k; cases k), same]

/-- A TRACK or a DWELL with time left keeps the arbiter. -/
theorem settle_serving_arb {p : Pre} {r : Preempt} {old new : State} (h : ServiceGoesOn p r new) :
    (settle old new).arb = new.arb := by
  have noted (o t : State) (k : ServiceGoesOn p r t) : ServiceGoesOn p r (noting o t) :=
    k.of_slot (noting_unit o t) (noting_pres o t) (noting_arb o t) fun _ x => x.of_transition (by rw [noting_seq])
  refine (settle_induction (fun t => ServiceGoesOn p r t ∧ t.arb = new.arb) (fun t u hj ⟨serves, same⟩ => ?_) old new
    ⟨noted old new h, noting_arb old new⟩).2
  refine ⟨noted t u (judge_serves hj serves), ?_⟩
  rw [noting_arb, judge_arb hj (fun q => ?_) (fun x k => ?_), same]
  · by_cases e : q = p
    · rw [e, serves.own]
      rcases serves.serves with k | k <;> rw [k] <;> nofun
    · rw [(serves.others q e).1]; nofun
  · obtain rfl := Option.some.inj (k.symm.trans serves.holder)
    rw [serves.own]
    refine ⟨?_, serves.left⟩
    rcases serves.serves with k | k <;> rw [k] <;> nofun

/-! ### The acts of the Unit Mode Machine (R148) -/

section
variable {b : Bool} {s : State}

theorem actOnResume_switch (ho : s.compat.owed = none) (hm : s.unit.mode = .entryRed ∨ s.unit.mode = .controlled)
    (hs : s.unit.switchLevel = true) : actOnResume b s = enterClearing .manual s := by
  simp only [actOnResume, ho, ite_self, hm, hs, and_self, if_true]

theorem actOnResume_lost (ho : s.compat.owed = none) (hm : s.unit.mode = .entryRed ∨ s.unit.mode = .controlled)
    (hs : s.unit.switchLevel = false) (hb : b = true) : actOnResume b s = enterClearing .linkLost s := by
  simp only [actOnResume, ho, ite_self, hm, hs, hb, and_self, if_true, Bool.false_eq_true, and_false, if_false]

theorem actOnResume_still (ho : s.unit.mode.isControl = true → s.compat.owed = none)
    (hm : s.unit.mode = .entryRed ∨ s.unit.mode = .controlled → s.unit.switchLevel = false ∧ b = false) :
    actOnResume b s = s := by
  have none : (if s.unit.mode.isControl then s.compat.owed else none) = none := by
    split
    · next h => exact ho h
    · rfl
  simp only [actOnResume, none]
  rw [if_neg, if_neg]
  · rintro ⟨k, e⟩
    rw [(hm k).2] at e
    cases e
  · rintro ⟨k, e⟩
    rw [(hm k).1] at e
    cases e

end

/-- The state in which a remembered mode has just been taken up again. -/
def resumed (m : Mode) (s : State) : State := changeMode m (restoreHeld s)

theorem shortResume_eq (m : Mode) (s : State) : shortResume m s = endOutage (actOnResume s.unit.owedLinkLoss (resumed m s)) := rfl

theorem resumed_blocks (m : Mode) (s : State) : (resumed m s).compat = s.compat ∧ (resumed m s).seq = s.seq ∧
    (resumed m s).greens = s.greens ∧ (resumed m s).arb = s.arb ∧ (resumed m s).pres = s.pres ∧ (resumed m s).dets = s.dets ∧
    (resumed m s).unit = { s.unit with mode := m, ftr := m.relay } := by
  unfold resumed
  rw [changeMode_compat, changeMode_seq, changeMode_greens, changeMode_arb, changeMode_pres, changeMode_dets, changeMode_unit]
  simp only [restoreHeld, and_self]

theorem resumed_chan (m : Mode) (s : State) (c : Chan) : ((resumed m s).chan c).ind = (s.chan c).held.getD .dark ∧
    ((resumed m s).chan c).timer = (s.chan c).timer ∧ ((resumed m s).chan c).held = none ∧
    ((resumed m s).chan c).staged = patternOf (s.chan c) ((s.chan c).held.getD .dark) ∧
    ((resumed m s).chan c).kind = (s.chan c).kind := by
  obtain ⟨ind, staged, -, held⟩ := restored_chan m s c
  have own : (restoreHeld s).chan c = { s.chan c with
      ind := (s.chan c).held.getD .dark, held := none, staged := patternOf (s.chan c) ((s.chan c).held.getD .dark) } := by
    simp only [restoreHeld, State.chan, vmap_get]
  refine ⟨ind, ?_, held, staged, ?_⟩
  · rw [resumed, changeMode_timer, own]
  · rw [resumed, changeMode_chan, own]
    split <;> rfl

end Sys2Proof.Machine

/-! PROOFS. The three ways out of an outage (R148, R149). -/

namespace Sys2Proof.Machine

/-! ### The remembered mode dropped -/

/-- Whatever follows the end of an outage, no mode is remembered and no link loss owed (R144, R148). -/
theorem endOutage_settled (o x : State) : (settle o (endOutage x)).unit.remembered = none ∧
    (settle o (endOutage x)).unit.owedLinkLoss = false := by
  obtain ⟨m, b, e⟩ := (settle_keeps o (endOutage x)).unit
  rw [e]
  exact ⟨rfl, rfl⟩

/-! ### FAULT_FLASH made again (R148, R29) -/

theorem outageToFault_settled (o s : State) : let t := settle o (outageToFault s)
    t.unit.mode = .faultFlash ∧ t.unit.ftr = false ∧ t.mon.record = s.mon.record ∧
      ∀ c, (t.chan c).ind = .dark ∧ (t.chan c).held = none := by
  have black := enterFaultFlash_blacked { s with compat := { s.compat with owed := none } }
  have record := enterFaultFlash_record { s with compat := { s.compat with owed := none } }
  have same : outageToFault s = endOutage (enterFaultFlash { s with compat := { s.compat with owed := none } }) := rfl
  generalize enterFaultFlash _ = x at black record same
  have mode : (endOutage x).unit.mode = .faultFlash := black.mode.1
  obtain ⟨chans, -, -, -, -, -, mon, unit, -⟩ := (settle_requested (old := o) (new := endOutage x) (by rw [mode]; nofun)
    (by rw [mode]; nofun)).blocks
  simp only
  rw [same, unit, mon]
  refine ⟨black.mode.1, black.mode.2, record, fun c => ?_⟩
  have chan : (settle o (endOutage x)).chan c = x.chan c := congrArg (fun v => v.get c) chans
  rw [chan]
  exact ⟨(black.chans c).1.1, (black.chans c).2⟩

/-! ### The restart (R149) -/

theorem restart_settled (o s : State) : let t := settle o (restart s)
    t.unit.remembered = none ∧ t.unit.owedLinkLoss = false ∧
    t.unit.mode = .startFlash ∧ t.unit.ftr = false ∧ t.unit.startFlashTimer = s.unit.startFlashTime ∧
      t.unit.outageTimer = 0 ∧ t.compat.owed = none ∧ t.mon.record = s.mon.record ∧ t.seq.queue = s.seq.queue ∧
      t.mon.awaiting = s.mon.awaiting ∧ t.seq.position = 0 ∧ t.seq.current = false ∧ t.seq.hold = false ∧
      (∀ c, (t.chan c).ind = .dark ∧ (t.chan c).held = none) ∧
      ∀ c, (t.green c).latch = (s.chan c).used ∧ (t.green c).actCount = 0 := by
  obtain ⟨compat, -, -, -, record, awaiting, queue, -, position, current, hold⟩ := restart_blocks s
  have unit := restart_unit s
  have chan := restart_chan s
  generalize restart s = x at *
  have mode : x.unit.mode = .startFlash := by rw [unit]
  have requested := settle_requested (old := o) (new := x) (by rw [mode]; nofun) (by rw [mode]; nofun)
  obtain ⟨chans, -, compat', seq, -, -, mon, unit', -⟩ := requested.blocks
  have own (c : Chan) : (settle o x).chan c = x.chan c := congrArg (fun v => v.get c) chans
  simp only
  rw [unit', compat', mon, seq, unit, compat]
  refine ⟨rfl, rfl, rfl, rfl, rfl, rfl, rfl, record, queue, awaiting, position, current, hold, fun c => ?_, fun c => ?_⟩
  · rw [own]
    exact ⟨(chan c).1, (chan c).2.1⟩
  · obtain ⟨dark, -, -, -, -, green⟩ := chan c
    rcases requested.green c with e | ⟨-, -, e⟩
    · rw [e, green]
      exact ⟨rfl, rfl⟩
    · rw [dark] at e
      cases e

/-! ### What a resume owes (R29, R139, R144) -/

section
variable {m : Mode} {s : State}

theorem recordFindings_written (f : Finding) (fs : List Finding) (s : State) : (recordFindings (f :: fs) s).mon.record ≠ none := by
  cases hr : s.mon.record with
  | none => rw [recordFindings_empty f fs s hr]; nofun
  | some r => rw [recordFindings_full (f :: fs) s hr]; nofun

/-- An owed Compatibility notice ends the resumed control mode in FAULT_FLASH (R29). -/
theorem shortResume_noticed (o : State) {k : FaultCause} (hc : m.isControl = true) (ho : s.compat.owed = some k) :
    (settle o (shortResume m s)).InFaultFlash ∧ (settle o (shortResume m s)).compat.owed = none := by
  obtain ⟨compat, -, -, -, -, -, unit⟩ := resumed_blocks m s
  rw [shortResume_eq]
  rcases actOnResume_cases s.unit.owedLinkLoss (resumed m s) with ⟨j, -, -, e⟩ | ⟨none, -⟩ | ⟨none, -⟩
  · obtain ⟨r, n, recorded⟩ := recordFindings_eq [⟨j, 0, 0⟩] { resumed m s with compat := { (resumed m s).compat with owed := none } }
    have fault := enterFaultFlash_inFault (recordFindings_written ⟨j, 0, 0⟩ []
        { resumed m s with compat := { (resumed m s).compat with owed := none } })
    have plug := enterFaultFlash_compat (recordFindings [⟨j, 0, 0⟩]
        { resumed m s with compat := { (resumed m s).compat with owed := none } })
    rw [e]
    generalize enterFaultFlash _ = x at fault plug
    have ended : (endOutage x).InFaultFlash := { fault with }
    refine ⟨ended.settled, ?_⟩
    rw [(settle_keeps o (endOutage x)).compat]
    change x.compat.owed = none
    rw [plug, recorded]
  all_goals
    have := none (by rw [unit]; exact hc)
    rw [compat, ho] at this
    cases this

/-- An orderly flash that begins at the resume (R139, R143, R144). -/
theorem shortResume_clearing (o : State) {k : FlashCause}
    (h : actOnResume s.unit.owedLinkLoss (resumed m s) = enterClearing k (resumed m s)) :
    (settle o (shortResume m s)).unit.cause = k ∧ ((settle o (shortResume m s)).unit.mode = .clearingToFlash ∨
      (settle o (shortResume m s)).unit.mode = .localFlash) := by
  have entered : (shortResume m s).unit.cause = k ∧ (shortResume m s).unit.mode = .clearingToFlash := by
    rw [shortResume_eq, h]
    change (enterClearing k (resumed m s)).unit.cause = k ∧ (enterClearing k (resumed m s)).unit.mode = _
    rw [(enterClearing_view k (resumed m s)).2.2.2.2.1]
    exact ⟨rfl, rfl⟩
  rcases settle_unit o (shortResume m s) with e | ⟨-, e⟩
  · rw [e]; exact ⟨entered.1, .inl entered.2⟩
  · rw [e]; exact ⟨entered.1, .inr rfl⟩

/-! ### What a resume restores (R20, R81, R115) -/

theorem enterClearing_greens (k : FlashCause) (s : State) : (enterClearing k s).greens = s.greens := by
  have left (u : State) : (leaveService u).greens = u.greens := by
    unfold leaveService
    split <;> rfl
  rw [enterClearing, changeMode_greens]
  exact left (stopExecution s)

/-- In a control mode with no notice owed, whatever the Unit Mode Machine does, the restored channels and the frozen greens
stand when the other blocks judge. -/
theorem shortResume_restores (hc : m.isControl = true) (ho : s.compat.owed = none) :
    (∀ c, (shortResume m s).chan c = (resumed m s).chan c ∧ (shortResume m s).green c = s.green c) ∧
      (m ≠ .controlled ∨ s.preemptsQuiet → (shortResume m s).unit.mode ≠ .controlled ∨ (shortResume m s).preemptsQuiet) := by
  obtain ⟨compat, -, greens, arb, pres, -, unit⟩ := resumed_blocks m s
  rw [shortResume_eq]
  rcases actOnResume_cases s.unit.owedLinkLoss (resumed m s) with ⟨j, -, some, -⟩ | ⟨-, -, k, e⟩ | ⟨-, e⟩
  · rw [compat, ho] at some
    cases some
  · rw [e]
    have chans := (enterClearing_view k (resumed m s)).1
    have frozen := (enterClearing_greens k (resumed m s)).trans greens
    refine ⟨fun c => ⟨congrArg (fun v => v.get c) chans, congrArg (fun v => v.get c) frozen⟩, fun _ => .inl ?_⟩
    · change (enterClearing k (resumed m s)).unit.mode ≠ _
      rw [(enterClearing_view k (resumed m s)).2.2.2.2.1]
      nofun
  · rw [e]
    refine ⟨fun c => ⟨rfl, congrArg (fun v => v.get c) greens⟩, fun h => h.imp (fun ne => ?_) fun quiet => ?_⟩
    · change (resumed m s).unit.mode ≠ _
      rw [unit]
      exact ne
    · exact preemptsQuiet_of pres (congrArg Arbiter.holder arb) quiet

/-- The intervals, walks and greens of a resumed control mode when the moment is settled (R20, R81, R115). -/
theorem shortResume_channel (o : State) (hc : m.isControl = true) (ho : s.compat.owed = none) {q : Bool}
    (hq : q = true → m ≠ .controlled ∨ s.preemptsQuiet) (c : Chan) (hu : (s.chan c).used = true) :
    let t := settle o (shortResume m s)
    ((s.chan c).held = some .amber → (t.chan c).ind = .amber ∧ (t.chan c).timer = (s.chan c).timer ∧
      (t.chan c).staged = ⟨.unlit, .steady, .unlit⟩) ∧
    ((s.chan c).held = some .redClear → (t.chan c).ind = .redClear ∧ (t.chan c).timer = (s.chan c).timer ∧
      (t.chan c).staged = ⟨.steady, .unlit, .unlit⟩) ∧
    ((s.chan c).held = some .pedClear → (t.chan c).ind = .pedClear ∧ (t.chan c).timer ≤ (s.chan c).timer ∧
      (q = true → (t.chan c).timer = (s.chan c).timer) ∧ (t.chan c).staged = ⟨.flashA, .unlit, .unlit⟩) ∧
    ((s.chan c).held = some .green → (s.chan c).kind = .pedestrian → q = true →
      (t.chan c).ind = .green ∧ (t.chan c).timer = (s.chan c).timer) ∧
    ((s.chan c).held = some .green → (s.chan c).kind = .vehicle →
      ((t.chan c).ind = .green ∨ (t.chan c).ind = .amber) ∧
        ((t.chan c).ind = .green → GreenRuns q (s.green c) (t.green c))) := by
  obtain ⟨restored, free⟩ := shortResume_restores hc ho
  obtain ⟨chan, green⟩ := restored c
  obtain ⟨ind, timer, -, staged, kind⟩ := resumed_chan m s c
  have orders : Orders q (shortResume m s) (settle o (shortResume m s)) := settle_orders_free fun e => free (hq e)
  have used : ((resumed m s).chan c).used = true := by
    unfold Channel.used at hu ⊢
    rw [kind]
    exact hu
  generalize settle o (shortResume m s) = t at orders
  have shown {i : Indication} (h : (s.chan c).held = some i) : ((resumed m s).chan c).ind = i ∧
      ((resumed m s).chan c).staged = patternOf (s.chan c) i := by
    rw [ind, staged, h]
    exact ⟨rfl, rfl⟩
  refine ⟨fun h => ?_, fun h => ?_, fun h => ?_, fun h hk e => ?_, fun h hk => ?_⟩
  · obtain ⟨i, p⟩ := shown h
    rw [orders_interval orders (by rw [chan]; exact used) (.inl (by rw [chan]; exact i)), chan]
    exact ⟨i, timer, p⟩
  · obtain ⟨i, p⟩ := shown h
    rw [orders_interval orders (by rw [chan]; exact used) (.inr (by rw [chan]; exact i)), chan]
    exact ⟨i, timer, p⟩
  · obtain ⟨i, p⟩ := shown h
    obtain ⟨n, e, le, eq⟩ := orders_clears orders (by rw [chan]; exact used) (by rw [chan]; exact i)
    rw [chan, timer] at le eq
    rw [e, chan]
    exact ⟨i, le, eq, p⟩
  · obtain ⟨i, -⟩ := shown h
    subst e
    obtain ⟨k1, k2⟩ := orders_walk orders (by rw [chan, kind]; exact hk) (by rw [chan]; exact i)
    rw [chan, timer] at k2
    exact ⟨k1, k2⟩
  · obtain ⟨i, -⟩ := shown h
    have k := orders_green orders (by rw [chan, kind]; exact hk) (by rw [chan]; exact i)
    rw [green] at k
    exact k

theorem shortResume_held (o : State) (hc : m.isControl = true) (ho : s.compat.owed = none) (c : Chan) :
    ((settle o (shortResume m s)).chan c).held = none := by
  rw [((settle_keeps o (shortResume m s)).chans c).held, ((shortResume_restores hc ho).1 c).1]
  exact (resumed_chan m s c).2.2.1

/-- A green record that runs on, field by field. -/
theorem GreenRuns.fields {q : Bool} {g g' : Green} (h : GreenRuns q g g') : ∃ k r, g' = { g with clock := k, initial := r } ∧
    r ≤ g.initial ∧ (q = true → r = g.initial) ∧ (g.clock = none ∨ k = g.clock) ∧ (k = none ∨ k = some 0 ∨ k = g.clock) := by
  obtain ⟨e, le, eq, some, none⟩ := h
  refine ⟨g'.clock, g'.initial, e, le, eq, ?_, ?_⟩
  · by_cases k : g.clock = .none
    · exact .inl k
    · exact .inr (some k)
  · by_cases k : g.clock = .none
    · exact (none k).imp_right .inl
    · exact .inr (.inr (some k))

end

end Sys2Proof.Machine

/-! PROOFS. The two ends of an outage (O25). -/

namespace Sys2Proof.Machine

/-! ### The sixteenth sample (R158, R159) -/

/-- A sixteenth sample that changes the category. -/
theorem exec_sixteenth {r : Byte} {s : State} (due : s.time.sampleDue = true) (full : 15 ≤ s.time.windowCount)
    (changes : nextCategory s.time ((s.time.windowSum + r.toNat) / 16) ≠ s.time.category) :
    ∃ x, exec (.supplySample r) s = .next (changeCategory (nextCategory s.time ((s.time.windowSum + r.toNat) / 16))
      { s with time := x }) ∧ x.lock = s.time.lock := by
  have last : ¬ s.time.windowCount + 1 < 16 := by omega
  refine ⟨{ s.time.seen (s.time.lastCrossing + s.time.working.sampleDelay) with
    sampleDue := false, windowCount := 0, windowSum := 0, reading := (s.time.windowSum + r.toNat) / 16 }, ?_, rfl⟩
  have ran : exec (.supplySample r) s = .next (completeWindow (s.time.windowSum + r.toNat)
      { s with time := { s.time.seen (s.time.lastCrossing + s.time.working.sampleDelay) with sampleDue := false } }) := by
    simp only [exec, execSupplySample, due, if_true, takeSample, Timebase.seen, Config.windowSamples, if_neg last]
  rw [ran]
  exact congrArg _ (if_neg changes)

/-- Nothing that the reports follow depends on the time. -/
theorem settle_time (s new : State) (x : Timebase) : settle { s with time := x } new = settle s new := rfl

theorem changeCategory_leaves {k : Supply} {s : State} (x : Timebase) (hk : k ≠ .dropout) (hm : s.unit.mode = .powerOut) :
    changeCategory k { s with time := x } =
      settle s (leavePowerOut (flag .supply { s with time := { x with category := k } })) := by
  rw [← settle_time s _ x]
  unfold changeCategory
  rw [if_neg hk]
  exact if_pos hm

section
variable {m : Mode} {s : State}

theorem leavePowerOut_fault (hr : s.unit.remembered = some .faultFlash) : leavePowerOut s = outageToFault s := by
  simp only [leavePowerOut, hr, if_true]

theorem leavePowerOut_long (hr : s.unit.remembered = some m) (ne : m ≠ .faultFlash)
    (long : s.unit.shortOutage < s.unit.outageTimer) : leavePowerOut s = restart s := by
  simp only [leavePowerOut, hr, if_neg ne, if_neg (Nat.not_le_of_lt long)]

theorem leavePowerOut_short (hr : s.unit.remembered = some m) (ne : m ≠ .faultFlash)
    (short : s.unit.outageTimer ≤ s.unit.shortOutage) : leavePowerOut s = shortResume m s := by
  simp only [leavePowerOut, hr, if_neg ne, if_pos short]

/-- Every way out of an outage forgets the remembered mode and an owed link loss (R144, R148). -/
theorem leavePowerOut_forgets (o : State) (hr : s.unit.remembered = some m) :
    (settle o (leavePowerOut s)).unit.remembered = none ∧ (settle o (leavePowerOut s)).unit.owedLinkLoss = false := by
  by_cases fault : m = .faultFlash
  · rw [leavePowerOut_fault (by rw [hr, fault])]
    exact endOutage_settled o _
  · by_cases short : s.unit.outageTimer ≤ s.unit.shortOutage
    · rw [leavePowerOut_short hr fault short]
      exact endOutage_settled o _
    · rw [leavePowerOut_long hr fault (Nat.lt_of_not_le short)]
      exact ⟨(restart_settled o s).1, (restart_settled o s).2.1⟩

/-! ### A resume on which the Unit Mode Machine does not act (R148) -/

/-- The resumed state when the Unit Mode Machine does nothing. -/
theorem shortResume_still (ho : m.isControl = true → s.compat.owed = none)
    (hs : m = .entryRed ∨ m = .controlled → s.unit.switchLevel = false ∧ s.unit.owedLinkLoss = false) :
    shortResume m s = endOutage (resumed m s) := by
  obtain ⟨compat, -, -, -, -, -, unit⟩ := resumed_blocks m s
  rw [shortResume_eq, actOnResume_still]
  · rw [unit, compat]
    exact ho
  · rw [unit]
    exact hs

/-- What stands in the resumed state: the held indications at their frozen timers, and every other block as the outage froze
it. -/
theorem resumed_holds (m : Mode) (s : State) : let u := endOutage (resumed m s)
    (∀ c, (u.chan c).ind = (s.chan c).held.getD .dark ∧ (u.chan c).timer = (s.chan c).timer ∧ (u.chan c).held = none) ∧
    u.seq = s.seq ∧ u.greens = s.greens ∧ u.arb = s.arb ∧ u.pres = s.pres ∧ u.dets = s.dets ∧
    u.unit = { s.unit with mode := m, ftr := m.relay, remembered := none, owedLinkLoss := false } := by
  obtain ⟨-, seq, greens, arb, pres, dets, unit⟩ := resumed_blocks m s
  have chan := resumed_chan m s
  simp only [endOutage]
  generalize resumed m s = u at *
  refine ⟨fun c => ⟨(chan c).1, (chan c).2.1, (chan c).2.2.1⟩, seq, greens, arb, pres, dets, ?_⟩
  rw [unit]

/-- Outside the modes of R58 and R49 a resume leaves the channels, the Sequencer, the slot and the unit as restored. -/
theorem resumed_settled (o : State) (h1 : m ≠ .controlled) (h2 : m ≠ .clearingToFlash) :
    let t := settle o (endOutage (resumed m s))
    (∀ c, (t.chan c).ind = (s.chan c).held.getD .dark ∧ (t.chan c).timer = (s.chan c).timer ∧ (t.chan c).held = none) ∧
    t.seq = s.seq ∧ t.arb = s.arb ∧ t.unit = { s.unit with mode := m, ftr := m.relay, remembered := none, owedLinkLoss := false } := by
  obtain ⟨chan, seq, -, arb, -, -, unit⟩ := resumed_holds m s
  generalize endOutage (resumed m s) = u at *
  obtain ⟨chans, -, -, seq', -, arb', -, unit', -⟩ := (settle_requested (old := o) (new := u) (by rw [unit]; exact h1)
    (by rw [unit]; exact h2)).blocks
  have own (c : Chan) : (settle o u).chan c = u.chan c := congrArg (fun v => v.get c) chans
  simp only [own, seq', arb', unit']
  exact ⟨chan, seq, arb, unit⟩

/-- A resumed CLEARING_TO_FLASH goes on, to LOCAL_FLASH where all is RED (R143). -/
theorem resumed_clearing (o : State) : let t := settle o (endOutage (resumed .clearingToFlash s))
    ((t.unit.mode = .clearingToFlash ∨ t.unit.mode = .localFlash) ∧ t.unit.ftr = true ∧ t.unit.cause = s.unit.cause) ∧
      t.seq = { s.seq with owedEnds := t.seq.owedEnds } ∧ t.arb = s.arb := by
  obtain ⟨-, seq, -, arb, -, -, unit⟩ := resumed_holds .clearingToFlash s
  generalize endOutage (resumed .clearingToFlash s) = u at *
  obtain ⟨seq', arb'⟩ := settle_clearing_blocks (old := o) (new := u) (by rw [unit])
  refine ⟨?_, by rw [seq', seq], arb'.trans arb⟩
  rcases settle_unit o u with e | ⟨-, e⟩ <;> rw [e, unit]
  · exact ⟨.inl rfl, rfl, rfl⟩
  · exact ⟨.inr rfl, rfl, rfl⟩

/-- A resumed CONTROLLED keeps its queue mode and hold, a FIXED step with time left, and a TRACK or DWELL with time left
(R59, R115). -/
theorem resumed_controlled (o : State) : let t := settle o (endOutage (resumed .controlled s))
    (t.unit.mode = .controlled ∧ t.unit.ftr = true) ∧
    t.seq.mode = s.seq.mode ∧ t.seq.hold = s.seq.hold ∧ t.seq.nextSerial = s.seq.nextSerial ∧
    (∀ r, s.seq.current = true → s.seq.transition = none → s.record = some r → r.termination = .fixed →
      s.seq.force = false → 0 < s.seq.stepTimer → s.preemptsQuiet →
      t.seq.current = true ∧ t.seq.queue = s.seq.queue ∧ t.seq.position = s.seq.position ∧
        t.seq.stepTimer = s.seq.stepTimer ∧ t.arb = s.arb) ∧
    (∀ p, s.arb.holder = some p →
      ((s.pre p).state = .track ∨ ((s.pre p).state = .dwell ∧ s.seq.transition = none)) →
      0 < (s.pre p).serviceTimer → (∀ q, q ≠ p → (s.pre q).state = .idle ∧ (s.pre q).active = false) →
      t.arb = s.arb ∧ t.pre p = s.pre p) := by
  obtain ⟨-, seq, -, arb, pres, -, unit⟩ := resumed_holds .controlled s
  generalize endOutage (resumed .controlled s) = u at *
  have keeps := settle_keeps o u
  have mode : u.unit.mode = .controlled := by rw [unit]
  refine ⟨?_, by rw [keeps.seqMode, seq], by rw [keeps.hold, seq], by rw [keeps.nextSerial, seq],
    fun r hc ht hr hf force left quiet => ?_, fun p hh hs left others => ?_⟩
  · rw [settle_unit_same (by rw [mode]; nofun), unit]
    exact ⟨rfl, rfl⟩
  · have still : u.preemptsQuiet := preemptsQuiet_of pres (by rw [arb]) quiet
    have start : StepGoesOn s u := by
      refine ⟨mode, still, ?_, ?_, ⟨r, ?_, hf⟩, left⟩
      · rw [seq]; exact ⟨hc, rfl, rfl, rfl⟩
      · rw [seq]; exact ⟨ht, force⟩
      · rw [State.record, seq]; exact hr
    obtain ⟨k1, k2, k3, k4⟩ := (settle_goesOn (old := o) start).step
    exact ⟨k1, k2, k3, k4, (settle_quiet_arb still).trans arb⟩
  · have start : ServiceGoesOn p (s.pre p) u := by
      refine ⟨mode, by rw [arb]; exact hh, pre_of_pres pres p, hs.imp_right And.left, Nat.ne_of_gt left, fun q hq => ?_,
        fun dwell tr e => ?_⟩
      · rw [pre_of_pres pres]; exact others q hq
      · have none : s.seq.transition = none := (hs.resolve_left fun k => by rw [dwell] at k; cases k).2
        rw [seq, none] at e
        cases e
    exact ⟨(settle_serving_arb (old := o) start).trans arb, (settle_serves (old := o) start).own⟩

end

end Sys2Proof.Machine

/-! PROOFS. The two ends of an outage (O25). -/

namespace Sys2Proof.Machine

/-- Settles O25: the entry by what POWER_OUT freezes, the way out by the remembered mode, and the resume by the acts of the Unit
Mode Machine and the orders of the moment. -/
theorem outage : Obligations.Outage := by
  unfold Obligations.Outage
  refine ⟨fun r s due full out cat next => ?_, fun r s m due full hm cat next hr hne => ?_⟩
  · obtain ⟨x, ran, lock⟩ := exec_sixteenth (r := r) due full (by rw [next]; exact cat.symm)
    rw [next] at ran
    obtain ⟨k1, k2, k3, k4, k5, k6, k7, k8, k9, k10⟩ := changeCategory_dropout { s with time := x }
    exact ⟨_, ran, k1, k2, k3, k4, k5, k6, k7, k8, k9, fun free => k10 (lock ▸ free)⟩
  · obtain ⟨x, ran, -⟩ := exec_sixteenth (r := r) due full (by rw [cat]; exact next)
    rw [changeCategory_leaves x next hm] at ran
    generalize nextCategory s.time ((s.time.windowSum + r.toNat) / 16) = k at ran
    have same : (flag .supply { s with time := { x with category := k } }) =
      { s with time := { x with category := k }, link := s.link.flag .supply } := rfl
    rw [same] at ran
    generalize ({ x with category := k } : Timebase) = y at ran
    generalize s.link.flag .supply = l at ran
    have forgets := leavePowerOut_forgets (s := { s with time := y, link := l }) s hr
    refine ⟨_, ran, forgets.1, forgets.2, fun fault => ?_, fun ne long => ?_, fun ne short => ?_⟩
    · rw [leavePowerOut_fault (s := { s with time := y, link := l }) (by rw [← fault]; exact hr)]
      exact outageToFault_settled s { s with time := y, link := l }
    · rw [leavePowerOut_long (s := { s with time := y, link := l }) hr ne long]
      exact (restart_settled s { s with time := y, link := l }).2.2
    · rw [leavePowerOut_short (s := { s with time := y, link := l }) hr ne short]
      have still (ho : m.isControl = true → s.compat.owed = none)
          (hs : m = .entryRed ∨ m = .controlled → s.unit.switchLevel = false ∧ s.unit.owedLinkLoss = false) :
          shortResume m { s with time := y, link := l } = endOutage (resumed m { s with time := y, link := l }) :=
        shortResume_still ho hs
      obtain ⟨compat, -, -, -, -, -, unit⟩ := resumed_blocks m { s with time := y, link := l }
      have clears (e : m = .entryRed ∨ m = .controlled) : (resumed m { s with time := y, link := l }).unit.mode = .entryRed ∨
          (resumed m { s with time := y, link := l }).unit.mode = .controlled := by
        rw [unit]; exact e
      refine ⟨fun k hc ho => shortResume_noticed s hc ho, fun ho hm on => ?_, fun ho hm off lost => ?_,
        fun ho hm off kept => ?_, fun ho hm => ?_, fun hm => ?_, fun ho hs => ?_, fun ho hc c => ?_, fun ho hm off kept => ?_,
        fun ho hm => ?_, fun ho hm off kept => ?_⟩
      · exact shortResume_clearing s (actOnResume_switch (by rw [compat]; exact ho) (clears hm) (by rw [unit]; exact on))
      · exact shortResume_clearing s (actOnResume_lost (by rw [compat]; exact ho) (clears hm) (by rw [unit]; exact off) lost)
      · rw [still (fun _ => ho) fun _ => ⟨off, kept⟩]
        rcases hm with rfl | rfl
        · obtain ⟨-, -, -, e⟩ := resumed_settled (m := .entryRed) (s := { s with time := y, link := l }) s nofun nofun
          rw [e]
          exact ⟨rfl, rfl⟩
        · exact (resumed_controlled (s := { s with time := y, link := l }) s).1
      · subst hm
        rw [still (fun _ => ho) (by rintro (e | e) <;> cases e)]
        exact (resumed_clearing (s := { s with time := y, link := l }) s).1
      · have free : m ≠ .controlled ∧ m ≠ .clearingToFlash ∧ m ≠ .entryRed ∧ m.isControl = false := by
          rcases hm with rfl | rfl <;> exact ⟨nofun, nofun, nofun, rfl⟩
        rw [still (fun e => by rw [free.2.2.2] at e; cases e) fun e => (e.elim free.2.2.1 free.1).elim]
        obtain ⟨chan, -, -, e⟩ := resumed_settled (s := { s with time := y, link := l }) s free.1 free.2.1
        rw [e]
        exact ⟨rfl, rfl, fun c => ⟨(chan c).1, (chan c).2.2⟩⟩
      · rw [still ho hs]
        exact ⟨_, rfl, resumed_holds m { s with time := y, link := l }⟩
      · refine ⟨shortResume_held (s := { s with time := y, link := l }) s hc ho c, fun hu => ?_⟩
        have all {q : Bool} (hq : q = true → m ≠ .controlled ∨ s.preemptsQuiet) :=
          shortResume_channel (s := { s with time := y, link := l }) s hc ho hq c hu
        have free (h : ¬ (m = .controlled ∧ ¬ s.preemptsQuiet)) : true = true → m ≠ .controlled ∨ s.preemptsQuiet := fun _ => by
          by_cases e : m = .controlled
          · exact .inr (not_not.mp fun k => h ⟨e, k⟩)
          · exact .inl e
        obtain ⟨amber, red, clearance, -, green⟩ := all (q := false) nofun
        refine ⟨amber, red, fun h => ?_, fun h hk quiet => (all (free quiet)).2.2.2.1 h hk rfl, fun h hk => ?_⟩
        · obtain ⟨k1, k2, -, k4⟩ := clearance h
          exact ⟨k1, k2, fun quiet => ((all (free quiet)).2.2.1 h).2.2.1 rfl, k4⟩
        · obtain ⟨ind, runs⟩ := green h hk
          refine ⟨ind, fun g => ?_⟩
          obtain ⟨k, n, e, le, -, k1, k2⟩ := (runs g).fields
          refine ⟨k, n, e, le, fun quiet => ?_, k1, k2⟩
          obtain ⟨_, j, e', -, eq, -⟩ := (((all (free quiet)).2.2.2.2 h hk).2 g).fields
          rw [e] at e'
          exact (congrArg Green.initial e').trans (eq rfl)
      · subst hm
        rw [still (fun _ => ho) fun _ => ⟨off, kept⟩]
        obtain ⟨chan, seq, arb, e⟩ := resumed_settled (m := .entryRed) (s := { s with time := y, link := l }) s nofun nofun
        rw [e]
        exact ⟨rfl, seq, arb, fun c => ⟨(chan c).1, (chan c).2.1⟩⟩
      · subst hm
        rw [still (fun _ => ho) (by rintro (e | e) <;> cases e)]
        exact (resumed_clearing (s := { s with time := y, link := l }) s).2
      · subst hm
        rw [still (fun _ => ho) fun _ => ⟨off, kept⟩]
        obtain ⟨-, k1, k2, k3, fixed, serves⟩ := resumed_controlled (s := { s with time := y, link := l }) s
        exact ⟨k1, k2, k3, fun r hc _ ht hr hf force left quiet => fixed r hc ht hr hf force left quiet, serves⟩

end Sys2Proof.Machine
